-- ==== Sys2Proof/Word.lean ====
section
/-!
DEFINITION. The word types of the machine: what the spec treats as bits is a bit vector of the width it gives.
-/

namespace Sys2Proof

/-- One byte of the bus address space. -/
abbrev Byte := BitVec 8
/-- A 32-bit register or container word (R4, R8). -/
abbrev Word := BitVec 32
/-- A 24-bit sample or X/Y memory word (R40). -/
abbrev W24 := BitVec 24
/-- A 56-bit Iator accumulator (R42). -/
abbrev Acc := BitVec 56
/-- A 48-bit Iator instruction word (R75). -/
abbrev IWord := BitVec 48

end Sys2Proof
end

