-- ==== Sys2Proof/Syntax.lean ====
section
/-!
DEFINITION. The commands of the block (spec/opcode_table.json): one constructor per row. Operands that name a thing of fixed number are
`Fin`; a 64-bit value written in two halves is armed by its high half, the operand. `dt` is PTP cycles since the last command that carries
it. What the outside supplies (a frame, a measured value, an error that a check finds) is an operand; `flip` is the error that the first check of
an access finds: 0 none, 1 single-bit, 2 double-bit. `up` says that a result whose rounding the spec does not state is rounded up; `w0` and `w1` are
how far after each time counter's value a frame's time-stamp point lies, in units of 2^-30 ns.
-/

namespace Sys2Proof

/-- A row error that the reads of a SWEEP find: a corrected row, an uncorrectable history row or tile row, with the cycles spent in the SWEEP by the
failing read and a bus address in the row (R167). -/
inductive RowErr where
  | corrected (addr : Nat)
  | history (cycle addr : Nat)
  | tile (t cycle addr : Nat)
  deriving DecidableEq, Repr

/-- What arrives measured with a boundary: PTP cycles; the lowest reading of each rail in the ended tick (10 mV, R340); the channels whose
voltage error passed 10 % of VFS in it (R339); the largest current of each channel (10 mA) and its phase in degrees (R338). -/
structure BoundaryEnv where
  dt    : Nat
  rails : List Nat
  track : Nat
  ipeak : List Nat
  phase : List Nat
  deriving DecidableEq, Repr

/-- A transaction on the bus matrix: a read of `len` bytes, or a write of bytes. -/
structure BusReq where
  addr : Nat
  len  : Nat
  data : Option (List Byte)
  deriving DecidableEq, Repr

/-- What a Granary bank port does (R349, R350). -/
inductive GranAct where
  | read
  | write (bytes : List Byte)
  | add (v : Word)
  | swap (v : Word)
  deriving DecidableEq, Repr
/-- An access of a bank port: a byte address of the bus and an action within one 64-bit word. -/
structure GranOp where
  addr : Nat
  act  : GranAct
  deriving DecidableEq, Repr

/-- A host request through a BAR (0, 2 or 4): a read of `len` bytes, or a write of bytes with their enables. -/
structure HostReq where
  bar    : Nat
  offset : Nat
  len    : Nat
  data   : Option (List (Option Byte))
  deriving DecidableEq, Repr

/-- A part of the shadow of a resync (R295): carry words of a core, Marver's current delays, the state of a ring, Marver's history position,
a silence detector, the Silo, the sheaves that a stepping patch has left, and the end of the shadow. -/
inductive ShadowSeg where
  | words (core space first : Nat) (ws : List W24)
  | delays (first : Nat) (ws : List Nat)
  | ring (n w len z : Nat) (fill : Bool)
  | marv (wptr : Nat)
  | sil (ch state silent half waking pend : Nat) (ending seen : Bool)
  | silo (widx oldest first markState : Nat) (marks : List Nat) (rpStatus rpIdx left mode : Nat)
  | patch (sheaves : List Nat)
  | done
  deriving DecidableEq, Repr

/-- Where a mailbox command comes from (R406): the host's mailbox registers, or a datagram on MGMT with its words. -/
inductive Mbx where
  | host
  | mgmt (words : List Word)
  deriving DecidableEq, Repr

/-- What a boot finds (R431, R432): the straps, the LPDDR5 as trained, whether the NOR answers, and the milliseconds to the jump. -/
structure BootEnv where
  mode    : Fin 8
  side    : Bool
  trained : Bool
  size    : Fin 5
  ranks   : Bool
  rate    : Fin 4
  nor     : Bool
  ms      : Nat
  deriving DecidableEq, Repr

/-- The public instructions of the TAP, and a debug instruction (R447). -/
inductive TapInstr where
  | bypass | idcode | samplePreload | extest | clamp | highz | extestPulse | debug
  deriving DecidableEq, Repr

/-- The commands: one constructor per row of the opcode table, in its order. -/
inductive Instr where
  /-- `REGISTER_WRITE`, R10. A write to a register field that has no row of its own takes effect by its access code (RW, W1C, W1S,
    ST, LK), and writes to read-only fields are ignored. -/
  | registerWrite (grange : Bool) (addr : Nat) (value : Word)
  /-- `READ_CLEAR`, R11. A read of an RC field returns the value and then clears it; an event that lands in the same cycle is
    applied after the clear. -/
  | readClear (grange : Bool) (addr : Nat)
  /-- `BUS_TRANSACTION`, R360. A master issues a transaction on the bus matrix, within its limit of outstanding IDs, and the target
    arbitrates it round-robin. -/
  | busTransaction (master : Fin 11) (req : BusReq) (flip : Nat) (completes : Bool)
  /-- `MATRIX_TIMEOUT`, R362. A transaction that is not completed within 10 µs is completed with an error response and recorded as
    TIMEOUT. -/
  | matrixTimeout (idx : Nat)
  /-- `RUN_SET`, R17. Setting TICK.CTRL.RUN starts the sequencer, which waits for the next grid instant, or for the seed on the
    local base. -/
  | runSet
  /-- `FIRST_BOUNDARY`, R17. The sequencer places the first boundary at the next grid instant and numbers it by R16, or by the seed
    on the local base (R18). -/
  | firstBoundary (env : BoundaryEnv)
  /-- `RUN_CLEAR`, R38. Clearing TICK.CTRL.RUN lets the current tick finish, and no further boundary is produced. -/
  | runClear
  /-- `RUN_STOP`, R38. At the instant the next boundary would have fallen, RUNNING clears and the transmitters hold last. -/
  | runStop (dt : Nat)
  /-- `TICK_BOUNDARY`, R22. After 8,192 AUDIO periods a boundary falls: the tick number advances, the pipeline turns over and the
    claim watchdog restarts. -/
  | tickBoundary (env : BoundaryEnv)
  /-- `IRQ_AT_ARM`, R37. A write of TICK.IRQ_AT_HI arms the AT interrupt for a tick number; a number already passed fires at the
    next boundary. -/
  | irqAtArm (hi : Word)
  /-- `NUM_LO_READ`, R37. A read of TICK.NUM_LO returns bits 31:0 of the tick number and latches NUM_HI. -/
  | numLoRead
  /-- `WINDOW_START`, R22. At the usable-window start every core that has a program begins at its entry address in the reset
    register state. -/
  | windowStart
  /-- `WINDOW_END`, R25. At the window end, cores without TEND overrun and Marver's deadline is checked. -/
  | windowEnd (spent : Nat)
  /-- `CLAIM_WATCHDOG_EXPIRY`, R36. With no boundary for 3 ticks while the claim is held, the watchdog releases PAIR_CLAIM_N, sets
    FIRED and reports the fault. -/
  | claimWatchdogExpiry
  /-- `DIGEST_CLOSE`, R108. Once the scatter of the tick has ended, the engine closes the CRC-32C digest over the containers
    scattered to non-omitted sinks. -/
  | digestClose
  /-- `NOP`, R86. No operation; the instruction's moves are performed. -/
  | nop (core : Fin 64) (wait : Nat)
  /-- `TEND`, R61. Ends the core's work for the tick once every outstanding long operation has completed. -/
  | tend (core : Fin 64) (wait : Nat)
  /-- `TEND_COMPLETE`, R61. TEND completes after the last long operation: the cycle count is recorded, scattering may begin and the
    core idles. -/
  | tendComplete (core : Fin 64)
  /-- `RTS`, R92. Pops the return stack and continues at the popped address. -/
  | rts (core : Fin 64) (wait : Nat)
  /-- `DO`, R88. Opens a loop with an immediate count; a count of 0 skips the body. -/
  | doLoop (core : Fin 64) (wait : Nat)
  /-- `DOR`, R88. Opens a loop counted from a register, limited by an immediate bound. -/
  | dor (core : Fin 64) (wait : Nat)
  /-- `BRA`, R91. Continues at TARGET. -/
  | bra (core : Fin 64) (wait : Nat)
  /-- `BCC`, R90. Tests a condition in the selected lanes and branches when the test holds. -/
  | bcc (core : Fin 64) (wait : Nat)
  /-- `JSR`, R92. Pushes its own address + 1 and continues at TARGET. -/
  | jsr (core : Fin 64) (wait : Nat)
  /-- `LDI`, R93. Writes an immediate value to a register. -/
  | ldi (core : Fin 64) (wait : Nat)
  /-- `MPY`, R83. Each lane's destination becomes the product, negated and rounded as the instruction selects. -/
  | mpy (core : Fin 64) (wait : Nat)
  /-- `MAC`, R83. Each lane adds the product to its destination, negated and rounded as the instruction selects. -/
  | mac (core : Fin 64) (wait : Nat)
  /-- `ADD`, R84. Each lane computes DST := DST + SRC. -/
  | add (core : Fin 64) (wait : Nat)
  /-- `SUB`, R84. Each lane computes DST := DST − SRC. -/
  | sub (core : Fin 64) (wait : Nat)
  /-- `TFR`, R84. Each lane computes DST := SRC. -/
  | tfr (core : Fin 64) (wait : Nat)
  /-- `CMP`, R84. Sets the conditions of DST − SRC and leaves DST unchanged. -/
  | cmp (core : Fin 64) (wait : Nat)
  /-- `MAX`, R84. Each lane takes SRC into DST when SRC is greater, signed. -/
  | maxA (core : Fin 64) (wait : Nat)
  /-- `MIN`, R84. Each lane takes SRC into DST when SRC is smaller, signed. -/
  | minA (core : Fin 64) (wait : Nat)
  /-- `MAXA`, R85. Each lane takes |SRC| into DST when it is greater. -/
  | maxa (core : Fin 64) (wait : Nat)
  /-- `CLR`, R84. Each lane clears DST. -/
  | clr (core : Fin 64) (wait : Nat)
  /-- `RND`, R49. Each lane rounds DST half up at bit 23. -/
  | rnd (core : Fin 64) (wait : Nat)
  /-- `NEG`, R84. Each lane negates DST. -/
  | neg (core : Fin 64) (wait : Nat)
  /-- `ABS`, R84. Each lane takes the magnitude of DST. -/
  | absA (core : Fin 64) (wait : Nat)
  /-- `ASL`, R85. Each lane shifts DST left by COUNT and sets V on a lost sign. -/
  | asl (core : Fin 64) (wait : Nat)
  /-- `ASR`, R84. Each lane shifts DST right arithmetically by COUNT. -/
  | asr (core : Fin 64) (wait : Nat)
  /-- `FOLD`, R84. Both lanes receive the sum of the two lanes' DST. -/
  | fold (core : Fin 64) (wait : Nat)
  /-- `SAT`, R84. Saturates a DST that does not fit 24 bits and sets the lane's limit bit. -/
  | sat (core : Fin 64) (wait : Nat)
  /-- `GLD`, R63. Issues a Granary load into registers and marks them pending. -/
  | gld (core : Fin 64) (wait : Nat)
  /-- `GST`, R63. Issues a Granary store of registers that are read at issue. -/
  | gst (core : Fin 64) (wait : Nat)
  /-- `GADD`, R94. Issues an atomic add on a Granary container that returns the earlier value. -/
  | gadd (core : Fin 64) (wait : Nat)
  /-- `GSWP`, R94. Issues an atomic swap on a Granary container that returns the earlier value. -/
  | gswp (core : Fin 64) (wait : Nat)
  /-- `HPUSH`, R95. Writes one entry to a hopper; on a full hopper it is dropped and OVERFLOW is set. -/
  | hpush (core : Fin 64) (wait : Nat)
  /-- `HPOP`, R95. Reads one entry from a hopper; on an empty hopper it gets the last value and UNDERRUN is set. -/
  | hpop (core : Fin 64) (wait : Nat)
  /-- `LONG_OP_COMPLETE`, R66. A long operation completes, writes its result and clears the pending marks of its destination. -/
  | longOpComplete (core : Fin 64) (idx : Nat) (flip : Nat)
  /-- `GATHER`, R128. The Binder runs a gather descriptor, writing source samples into the windows of one core or a cast set. -/
  | gather (flip : Nat)
  /-- `SCATTER`, R128. The Binder runs a scatter descriptor once its core has executed TEND, or once Marver's list has ended for
    ORIGIN 1. -/
  | scatter (flip : Nat)
  /-- `RING_FILL`, R137. The background zero fill of a grown ring zeroes positions and raises the watermark Z. -/
  | ringFill (ddr : Bool) (count : Nat)
  /-- `RT_WRITE`, R147. Writes RT_DATA0–3 to a shadow table entry, or is ignored with RT_INDEX. -/
  | rtWrite (table : Fin 4)
  /-- `RT_SETLEN`, R132. Sets the length of a shadow table and adds all-zero entries. -/
  | rtSetlen (table : Fin 4)
  /-- `RT_CANCEL`, R147. Cancels an armed route commit. -/
  | rtCancel
  /-- `RT_REVERT`, R147. Copies the active bank into the shadow for the named table. -/
  | rtRevert (table : Fin 4)
  /-- `RT_AT_ARM`, R132. A write of BIND.RT_AT_HI arms a route commit for tick n and starts the check of the shadow. -/
  | rtAtArm (hi : Word)
  /-- `ROUTE_CHECK_DONE`, R132. The shadow check ends, and the commit stays armed or is refused with its code. -/
  | routeCheckDone
  /-- `SHADOW_SYNC_DONE`, R131. The copy of the new active banks into the shadow ends, and SYNCING clears. -/
  | shadowSyncDone
  /-- `SIL_EN_SET`, R144. Setting BIND.SIL_CTRL.EN moves the detector from OFF to ACTIVE. -/
  | silEnSet (ch : Fin 32)
  /-- `SIL_EN_CLEAR`, R144. Clearing EN moves the detector to OFF, through WAKING from HALF or STOPPED. -/
  | silEnClear (ch : Fin 32)
  /-- `HOLD_EXPIRY`, R144. After HOLD silent ticks the channel goes to HALF: the loop opens and the outputs run at 50 % duty. -/
  | holdExpiry (ch : Fin 32)
  /-- `HALF_TICKS_EXPIRY`, R144. After HALF_TICKS without signal the channel goes to STOPPED and switching stops. -/
  | halfTicksExpiry (ch : Fin 32)
  /-- `WAKING_COMPLETE`, R144. 12 ticks after a wake start, with the loop closed, the detector returns to ACTIVE. -/
  | wakingComplete (ch : Fin 32)
  /-- `REC_SET`, R139. Setting SILO.CTRL.REC starts recording one record per tick. -/
  | recSet
  /-- `REC_CLEAR`, R139. Clearing REC stops recording at the next boundary and keeps the marks and the ring. -/
  | recClear
  /-- `SILO_RECORD`, R139. The Silo writes the tick's record of the record channels into the ring, and WIDX advances. -/
  | siloRecord (accepted : Bool)
  /-- `SILO_LATE_WRITE`, R139. A buffered record is written late once LPDDR5 accepts it, and LATE_CNT increments. -/
  | siloLateWrite
  /-- `MARK_SET`, R140. Makes a mark VALID at the index of the record of the tick in which it takes effect. -/
  | markSet (m : Fin 4)
  /-- `MARK_CLEAR`, R140. Returns a mark to NONE. -/
  | markClear (m : Fin 4)
  /-- `START_MARK`, R141. Starts a replay at a VALID mark, or is refused. -/
  | startMark (m : Fin 4)
  /-- `START_INDEX`, R141. Starts a replay at RP_START, or is refused. -/
  | startIndex
  /-- `REPLAY_PAUSE`, R141. PAUSE stops reading, and the replay channels are held-last. -/
  | replayPause
  /-- `REPLAY_RESUME`, R141. RESUME continues reading at r. -/
  | replayResume
  /-- `REPLAY_ABORT`, R141. ABORT ends the replay with ABORT_CMD, and the channels then deliver 0. -/
  | replayAbort
  /-- `REPLAY_READ`, R141. In each tick of a running replay, record r is read as the input block and r advances. -/
  | replayRead
  /-- `IMG_LOAD`, R109. CMD = LOAD starts loading an image into a slot, or is refused with BUSY. -/
  | imgLoad (slot : Fin 2)
  /-- `LOAD_COMPLETE`, R109. The load checks finish: the slot becomes READY and LOADED sets, or the image is refused. -/
  | loadComplete
  /-- `CANCEL_SWITCH`, R114. Disarms an armed switch before boundary T−1. -/
  | cancelSwitch
  /-- `CANCEL_PATCH`, R122. Stops a stepping patch before its next step. -/
  | cancelPatch
  /-- `DISCARD`, R122. Discards the READY slot. -/
  | discard
  /-- `SWITCH_ARM`, R114. A write of IMG.SWITCH_AT_HI arms the switch to tick T, or is refused with LATE or NOT_READY. -/
  | switchArm (hi : Word)
  /-- `PATCH_ARM`, R118. A write of IMG.PATCH_AT_HI arms a patch for tick n and starts its check. -/
  | patchArm (hi : Word)
  /-- `PATCH_CHECK_DONE`, R119. The patch check ends, and the patch stays armed or is refused. -/
  | patchCheckDone
  /-- `MARV_LOAD`, R159. Opens the broadcast of a range of sources. -/
  | marvLoad
  /-- `MARV_CLEAR`, R159. Clears the driver accumulators and partial sums of the named tiles. -/
  | marvClear
  /-- `SWEEP`, R159. Processes the pairs of a source range into the partial sums, with delay, interpolation, gain, FIR and slew. -/
  | sweep (errs : List RowErr)
  /-- `SUM`, R159. Adds the shifted partial sum to the accumulator and clears P. -/
  | sumPartial
  /-- `EMIT`, R159. Rounds and saturates each accumulator into the lane's driver feed. -/
  | emit
  /-- `END`, R161. Ends the list: CYC_LAST is recorded and the ORIGIN 1 scatters may run. -/
  | endList
  /-- `GSW_ARM`, R162. A write of MARV.GSW_AT_HI arms a group-bank switch, or is refused with LATE or GSW_BUSY. -/
  | gswArm (hi : Word)
  /-- `BANK_SYNC_DONE`, R162. The copy of the new active bank into the idle bank ends, and SYNCING clears. -/
  | bankSyncDone
  /-- `UPD_COPY`, R163. COPY checks an update list and starts writing it into the idle banks, or refuses it. -/
  | updCopy
  /-- `UPD_ABORT`, R168. ABORT stops a running copy after the records already written. -/
  | updAbort (count : Nat)
  /-- `UPD_COPY_DONE`, R163. The copy completes with DONE and TOUCHED. -/
  | updCopyDone
  /-- `SAP_ARM`, R183. ARM moves a STOPPED or FAULT port to ARMED, or is refused with a reason. -/
  | sapArm (port : Fin 16)
  /-- `SAP_STOP`, R182. STOP moves a RUNNING or ARMED port to STOPPED at the next boundary. -/
  | sapStop (port : Fin 16)
  /-- `START_AT_ARM`, R185. A write of SAP.START_AT_HI arms the masked groups for tick n, or is refused as late. -/
  | startAtArm (hi : Word)
  /-- `PIN_START_ARM`, R185. Setting SAP.PIN_CTRL.ARM arms the pin start of the named groups. -/
  | pinStartArm (value : Word)
  /-- `SAP_START_EDGE`, R185. A filtered SAP_START edge consumes the pin arming and starts the groups at the following boundary. -/
  | sapStartEdge (falling : Bool) (near : Bool)
  /-- `SAP_RECEIVE_FRAME`, R186. A port stores a received frame, or discards the oldest frame on overrun. -/
  | sapReceiveFrame (port : Fin 16) (slots : List Word) (start : Int) (bclk : Nat) (lag : Nat)
  /-- `SAP_TRANSMIT_FRAME`, R186. A port plays the next frame, or repeats its last values on underrun and counts TX_OWED. -/
  | sapTransmitFrame (port : Fin 16) (start : Int) (lag : Nat) (abandoned : Bool)
  /-- `BCLK_LOSS`, R188. No slave BCLK edge for 2 expected frames puts the port in FAULT. -/
  | bclkLoss (port : Fin 16)
  /-- `BCLK_GLITCH`, R188. A slave BCLK period outside ±12.5 % puts the port in FAULT. -/
  | bclkGlitch (port : Fin 16)
  /-- `FRAME_ERROR`, R189. An FS transition off the 32S grid restarts the frame; two in a row put the port in FAULT. -/
  | frameError (port : Fin 16) (lag : Nat)
  /-- `MODE_WRITE`, R196. A write of NETn.CTRL.MODE takes the link down and restarts the PCS and training. -/
  | modeWrite (port : Fin 4) (mode : Fin 4)
  /-- `RX_EN_WRITE`, R204. Setting RX_EN enables receive, or is refused with CFG_ERR. -/
  | rxEnWrite (port : Fin 5)
  /-- `TRAIN_FAIL`, R196. KR training not complete within 500 ms sets TRAIN_FAIL and restarts. -/
  | trainFail (port : Fin 4)
  /-- `NET_LINK_UP`, R196. The link comes up, and LINK is set and reported. -/
  | netLinkUp (port : Fin 5) (partner : Nat) (eq : Nat)
  /-- `NET_LINK_DOWN`, R196. The link goes down, the frame in flight is lost and the queues are discarded. -/
  | netLinkDown (port : Fin 5) (localFault : Bool) (remoteFault : Bool)
  /-- `RECEIVE_FRAME`, R198. A received frame passes the length, FCS, control, bridge, Winnow and classification steps in order. -/
  | receiveFrame (port : Fin 5) (bytes : List Byte) (pcsErr : Bool) (dt : Nat)
  /-- `PAUSE_EXPIRY`, R215. The pause time runs out, and transmission resumes. -/
  | pauseExpiry (port : Fin 5)
  /-- `LAUNCH_TIME`, R212. A held head frame's launch time is reached, and the frame becomes eligible. -/
  | launchTime (port : Fin 5) (queue : Fin 8) (dt : Nat)
  /-- `FRAME_START`, R210. The scheduler starts the head frame of the highest eligible level when the link is free. -/
  | frameStart (port : Fin 5) (w0 w1 dt : Nat)
  /-- `FRAME_COMPLETE`, R208. A frame that has left, or has been dropped, pushes its completion descriptor. -/
  | frameComplete (port : Fin 5) (dt : Nat)
  /-- `WAKE_PATTERN_ENABLE`, R216. Setting a pattern's enable bit tests its CHECK and sets EN or BAD. -/
  | wakePatternEnable (port : Fin 5) (value : Word)
  /-- `MDIO_COMMAND`, R217. A write with BUSY = 1 starts a clause 22 MDIO read or write. -/
  | mdioCommand (value : Word)
  /-- `MDIO_DONE`, R217. The MDIO cycle ends, BUSY clears and the read data is available. -/
  | mdioDone (data : Nat)
  /-- `OCTET_LO_READ`, R218. A read of an octet counter's LO register returns bits 31:0, latches HI and clears both. -/
  | octetLoRead (port : Fin 5) (tx : Bool)
  /-- `STREAM_FRAME_BUILD`, R233. In tick k+1 the stream engine builds each stream's frames from the blocks of tick k and queues
    them. -/
  | streamFrameBuild (stream : Fin 128)
  /-- `STREAM_QUEUE_CUTOFF`, R233. A frame not queued by cycle 80,000 is dropped as TX_DROP. -/
  | streamQueueCutoff
  /-- `STREAM_FRAME_RECEIVE`, R234. A frame given to a receive stream is checked, eliminated and placed into input blocks, or
    counted late or early. -/
  | streamFrameReceive (late : Bool)
  /-- `STREAM_LOST`, R237. 12 ticks without a valid frame make a receive stream LOST, and the loss is reported. -/
  | streamLost (stream : Fin 128)
  /-- `RECOVERY_RESET`, R240. The 802.1CB recovery reset time expires, RESETS counts and the next frame passes. -/
  | recoveryReset (stream : Fin 128)
  /-- `PTP_MESSAGE_RECEIVE`, R244. A PTP message is stamped and pushed to the matching instance's hopper, and an Announce clears
    GM_LOST. -/
  | ptpMessageReceive
  /-- `GM_LOST`, R242. No Announce for 3 intervals sets GM_LOST and reports MINOR. -/
  | gmLost (i : Fin 2)
  /-- `TIME_STEP`, R243. STEP adds the step registers to the instance's counter. -/
  | timeStep (i : Fin 2) (dt : Nat)
  /-- `TIME_SET`, R243. SET loads the step registers into the instance's counter. -/
  | timeSet (i : Fin 2) (dt : Nat)
  /-- `TIME_NS_READ`, R243. A read of TIME.Tn_NS latches SEC_LO, SEC_HI and SUBNS. -/
  | timeNsRead (i : Fin 2) (dt : Nat)
  /-- `SEL_WRITE`, R247. A write of TIME.CTRL.SEL makes a domain switch on command. -/
  | selWrite (i : Fin 2)
  /-- `SLEW_DONE`, R248. The slew residual reaches 0, SLEWING clears and SLEW_DONE sets. -/
  | slewDone
  /-- `REFERENCE_EDGE`, R258. A compared reference edge is stamped and drives the DPLL loop. -/
  | referenceEdge (n : Fin 8) (falling : Bool) (period : Nat) (err : Int)
  /-- `ACTIVITY_FAIL`, R255. 3 consecutive expected edges missing fail the reference. -/
  | activityFail (n : Fin 8)
  /-- `FREQUENCY_MEASURE`, R255. Each second the reference's offset is measured, and it qualifies or fails. -/
  | frequencyMeasure (n : Fin 8) (ofs : Int)
  /-- `SOURCE_CONDITION_FAIL`, R256. A reference whose source condition ceases becomes FAILED with SOURCE. -/
  | sourceConditionFail (n : Fin 8)
  /-- `STAGE_ADVANCE`, R260. A dwell met within LOCK_NS narrows to the next lehr stage, and entering the last stage gives LOCKED. -/
  | stageAdvance
  /-- `WAIT_TO_RESTORE_EXPIRY`, R264. A reference's wait-to-restore ends and it becomes eligible. -/
  | waitToRestoreExpiry (n : Fin 8)
  /-- `HOLDOVER_UPDATE`, R271. Each second in holdover the control word is recomputed from the model. -/
  | holdoverUpdate (up : Bool)
  /-- `KT_UPDATE`, R272. Every 60 s in LOCKED, W60 and T_REF update and kt is learned. -/
  | ktUpdate (wordUp tempUp : Bool)
  /-- `AGE_UPDATE`, R272. Every hour the ageing slope is learned. -/
  | ageUpdate
  /-- `HO_KT_WRITE`, R272. A write of HO_KT loads kt, sets VALID and restarts learning. -/
  | hoKtWrite (value : Word)
  /-- `HO_AGE_WRITE`, R272. A write of HO_AGE loads age, sets VALID and restarts learning. -/
  | hoAgeWrite (value : Word)
  /-- `XO_FAIL`, R273. An XO failure substitutes a clock from SERDES_REFCLK, sets XO_FAIL and invalidates the model. -/
  | xoFail
  /-- `XO_RESTORE`, R273. Returns to XO_IN if it has run clean for 1 s. -/
  | xoRestore (clean : Bool)
  /-- `ALIGN`, R268. Starts moving the output phase so that the build-out reaches 0. -/
  | align
  /-- `ALIGN_COMPLETE`, R268. The alignment move ends, ALIGNING clears and ALIGNED sets. -/
  | alignComplete
  /-- `HOLDOVER_COMMAND`, R259. CMD = HOLDOVER enters HOLDOVER, or FREERUN without a valid model. -/
  | holdoverCommand
  /-- `OUT_ALIGN_ARM`, R270. A write of OUT_ALIGN_AT_HI arms an output-divider alignment, or is refused as late. -/
  | outAlignArm (hi : Word)
  /-- `PLL_LOSS`, R274. A system PLL loses lock, and its LOSS bit is set and reported MAJOR. -/
  | pllLoss (pll : Fin 8)
  /-- `PAIR_EN_WRITE`, R281. Writing PAIR.CTRL.EN turns pair mode on or off, or is refused with REFUSED_STATE. -/
  | pairEnWrite (on : Bool)
  /-- `HEARTBEAT_RECEIVE`, R284. A valid heartbeat updates the path status, the digest comparison and the partner's requests. -/
  | heartbeatReceive (twin : Option (List Byte))
  /-- `PATH_LOST`, R284. 3 ticks without a valid heartbeat on a path mark it lost. -/
  | pathLost (pathB : Bool)
  /-- `CLAIM_SAMPLE`, R279. 1 µs after the boundary, the pair unit samples PAIR_CLAIM_N. -/
  | claimSample (low : Bool)
  /-- `RESYNC`, R294. CMD = RESYNC makes the standby request a resync. -/
  | resync
  /-- `SWAP`, R300. Initiates a handover to the engine without the claim, or is refused. -/
  | swap
  /-- `RELEASE`, R287. The active engine releases the claim at the next boundary and stands by. -/
  | release
  /-- `SHADOW_SEGMENT_RECEIVE`, R294. The standby stores a received shadow segment in the staging area. -/
  | shadowSegmentReceive (seg : ShadowSeg)
  /-- `REPLAY_TICK`, R297. The standby replays one buffered tick back to back, uncompared and uncounted. -/
  | replayTick
  /-- `SETTLE_END`, R296. SETTLE_LEFT reaches 0, digests are compared and a match gives STANDBY. -/
  | settleEnd
  /-- `RESYNC_RETRY`, R294. 12 ticks after a failed resync the standby asks again, or stops after 3 failures. -/
  | resyncRetry
  /-- `HANDOVER_RELEASE`, R298. 1 µs after H the outgoing engine releases the claim and drops PAIR_OWN. -/
  | handoverRelease
  /-- `PAIR_WTR_EXPIRY`, R299. The preferred side, synced in STANDBY for WTR ticks, initiates a revert handover. -/
  | pairWtrExpiry
  /-- `CHAIN_ENABLE`, R307. Setting a port's bit in CHAIN.CTRL.EN starts training. -/
  | chainEnable (p : Fin 3)
  /-- `LANE_LOCK`, R307. Every lane has seen 64 valid sync headers, and training goes to ALIGNING. -/
  | laneLock (p : Fin 3)
  /-- `LANE_ALIGN`, R307. Alignment markers within 40 ns move training to HANDSHAKE. -/
  | laneAlign (p : Fin 3) (skew : Nat)
  /-- `LINK_BLOCK_RECEIVE`, R307. LINK blocks complete the handshake checks, and the link goes UP or retrains on a failed check. -/
  | linkBlockReceive (p : Fin 3) (bytes : List Byte)
  /-- `TRAINING_TIMEOUT`, R307. Training not UP within 10 ms restarts and counts. -/
  | trainingTimeout (p : Fin 3)
  /-- `MARK_RECEIVE`, R310. A MARK updates the link delay and gives a chain-tick reference edge on CHN1. -/
  | markReceive (p : Fin 3) (bytes : List Byte) (rt : Int) (period : Nat) (err : Int) (up : Bool)
  /-- `CHAIN_MARK_LOST`, R308. 3 ticks without a valid MARK take the port DOWN. -/
  | chainMarkLost (p : Fin 3)
  /-- `LOCK_LOST`, R308. Loss of block lock on a lane takes the port DOWN. -/
  | lockLost (p : Fin 3)
  /-- `RUN_SEND`, R312. An inserted or forwarded run is sent once it is ready. -/
  | runSend (p : Fin 3) (forwarded : Bool)
  /-- `TRAILER_SEND`, R312. The trailer is sent once every expected run has gone. -/
  | trailerSend (p : Fin 3)
  /-- `SEND_CUTOFF`, R312. At 1 µs before the next boundary unstarted runs are abandoned and the trailer is sent. -/
  | sendCutoff (p : Fin 3)
  /-- `BALE_HEADER_RECEIVE`, R313. A received bale header is checked against its tick. -/
  | baleHeaderReceive (p : Fin 3) (bytes : List Byte)
  /-- `RUN_RECEIVE`, R313. A received run is checked, kept for local use and queued for forwarding. -/
  | runReceive (p : Fin 3) (bytes : List Byte) (late : Bool)
  /-- `TRAILER_RECEIVE`, R313. The trailer completes the bale, which is valid or errored. -/
  | trailerReceive (p : Fin 3) (bytes : List Byte)
  /-- `RECEIVE_CUTOFF`, R313. A bale without a trailer 0.5 µs before the boundary is errored, and its slots are held-last. -/
  | receiveCutoff (p : Fin 3)
  /-- `BALE_LOST`, R313. 3 ticks without a bale set BALE_LOST and report MAJOR. -/
  | baleLost (p : Fin 3)
  /-- `BEACON_RECEIVE`, R320. A valid beacon is forwarded with a corrected CORR, and its checks are applied. -/
  | beaconReceive (p : Fin 3) (bytes : List Byte) (arrival : Int) (residence : Int)
  /-- `DEPUTY_TAKEOVER`, R321. After 12 ticks without a master beacon, the deputy acts as master. -/
  | deputyTakeover
  /-- `NO_BEACON`, R321. A follower with no valid beacon for 12 ticks sets NO_BEACON. -/
  | noBeacon
  /-- `STOP_AT_ARM`, R324. A write of FAB.STOP_AT_HI on the master arms a fabric stop, or is refused as late. -/
  | stopAtArm (hi : Word)
  /-- `PHASE_WORD_RECEIVE`, R339. The standby slews its stagger reference toward the received phase word. -/
  | phaseWordReceive (word : Nat)
  /-- `AMP_START`, R336. START arms a half-duty start at the second boundary, or is refused. -/
  | ampStart (ch : Fin 32)
  /-- `AMP_STOP`, R336. STOP moves the channel to OFF at the next boundary. -/
  | ampStop (ch : Fin 32)
  /-- `AMP_CLEAR`, R345. CLEAR returns a LATCHED or FAULT channel to OFF. -/
  | ampClear (ch : Fin 32)
  /-- `IN_STEP_RELEASE`, R337. At the first common falling edge at or after boundary b+12, the loop closes and the channel is
    ACTIVE. -/
  | inStepRelease (ch : Fin 32)
  /-- `SHORT`, R341. Current over ILIM in 2 half-cycles drives the outputs low and enters RETRY_WAIT, or latches after the third
    retry. -/
  | short (ch : Fin 32)
  /-- `RETRY`, R341. At least 3,000 ticks after a trip, the channel retries with a half-duty start. -/
  | retry (ch : Fin 32)
  /-- `RETRIES_CLEAR`, R341. 12,000 ticks in ACTIVE without a trip clear RETRIES. -/
  | retriesClear (ch : Fin 32)
  /-- `OVER_TEMPERATURE`, R342. A filtered AMP_OT_N low puts the group in FAULT and drops AMP_EN. -/
  | overTemperature (g : Fin 8) (shorted : Nat)
  /-- `OT_RESTART`, R342. After OT_RESTART ticks high, the group's channels restart together. -/
  | otRestart (g : Fin 8)
  /-- `SENSE_LOSS`, R343. A sense bitstream without transitions for 256 periods puts the channels in FAULT. -/
  | senseLoss (kind : Fin 3) (idx : Fin 32)
  /-- `IDLE_FREQUENCY_MEASURE`, R333. The idle frequency is measured, and IDLE_RANGE is set when it lies outside 300–700 kHz. -/
  | idleFrequencyMeasure (ch : Fin 32) (freq : Nat)
  /-- `GRANARY_ACCESS`, R349. A bank port performs a read, write or atomic on a Granary word. -/
  | granaryAccess (a : Option GranOp) (b : Option GranOp) (flip : Nat)
  /-- `GRAN_PWR_WRITE`, R351. A write of GRAN.PWR requests ON, RETAIN or OFF for each half, or is refused. -/
  | granPwrWrite (value : Word)
  /-- `HALF_WAKE_COMPLETE`, R351. A half in retention comes ON. -/
  | halfWakeComplete (half : Fin 2)
  /-- `HALF_WIPE_COMPLETE`, R351. A half powered up from OFF finishes zeroing and comes ON. -/
  | halfWipeComplete (half : Fin 2)
  /-- `SCRUB_READ`, R352. Every SCRUB_DIV cycles the Gleaner reads a Granary word and writes back a correction. -/
  | scrubRead (flip : Nat)
  /-- `DDR_SCRUB_READ`, R352. Every DDR_DIV µs the Gleaner reads an LPDDR5 line. -/
  | ddrScrubRead (flip : Nat)
  /-- `MARCH_SEGMENT`, R353. Every MARCH_INT ms a segment is borrowed, march-tested and returned. -/
  | marchSegment (pass : Bool)
  /-- `HOPPER_ENABLE`, R355. Setting EN empties the hopper, or is refused with CFG_ERR. -/
  | hopperEnable (n : Fin 64)
  /-- `HOPPER_DISABLE`, R355. Clearing EN stops the hopper and keeps its entries. -/
  | hopperDisable (n : Fin 64)
  /-- `HOPPER_PUSH`, R356. An agent pushes an entry, or it is dropped with OVERFLOW. -/
  | hopperPush (n : Fin 64) (entry : Nat) (lag : Nat) (withPop : Bool)
  /-- `HOPPER_POP`, R356. An agent pops an entry, or gets the last value with UNDERRUN. -/
  | hopperPop (n : Fin 64) (lag : Nat)
  /-- `HOP_PUSH_WRITE`, R356. A write of HOP.Qn_PUSH pushes an entry, the fourth write pushing a descriptor. -/
  | hopPushWrite (n : Fin 64) (value : Word)
  /-- `HOP_POP_READ`, R356. A read of HOP.Qn_POP pops an entry or the descriptor's words. -/
  | hopPopRead (n : Fin 64)
  /-- `LPDDR5_ACCESS`, R365. The DDR controller serves a read or write by class. -/
  | lpddr5Access (req : BusReq) (flip : Nat)
  /-- `HOST_REQUEST`, R368. A host request through a BAR reaches the matrix or the MSI-X structures. -/
  | hostRequest (req : HostReq) (flip : Nat) (timeout : Bool)
  /-- `DB_H2G_SET_WRITE`, R370. A write to PCIE.DB_H2G_SET sets doorbell bits and interrupts the Grange. -/
  | dbH2gSetWrite (value : Word)
  /-- `DB_G2H_SET_WRITE`, R370. A write to PCIE.DB_G2H_SET rings a host doorbell. -/
  | dbG2hSetWrite (value : Word)
  /-- `FUNCTION_LEVEL_RESET`, R366. A function level reset resets only the PCIE block and the endpoint. -/
  | functionLevelReset
  /-- `FAULT_MESSAGE`, R381. The collector records a fault message and takes its reaction within 4 cycles. -/
  | faultMessage (src : Fin 128) (kind : Fin 32) (addr : Nat)
  /-- `ERR_PULSE_END`, R391. The ERR_N pulse runs out. -/
  | errPulseEnd
  /-- `SHADOW_WINDOW_CLOSE`, R389. A shadow window closes after SHADOW_TICKS boundaries. -/
  | shadowWindowClose
  /-- `RELEASE_HOLD`, R386. Ends the output hold at the next boundary. -/
  | releaseHold
  /-- `CLEAR_FIRST`, R383. Clears the FIRST record. -/
  | clearFirst
  /-- `ENTER_SAFE`, R387. Enters the safe state on command. -/
  | enterSafe
  /-- `INJECT_ARM`, R392. A write with KEY 0x5A arms a checker for an injected error. -/
  | injectArm (value : Word)
  /-- `SELF_FAULT`, R393. A parity error or state-machine disagreement in the collector enters the safe state. -/
  | selfFault (dual : Bool)
  /-- `WATCHDOG_EXPIRY`, R400. The Grange watchdog expires, releases the claim, reports WDOG and restarts the Grange or resets the
    chip. -/
  | watchdogExpiry
  /-- `WDOG_KICK`, R400. A write of 0xC35A restarts the watchdog count. -/
  | wdogKick (value : Word)
  /-- `GRANGE_RESTART`, R401. The Grange alone restarts, zeroes its SRAM and boots firmware by the last boot mode. -/
  | grangeRestart
  /-- `SENSOR_SAMPLE`, R402. Every 100 µs a sensor is sampled, median-filtered, checked for plausibility and compared with its
    limits. -/
  | sensorSample (n : Fin 34) (sample : Int)
  /-- `LOG_RECORD_WRITE`, R403. The Grange writes a buffered log record into the MRAM ring. -/
  | logRecordWrite
  /-- `INFO`, R406. Returns the life-cycle state, firmware version, status and UID. -/
  | info (via : Mbx)
  /-- `LOG_READ`, R406. Returns up to 3 log records. -/
  | logRead (via : Mbx)
  /-- `LOG_DUMP`, R406. Writes log records to host memory by outbound DMA. -/
  | logDump (via : Mbx) (ok : Bool)
  /-- `LOG_WRITE`, R406. Writes a SOFTWARE log record. -/
  | logWrite (via : Mbx)
  /-- `CFG_READ`, R406. Reads the working configuration copy. -/
  | cfgRead (via : Mbx)
  /-- `CFG_WRITE`, R406. Writes the working configuration copy. -/
  | cfgWrite (via : Mbx)
  /-- `CFG_COMMIT`, R405. Writes the working copy into the older store copy with a raised GENERATION. -/
  | cfgCommit (via : Mbx)
  /-- `SENS_READ`, R406. Returns the readings and status of up to 31 sensors. -/
  | sensRead (via : Mbx)
  /-- `UPD_STAGE`, R408. Verifies a package and starts programming it into the inactive slot. -/
  | updStage (via : Mbx)
  /-- `UPD_STAGE_COMPLETE`, R408. Programming ends with OK, or FLASH with the slot invalid. -/
  | updStageComplete (ok : Bool)
  /-- `UPD_ACTIVATE`, R408. Restarts the Grange into the staged slot on trial. -/
  | updActivate (via : Mbx)
  /-- `UPD_CONFIRM`, R408. Makes the trial slot active and raises CNT0. -/
  | updConfirm (via : Mbx)
  /-- `TRIAL_TIMEOUT`, R408. 60 s without confirmation rolls back to the previous slot. -/
  | trialTimeout
  /-- `LIB_LOAD`, R406. Copies a library image to an address and returns its length. -/
  | libLoad (via : Mbx)
  /-- `SNAP_SAVE`, R406. Saves a configuration snapshot. -/
  | snapSave (via : Mbx)
  /-- `SNAP_LOAD`, R406. Loads a configuration snapshot and commits it. -/
  | snapLoad (via : Mbx)
  /-- `LC_REQUEST`, R410. Requests a life-cycle transition, which is refused or accepted with a chip warm reset and a wipe. -/
  | lcRequest (via : Mbx)
  /-- `KEY_WRITE`, R406. Writes a key slot in BLANK or PROVISIONED. -/
  | keyWrite (via : Mbx)
  /-- `CNT_INC`, R406. Increments a monotonic counter 2–7. -/
  | cntInc (via : Mbx)
  /-- `WIPE_CFG`, R406. Writes DDR_WIPE_ON_RESET into the life-cycle record. -/
  | wipeCfg (via : Mbx)
  /-- `RESTART`, R406. Answers, then restarts the Grange. -/
  | restart (via : Mbx)
  /-- `CHIP_RESET`, R406. Answers, then performs a chip warm reset. -/
  | chipReset (via : Mbx)
  /-- `ODMA_START`, R411. Starts an outbound DMA copy to a host address. -/
  | odmaStart
  /-- `ODMA_DONE`, R411. The copy ends with DONE, or ERR on a failed write. -/
  | odmaDone (ok : Bool)
  /-- `FEED_COMPARATOR_CHANGE`, R419. A feed's sense pin crosses its threshold, and MAIN_OK or BACK_OK changes. -/
  | feedComparatorChange (backup : Bool) (mv : Nat)
  /-- `SWITCH_DELAY_EXPIRY`, R420. MAIN_OK low for DELAY µs with backup OK starts the switch to backup. -/
  | switchDelayExpiry
  /-- `RETURN_DELAY_EXPIRY`, R420. MAIN_OK high for RET_DELAY ms starts the return to main. -/
  | returnDelayExpiry
  /-- `FEED_PIN_CHANGE`, R420. After OVERLAP or DEAD µs the second select pin changes and the switch completes. -/
  | feedPinChange
  /-- `FEED_FORCE_WRITE`, R420. A write of PWR.CTRL.FORCE selects a feed through the same pin order. -/
  | feedForceWrite (force : Fin 4)
  /-- `AON_SWITCH`, R422. The AON domain changes between VAON_MAIN and VAON_BACK. -/
  | aonSwitch (back : Bool)
  /-- `DOM_REQ_WRITE`, R424. With AUTO = 0, a write requests domains on or off, or is refused. -/
  | domReqWrite (value : Word)
  /-- `DOMAIN_POWER_UP_COMPLETE`, R424. A domain finishes powering up and zeroing, and BUSY clears. -/
  | domainPowerUpComplete (d : Fin 12)
  /-- `PMBUS_VOUT_CHANGE`, R425. The Grange writes VOUT_COMMAND for an operating-point change. -/
  | pmbusVoutChange
  /-- `PMBUS_CONFIRM`, R425. After SETTLE, READ_VOUT within TOL confirms the supply. -/
  | pmbusConfirm (mv : Nat)
  /-- `PMB_ALERT`, R425. A low PMB_ALERT_N, a NACK or a fault bit reports PMBUS. -/
  | pmbAlert (low : Bool)
  /-- `STANDBY`, R426. Enters low-power standby, or is refused. -/
  | standby
  /-- `WAKE_EVENT`, R426. An enabled wake event restores the domains and clears STANDBY. -/
  | wakeEvent (k : Fin 6)
  /-- `WAKE_TIMER_EXPIRY`, R426. PWR.WAKE_TIMER expires in standby. -/
  | wakeTimerExpiry
  /-- `POWER_ON_RESET`, R427. POR_N low gives a cold reset with RSTCAUSE = POR. -/
  | powerOnReset
  /-- `PIN_RESET`, R427. RESET_N low holds a chip warm reset. -/
  | pinReset
  /-- `HOST_RESET`, R427. 0xA5C3 written to RST.CHIP gives a chip warm reset. -/
  | hostReset (grange : Bool) (value : Word)
  /-- `PERST`, R427. PCIE_PERST_N low resets the endpoint, or the chip with PERST_CHIP. -/
  | perst
  /-- `BLOCK_RESET`, R429. A block is held in reset for 1 µs and resumes as Table 17-4 gives. -/
  | blockReset (src : Fin 128) (hopper : Fin 64)
  /-- `BOOT`, R432. After reset release the ROM wipes, trains LPDDR5, verifies and starts the firmware. -/
  | boot (env : BootEnv)
  /-- `TAP_INSTRUCTION`, R447. An instruction is loaded into the TAP, with BYPASS in place of EXTEST, CLAMP or HIGHZ while RUN = 1. -/
  | tapInstruction (ir : TapInstr)
  /-- `TAP_RESET`, R447. TRST_N low or Test-Logic-Reset resets the TAP and selects IDCODE. -/
  | tapReset
  /-- `LINK_BLOCK_SEND`, R309. During HANDSHAKE a chain port sends a LINK control block every 1 µs. -/
  | linkBlockSend (p : Fin 3)
  /-- `IDLE_BEACON_SEND`, R320. While its RUN = 0 the master keeps sending a beacon with the last tick number every 8,192 AUDIO
    periods. -/
  | idleBeaconSend
  /-- `PCIE_LINK_DOWN`, R366. The PCI Express link goes down, UP clears and PCIE LINK_DOWN is reported while the datapath keeps
    running. -/
  | pcieLinkDown
  /-- `PCIE_LINK_UP`, R432. PCI Express link training completes and PCIE.LINK.UP sets, after which BAR0 accesses work. -/
  | pcieLinkUp (width : Nat) (speed : Nat)
  /-- `REFRESH_RATE_CHANGE`, R375. The LPDDR5 devices report a new refresh rate in MR4, REFRATE changes and the DDR TEMP interrupt
    sets. -/
  | refreshRateChange (code : Fin 32)
  deriving DecidableEq, Repr

end Sys2Proof
end

