-- ==== Sys2Proof/Decode.lean ====
section
/-!
DEFINITION. The commands that a word spells by the bits of spec/opcode_table.json. No row of the table gives bits, so no word spells a
command. (The 48-bit instruction words of the Iator cores are data of the block: Machine/IatorDecode.lean reads them.)
-/

namespace Sys2Proof

/-- The command spelled by a word of `nbits` bits: none, since no row has bits. (DESIGN CHOICE, log 1, safe) -/
def decodeTableWord (_nbits _w : Nat) : Option Instr := none

end Sys2Proof
end

