-- ==== Sys2Proof/Config.lean ====
section
/-!
DEFINITION. What an implementation fixes or the spec leaves open: opaque constants without a body, so that no proof can see a
value of them. Each is named in the assumption log.
-/

namespace Sys2Proof

/-- The free values: value number k of the values that the spec leaves unpredictable or does not state. (DESIGN CHOICE, log 2, safe) -/
opaque Config.freeNat : Nat → Nat

/-- Is the part of silicon step B1 and not A0 (Table 18-10)? The spec lists the two steps and does not say which one a part is. (DESIGN CHOICE, log 2, safe) -/
opaque Config.stepB1 : Bool
/-- `SYS.STEP.BASE` of the step (R448, Table 18-10). -/
def Config.stepBase : Nat := if Config.stepB1 then 2 else 1
/-- `SYS.STEP.METAL` of the step. -/
def Config.stepMetal : Nat := if Config.stepB1 then 1 else 0

/-- The fused device identity, 64 bits (R414). (DESIGN CHOICE, log 2, safe) -/
opaque Config.uid : Nat

/-- The bytes of the boot ROM, which the spec does not give (R398). (DESIGN CHOICE, log 19, safe) -/
opaque Config.romByte : Nat → Byte

/-- Does the ECDSA P-256 signature `sig` (r, s) of the SHA-256 digest of these bytes verify under the key of this slot's bytes?
The spec names the algorithms and does not define them (R412). (DESIGN CHOICE, log 2, safe) -/
opaque Config.sigOk : (key : List Nat) → (bytes : List Nat) → (sig : List Nat) → Bool

/-- The natural frequency in µrad/s that the DPLL's loop filter has at a bandwidth in mHz: R258 gives the damping, not the loop's gains. (DESIGN CHOICE, log 70, safe) -/
opaque Config.loopOmega : (bandwidth : Nat) → Nat
/-- Does a positive phase error raise the control word (R258 does not say)? (DESIGN CHOICE, log 70, safe) -/
opaque Config.loopUp : Bool

end Sys2Proof
end

