-- ==== Sys2Proof/Machine/FMap.lean ====
section
/-!
DEFINITION. Finite maps from Nat keys in one canonical form: keys strictly rising, and no entry equal to the default that an
unlisted key reads as. Registers, memory bytes, cores, hoppers and every other indexed part of the machine are held in them.
-/

namespace Sys2Proof.Machine

/-- A finite map: key and value pairs. -/
abbrev FMap (α : Type) := List (Nat × α)

/-- The value at key `k`; `d` is what an unlisted key reads as. -/
def FMap.get {α : Type} (d : α) : FMap α → Nat → α
  | [], _ => d
  | (j, v) :: r, k => if j = k then v else FMap.get d r k

/-- Drop every entry whose key the predicate picks. -/
def FMap.drop {α : Type} (m : FMap α) (p : Nat → Bool) : FMap α := m.filter (fun e => !p e.1)

/-- Set key `k` to `v`, keeping the canonical form: setting the default leaves no entry for it. -/
def FMap.set {α : Type} [DecidableEq α] (d : α) : FMap α → Nat → α → FMap α
  | [], k, v => if v = d then [] else [(k, v)]
  | (j, w) :: r, k, v =>
    if j = k then (if v = d then FMap.drop r (fun i => i == k) else (k, v) :: r)
    else if k < j ∧ v ≠ d then (k, v) :: (j, w) :: r
    else (j, w) :: FMap.set d r k v

/-- Every listed key is above `b`. -/
def FMap.above {α : Type} (b : Nat) : FMap α → Bool
  | [] => true
  | (j, _) :: _ => decide (b < j)

/-- The canonical form. -/
def FMap.wf {α : Type} [DecidableEq α] (d : α) : FMap α → Bool
  | [] => true
  | (j, v) :: r => FMap.above j r && decide (v ≠ d) && FMap.wf d r

/-- Set a run of keys from `k` upward to the values of a list. -/
def FMap.setRun {α : Type} [DecidableEq α] (d : α) (m : FMap α) (k : Nat) : List α → FMap α
  | [] => m
  | v :: vs => FMap.setRun d (FMap.set d m k v) (k + 1) vs

/-- The values at `n` keys from `k` upward. -/
def FMap.getRun {α : Type} (d : α) (m : FMap α) (k : Nat) : Nat → List α
  | 0 => []
  | n + 1 => FMap.get d m k :: FMap.getRun d m (k + 1) n

end Sys2Proof.Machine
end

