-- ==== Sys2Proof/Machine/RegMap.lean ====
section
/-!
DEFINITION. The register map of Tables 0-7, 1-6, 2-9, 4-7, 4-8, 5-7, 5-8, 6-6, 7-4, 8-5, 8-6, 9-7, 9-8, 10-6, 11-6, 12-8, 12-9,
13-4, 14-9 to 14-14, 15-5, 16-9 to 16-11 and 17-7 to 17-9: one `Fld` per field with its access code (R10) and its reset value, and
per block the list of its registers for whole-word accesses. A register array is a function of its index.
-/

namespace Sys2Proof.Machine

/-- Access codes of Table 0-8 (R10). -/
inductive Access where
  | rw | ro | rc | w1c | w1s | wo | st | lk
  deriving DecidableEq, Repr

/-- One register field: word address, highest and lowest bit, access code, value at reset. -/
structure Fld where
  addr : Nat
  hi   : Nat
  lo   : Nat
  acc  : Access
  rst  : Nat
  deriving DecidableEq, Repr

/-- The key of a field in the register store: its word address and its lowest bit. -/
def Fld.key (f : Fld) : Nat := f.addr * 32 + f.lo

/-- Two to the field's width. -/
def Fld.size (f : Fld) : Nat := 2 ^ (f.hi + 1 - f.lo)

/-- A register or an array of registers: first address, how many, the distance between two, and the fields of one. -/
structure RegDef where
  base   : Nat
  count  : Nat
  stride : Nat
  fields : Nat → List Fld

/-- Reset bandwidth of lehr stage s in mHz, Table 10-4. -/
def lehrBw (s : Nat) : Nat := if s = 0 then 100000 else if s = 1 then 10000 else if s = 2 then 1000 else 100
/-- Reset dwell of lehr stage s in seconds, Table 10-4 (the last stage has none: 0). -/
def lehrDwell (s : Nat) : Nat := if s = 0 then 2 else if s = 1 then 5 else if s = 2 then 10 else 0
/-- Nominal value in mV of a voltage sensor that has a reset limit window in Table 16-2 (0: none). Sensors 8–11 follow the
operating point, which is OP7 at reset (0.80 V). -/
def sensNominal (n : Nat) : Nat :=
  if 8 ≤ n ∧ n ≤ 12 then 800 else if 13 ≤ n ∧ n ≤ 19 then 750 else if n = 20 then 1800 else if n = 21 then 3300
  else if n = 22 then 850 else if n = 23 then 1200 else if n = 24 then 500 else if n = 25 then 850
  else if n = 26 ∨ n = 31 then 1800 else 0
/-- Reset upper limit of sensor n: + 5 %, or none (R402, Table 16-2). -/
def sensLimHi (n : Nat) : Nat := if sensNominal n = 0 then 0xFFFF else sensNominal n * 105 / 100
/-- Reset lower limit of sensor n: − 5 %, or none. -/
def sensLimLo (n : Nat) : Nat := (sensNominal n * 95 + 99) / 100

/-- `SYS.ID`, R9. -/
def R.SYS_ID : Fld := ⟨0x40000000, 31, 0, .ro, 1448677412⟩
/-- `SYS.STEP` field BASE, R9. -/
def R.SYS_STEP_BASE : Fld := ⟨0x40000004, 15, 8, .ro, 0⟩
/-- `SYS.STEP` field METAL, R9. -/
def R.SYS_STEP_METAL : Fld := ⟨0x40000004, 7, 0, .ro, 0⟩
/-- `SYS.FEATURE`, R9. -/
def R.SYS_FEATURE : Fld := ⟨0x40000008, 0, 0, .ro, 0⟩
/-- `SYS.REMAP`, R436. -/
def R.SYS_REMAP : Fld := ⟨0x4000000c, 0, 0, .rw, 0⟩
/-- `SYS.RSTCAUSE` field COUNT, R436. -/
def R.SYS_RSTCAUSE_COUNT : Fld := ⟨0x40000010, 31, 16, .ro, 0⟩
/-- `SYS.RSTCAUSE` field DDR_WIPED, R436. -/
def R.SYS_RSTCAUSE_DDR_WIPED : Fld := ⟨0x40000010, 12, 12, .ro, 0⟩
/-- `SYS.RSTCAUSE` field LAST, R436. -/
def R.SYS_RSTCAUSE_LAST : Fld := ⟨0x40000010, 11, 8, .ro, 0⟩
/-- `SYS.RSTCAUSE` field CAUSE, R436. -/
def R.SYS_RSTCAUSE_CAUSE : Fld := ⟨0x40000010, 6, 0, .w1c, 1⟩
/-- `SYS.BOOT` field TIME_MS, R436. -/
def R.SYS_BOOT_TIME_MS : Fld := ⟨0x40000014, 31, 16, .ro, 0⟩
/-- `SYS.BOOT` field NOR_ABSENT, R436. -/
def R.SYS_BOOT_NOR_ABSENT : Fld := ⟨0x40000014, 9, 9, .ro, 0⟩
/-- `SYS.BOOT` field STRAP_BAD, R436. -/
def R.SYS_BOOT_STRAP_BAD : Fld := ⟨0x40000014, 8, 8, .ro, 0⟩
/-- `SYS.BOOT` field MODE, R436. -/
def R.SYS_BOOT_MODE : Fld := ⟨0x40000014, 6, 4, .ro, 0⟩
/-- `SYS.BOOT` field PAIR_SIDE, R436. -/
def R.SYS_BOOT_PAIR_SIDE : Fld := ⟨0x40000014, 3, 3, .ro, 0⟩
/-- `SYS.BOOT` field STRAP, R436. -/
def R.SYS_BOOT_STRAP : Fld := ⟨0x40000014, 2, 0, .ro, 0⟩
/-- `PWR.CTRL` field FORCE, R434. -/
def R.PWR_CTRL_FORCE : Fld := ⟨0x40010000, 3, 2, .rw, 0⟩
/-- `PWR.CTRL` field MBB, R434. -/
def R.PWR_CTRL_MBB : Fld := ⟨0x40010000, 1, 1, .rw, 1⟩
/-- `PWR.CTRL` field AUTO, R434. -/
def R.PWR_CTRL_AUTO : Fld := ⟨0x40010000, 0, 0, .rw, 1⟩
/-- `PWR.STATUS` field PMB_BUSY, R434. -/
def R.PWR_STATUS_PMB_BUSY : Fld := ⟨0x40010004, 6, 6, .ro, 0⟩
/-- `PWR.STATUS` field STANDBY, R434. -/
def R.PWR_STATUS_STANDBY : Fld := ⟨0x40010004, 5, 5, .ro, 0⟩
/-- `PWR.STATUS` field BACK_OK, R434. -/
def R.PWR_STATUS_BACK_OK : Fld := ⟨0x40010004, 4, 4, .ro, 0⟩
/-- `PWR.STATUS` field MAIN_OK, R434. -/
def R.PWR_STATUS_MAIN_OK : Fld := ⟨0x40010004, 3, 3, .ro, 0⟩
/-- `PWR.STATUS` field AON_SRC, R434. -/
def R.PWR_STATUS_AON_SRC : Fld := ⟨0x40010004, 2, 2, .ro, 0⟩
/-- `PWR.STATUS` field FEED, R434. -/
def R.PWR_STATUS_FEED : Fld := ⟨0x40010004, 1, 0, .ro, 0⟩
/-- `PWR.DOM_REQ`, R434. -/
def R.PWR_DOM_REQ : Fld := ⟨0x40010008, 11, 0, .rw, 3⟩
/-- `PWR.DOM_STATUS` field BUSY, R434. -/
def R.PWR_DOM_STATUS_BUSY : Fld := ⟨0x4001000c, 27, 16, .ro, 0⟩
/-- `PWR.DOM_STATUS` field ON, R434. -/
def R.PWR_DOM_STATUS_ON : Fld := ⟨0x4001000c, 11, 0, .ro, 3⟩
/-- `PWR.VIN_CFG` field HYST, R434. -/
def R.PWR_VIN_CFG_HYST : Fld := ⟨0x40010010, 31, 16, .rw, 20⟩
/-- `PWR.VIN_CFG` field THRESH, R434. -/
def R.PWR_VIN_CFG_THRESH : Fld := ⟨0x40010010, 15, 0, .rw, 850⟩
/-- `PWR.SW_CFG` field DEAD, R434. -/
def R.PWR_SW_CFG_DEAD : Fld := ⟨0x40010014, 31, 24, .rw, 2⟩
/-- `PWR.SW_CFG` field OVERLAP, R434. -/
def R.PWR_SW_CFG_OVERLAP : Fld := ⟨0x40010014, 23, 16, .rw, 50⟩
/-- `PWR.SW_CFG` field DELAY, R434. -/
def R.PWR_SW_CFG_DELAY : Fld := ⟨0x40010014, 15, 0, .rw, 20⟩
/-- `PWR.RET_DELAY`, R434. -/
def R.PWR_RET_DELAY : Fld := ⟨0x40010018, 15, 0, .rw, 1000⟩
/-- `PWR.BACKUP_GAIN`, R434. -/
def R.PWR_BACKUP_GAIN : Fld := ⟨0x4001001c, 15, 0, .rw, 32768⟩
/-- `PWR.PMB_CFG` field SETTLE, R434. -/
def R.PWR_PMB_CFG_SETTLE : Fld := ⟨0x40010020, 31, 16, .rw, 200⟩
/-- `PWR.PMB_CFG` field TOL, R434. -/
def R.PWR_PMB_CFG_TOL : Fld := ⟨0x40010020, 15, 8, .rw, 10⟩
/-- `PWR.PMB_CFG` field ADDR, R434. -/
def R.PWR_PMB_CFG_ADDR : Fld := ⟨0x40010020, 6, 0, .rw, 64⟩
/-- `PWR.PMB_STATUS` field ALERT, R434. -/
def R.PWR_PMB_STATUS_ALERT : Fld := ⟨0x40010024, 17, 17, .ro, 0⟩
/-- `PWR.PMB_STATUS` field ERR, R434. -/
def R.PWR_PMB_STATUS_ERR : Fld := ⟨0x40010024, 16, 16, .w1c, 0⟩
/-- `PWR.PMB_STATUS` field VOUT, R434. -/
def R.PWR_PMB_STATUS_VOUT : Fld := ⟨0x40010024, 15, 0, .ro, 0⟩
/-- `PWR.CMD`, R434. -/
def R.PWR_CMD : Fld := ⟨0x40010028, 3, 0, .wo, 0⟩
/-- `PWR.WAKE_EN`, R434. -/
def R.PWR_WAKE_EN : Fld := ⟨0x4001002c, 4, 0, .rw, 12⟩
/-- `PWR.WAKE_STATUS`, R434. -/
def R.PWR_WAKE_STATUS : Fld := ⟨0x40010030, 5, 0, .w1c, 0⟩
/-- `PWR.WAKE_TIMER`, R434. -/
def R.PWR_WAKE_TIMER : Fld := ⟨0x40010034, 31, 0, .rw, 0⟩
/-- `PWR.FEED_CNT` field TO_MAIN, R434. -/
def R.PWR_FEED_CNT_TO_MAIN : Fld := ⟨0x40010038, 31, 16, .rc, 0⟩
/-- `PWR.FEED_CNT` field TO_BACKUP, R434. -/
def R.PWR_FEED_CNT_TO_BACKUP : Fld := ⟨0x40010038, 15, 0, .rc, 0⟩
/-- `PWR.IRQ_EN` field AON_SRC, R434. -/
def R.PWR_IRQ_EN_AON_SRC : Fld := ⟨0x40010040, 4, 4, .rw, 0⟩
/-- `PWR.IRQ_EN` field WAKE, R434. -/
def R.PWR_IRQ_EN_WAKE : Fld := ⟨0x40010040, 3, 3, .rw, 0⟩
/-- `PWR.IRQ_EN` field PMBUS, R434. -/
def R.PWR_IRQ_EN_PMBUS : Fld := ⟨0x40010040, 2, 2, .rw, 0⟩
/-- `PWR.IRQ_EN` field REFUSED, R434. -/
def R.PWR_IRQ_EN_REFUSED : Fld := ⟨0x40010040, 1, 1, .rw, 0⟩
/-- `PWR.IRQ_EN` field FEED, R434. -/
def R.PWR_IRQ_EN_FEED : Fld := ⟨0x40010040, 0, 0, .rw, 0⟩
/-- `PWR.IRQ_STATUS`, R434. -/
def R.PWR_IRQ_STATUS : Fld := ⟨0x40010044, 4, 0, .w1c, 0⟩
/-- `RST.CHIP`, R435. -/
def R.RST_CHIP : Fld := ⟨0x40020000, 15, 0, .wo, 0⟩
/-- `RST.CTRL`, R435. -/
def R.RST_CTRL : Fld := ⟨0x40020004, 0, 0, .rw, 0⟩
/-- `RST.BLOCK_CMD` field HOPPER, R435. -/
def R.RST_BLOCK_CMD_HOPPER : Fld := ⟨0x40020008, 13, 8, .wo, 0⟩
/-- `RST.BLOCK_CMD` field SOURCE, R435. -/
def R.RST_BLOCK_CMD_SOURCE : Fld := ⟨0x40020008, 6, 0, .wo, 0⟩
/-- `RST.BLOCK_STATUS` field COUNT, R435. -/
def R.RST_BLOCK_STATUS_COUNT : Fld := ⟨0x4002000c, 31, 16, .rc, 0⟩
/-- `RST.BLOCK_STATUS` field LAST, R435. -/
def R.RST_BLOCK_STATUS_LAST : Fld := ⟨0x4002000c, 14, 8, .ro, 0⟩
/-- `RST.BLOCK_STATUS` field REFUSED, R435. -/
def R.RST_BLOCK_STATUS_REFUSED : Fld := ⟨0x4002000c, 1, 1, .w1c, 0⟩
/-- `RST.BLOCK_STATUS` field BUSY, R435. -/
def R.RST_BLOCK_STATUS_BUSY : Fld := ⟨0x4002000c, 0, 0, .ro, 0⟩
/-- `CLK.CTRL` field LEARN_AGE, R276. -/
def R.CLK_CTRL_LEARN_AGE : Fld := ⟨0x40030000, 9, 9, .rw, 1⟩
/-- `CLK.CTRL` field LEARN_T, R276. -/
def R.CLK_CTRL_LEARN_T : Fld := ⟨0x40030000, 8, 8, .rw, 1⟩
/-- `CLK.CTRL` field FORCE_REF, R276. -/
def R.CLK_CTRL_FORCE_REF : Fld := ⟨0x40030000, 6, 4, .rw, 0⟩
/-- `CLK.CTRL` field FORCE, R276. -/
def R.CLK_CTRL_FORCE : Fld := ⟨0x40030000, 1, 1, .rw, 0⟩
/-- `CLK.CTRL` field REVERT, R276. -/
def R.CLK_CTRL_REVERT : Fld := ⟨0x40030000, 0, 0, .rw, 1⟩
/-- `CLK.STATUS` field BW_CLAMPED, R276. -/
def R.CLK_STATUS_BW_CLAMPED : Fld := ⟨0x40030004, 15, 15, .ro, 0⟩
/-- `CLK.STATUS` field XO_FAIL, R276. -/
def R.CLK_STATUS_XO_FAIL : Fld := ⟨0x40030004, 14, 14, .ro, 0⟩
/-- `CLK.STATUS` field REF_DISAGREE, R276. -/
def R.CLK_STATUS_REF_DISAGREE : Fld := ⟨0x40030004, 13, 13, .ro, 0⟩
/-- `CLK.STATUS` field ALIGNING, R276. -/
def R.CLK_STATUS_ALIGNING : Fld := ⟨0x40030004, 12, 12, .ro, 0⟩
/-- `CLK.STATUS` field SEL_VALID, R276. -/
def R.CLK_STATUS_SEL_VALID : Fld := ⟨0x40030004, 11, 11, .ro, 0⟩
/-- `CLK.STATUS` field SEL_REF, R276. -/
def R.CLK_STATUS_SEL_REF : Fld := ⟨0x40030004, 10, 8, .ro, 0⟩
/-- `CLK.STATUS` field STAGE, R276. -/
def R.CLK_STATUS_STAGE : Fld := ⟨0x40030004, 5, 4, .ro, 0⟩
/-- `CLK.STATUS` field STATE, R276. -/
def R.CLK_STATUS_STATE : Fld := ⟨0x40030004, 2, 0, .ro, 0⟩
/-- `CLK.CMD`, R276. -/
def R.CLK_CMD : Fld := ⟨0x40030008, 3, 0, .wo, 0⟩
/-- `CLK.PHASE_OFS`, R276. -/
def R.CLK_PHASE_OFS : Fld := ⟨0x4003000c, 31, 0, .rw, 0⟩
/-- `CLK.BUILDOUT`, R276. -/
def R.CLK_BUILDOUT : Fld := ⟨0x40030010, 31, 0, .ro, 0⟩
/-- `CLK.PHASE_ERR`, R276. -/
def R.CLK_PHASE_ERR : Fld := ⟨0x40030014, 31, 0, .ro, 0⟩
/-- `CLK.FREQ_WORD`, R276. -/
def R.CLK_FREQ_WORD : Fld := ⟨0x40030018, 31, 0, .ro, 0⟩
/-- `CLK.FREERUN_WORD`, R276. -/
def R.CLK_FREERUN_WORD : Fld := ⟨0x4003001c, 31, 0, .rw, 0⟩
/-- `CLK.DISAGREE_PPB`, R276. -/
def R.CLK_DISAGREE_PPB : Fld := ⟨0x40030020, 31, 0, .rw, 1000⟩
/-- `CLK.WTR`, R276. -/
def R.CLK_WTR : Fld := ⟨0x40030024, 15, 0, .rw, 10⟩
/-- `CLK.QUAL` field REJECT_PPM, R276. -/
def R.CLK_QUAL_REJECT_PPM : Fld := ⟨0x40030028, 23, 16, .rw, 100⟩
/-- `CLK.QUAL` field ACCEPT_PPM, R276. -/
def R.CLK_QUAL_ACCEPT_PPM : Fld := ⟨0x40030028, 15, 8, .rw, 50⟩
/-- `CLK.QUAL` field TIME, R276. -/
def R.CLK_QUAL_TIME : Fld := ⟨0x40030028, 7, 0, .rw, 1⟩
/-- `CLK.ALIGN_RATE`, R276. -/
def R.CLK_ALIGN_RATE : Fld := ⟨0x4003002c, 31, 0, .rw, 1000⟩
/-- `CLK.ACQ_SLOPE`, R276. -/
def R.CLK_ACQ_SLOPE : Fld := ⟨0x40030030, 31, 0, .rw, 50000⟩
/-- `CLK.LOCK` field UNLOCK_NS, R276. -/
def R.CLK_LOCK_UNLOCK_NS : Fld := ⟨0x40030034, 31, 16, .rw, 1000⟩
/-- `CLK.LOCK` field LOCK_NS, R276. -/
def R.CLK_LOCK_LOCK_NS : Fld := ⟨0x40030034, 15, 0, .rw, 100⟩
/-- `CLK.LEHR_CFG`, R276. -/
def R.CLK_LEHR_CFG : Fld := ⟨0x40030038, 2, 0, .rw, 4⟩
/-- `CLK.LEHR`, R276. -/
def R.CLK_LEHR (s : Nat) : Fld := ⟨0x40030040 + 0x8 * s, 18, 0, .rw, (lehrBw s)⟩
/-- `CLK.LEHR_DWELL`, R276. -/
def R.CLK_LEHR_DWELL (s : Nat) : Fld := ⟨0x40030044 + 0x8 * s, 15, 0, .rw, (lehrDwell s)⟩
/-- `CLK.HO_AVG`, R276. -/
def R.CLK_HO_AVG : Fld := ⟨0x40030060, 31, 0, .ro, 0⟩
/-- `CLK.HO_KT` field VALID, R276. -/
def R.CLK_HO_KT_VALID : Fld := ⟨0x40030064, 31, 31, .ro, 0⟩
/-- `CLK.HO_KT` field KT, R276. -/
def R.CLK_HO_KT_KT : Fld := ⟨0x40030064, 15, 0, .rw, 0⟩
/-- `CLK.HO_AGE` field VALID, R276. -/
def R.CLK_HO_AGE_VALID : Fld := ⟨0x40030068, 31, 31, .ro, 0⟩
/-- `CLK.HO_AGE` field AGE, R276. -/
def R.CLK_HO_AGE_AGE : Fld := ⟨0x40030068, 15, 0, .rw, 0⟩
/-- `CLK.HO_TREF`, R276. -/
def R.CLK_HO_TREF : Fld := ⟨0x4003006c, 15, 0, .ro, 0⟩
/-- `CLK.HO_SENSOR`, R276. -/
def R.CLK_HO_SENSOR : Fld := ⟨0x40030070, 2, 0, .rw, 5⟩
/-- `CLK.HO_TIME`, R276. -/
def R.CLK_HO_TIME : Fld := ⟨0x40030074, 31, 0, .ro, 0⟩
/-- `CLK.OUT_CFG` field MCLK_DIV, R276. -/
def R.CLK_OUT_CFG_MCLK_DIV : Fld := ⟨0x40030080, 18, 17, .rw, 1⟩
/-- `CLK.OUT_CFG` field MCLK_EN, R276. -/
def R.CLK_OUT_CFG_MCLK_EN : Fld := ⟨0x40030080, 16, 16, .rw, 0⟩
/-- `CLK.OUT_CFG` field PPS_WIDTH, R276. -/
def R.CLK_OUT_CFG_PPS_WIDTH : Fld := ⟨0x40030080, 15, 8, .rw, 100⟩
/-- `CLK.OUT_CFG` field PPS_EN, R276. -/
def R.CLK_OUT_CFG_PPS_EN : Fld := ⟨0x40030080, 2, 2, .rw, 0⟩
/-- `CLK.OUT_CFG` field WCLK_SEL, R276. -/
def R.CLK_OUT_CFG_WCLK_SEL : Fld := ⟨0x40030080, 1, 1, .rw, 0⟩
/-- `CLK.OUT_CFG` field WCLK_EN, R276. -/
def R.CLK_OUT_CFG_WCLK_EN : Fld := ⟨0x40030080, 0, 0, .rw, 0⟩
/-- `CLK.OUT_ALIGN_AT_LO`, R276. -/
def R.CLK_OUT_ALIGN_AT_LO : Fld := ⟨0x40030084, 31, 0, .rw, 0⟩
/-- `CLK.OUT_ALIGN_AT_HI`, R276. -/
def R.CLK_OUT_ALIGN_AT_HI : Fld := ⟨0x40030088, 31, 0, .rw, 0⟩
/-- `CLK.OUT_STATUS` field LATE, R276. -/
def R.CLK_OUT_STATUS_LATE : Fld := ⟨0x4003008c, 1, 1, .w1c, 0⟩
/-- `CLK.OUT_STATUS` field ARMED, R276. -/
def R.CLK_OUT_STATUS_ARMED : Fld := ⟨0x4003008c, 0, 0, .ro, 0⟩
/-- `CLK.PLL_STATUS` field LOSS, R276. -/
def R.CLK_PLL_STATUS_LOSS : Fld := ⟨0x400300a0, 15, 8, .w1c, 0⟩
/-- `CLK.PLL_STATUS` field LOCK, R276. -/
def R.CLK_PLL_STATUS_LOCK : Fld := ⟨0x400300a0, 7, 0, .ro, 0⟩
/-- `CLK.IRQ_EN` field OUT_ALIGNED, R276. -/
def R.CLK_IRQ_EN_OUT_ALIGNED : Fld := ⟨0x400300b0, 7, 7, .rw, 0⟩
/-- `CLK.IRQ_EN` field PLL, R276. -/
def R.CLK_IRQ_EN_PLL : Fld := ⟨0x400300b0, 6, 6, .rw, 0⟩
/-- `CLK.IRQ_EN` field XO_FAIL, R276. -/
def R.CLK_IRQ_EN_XO_FAIL : Fld := ⟨0x400300b0, 5, 5, .rw, 0⟩
/-- `CLK.IRQ_EN` field ALIGNED, R276. -/
def R.CLK_IRQ_EN_ALIGNED : Fld := ⟨0x400300b0, 4, 4, .rw, 0⟩
/-- `CLK.IRQ_EN` field DISAGREE, R276. -/
def R.CLK_IRQ_EN_DISAGREE : Fld := ⟨0x400300b0, 3, 3, .rw, 0⟩
/-- `CLK.IRQ_EN` field SWITCH, R276. -/
def R.CLK_IRQ_EN_SWITCH : Fld := ⟨0x400300b0, 2, 2, .rw, 0⟩
/-- `CLK.IRQ_EN` field REF, R276. -/
def R.CLK_IRQ_EN_REF : Fld := ⟨0x400300b0, 1, 1, .rw, 0⟩
/-- `CLK.IRQ_EN` field STATE, R276. -/
def R.CLK_IRQ_EN_STATE : Fld := ⟨0x400300b0, 0, 0, .rw, 0⟩
/-- `CLK.IRQ_STATUS`, R276. -/
def R.CLK_IRQ_STATUS : Fld := ⟨0x400300b4, 7, 0, .w1c, 0⟩
/-- `CLK.REF_CFG` field EN, R276. -/
def R.CLK_REF_CFG_EN (n : Nat) : Fld := ⟨0x40030100 + 0x20 * n, 31, 31, .rw, 0⟩
/-- `CLK.REF_CFG` field PORT, R276. -/
def R.CLK_REF_CFG_PORT (n : Nat) : Fld := ⟨0x40030100 + 0x20 * n, 11, 8, .rw, 0⟩
/-- `CLK.REF_CFG` field EDGE, R276. -/
def R.CLK_REF_CFG_EDGE (n : Nat) : Fld := ⟨0x40030100 + 0x20 * n, 4, 4, .rw, 0⟩
/-- `CLK.REF_CFG` field RANK, R276. -/
def R.CLK_REF_CFG_RANK (n : Nat) : Fld := ⟨0x40030100 + 0x20 * n, 2, 0, .rw, n⟩
/-- `CLK.REF_FREQ`, R276. -/
def R.CLK_REF_FREQ (n : Nat) : Fld := ⟨0x40030104 + 0x20 * n, 31, 0, .rw, 48000⟩
/-- `CLK.REF_STATUS` field REASON, R276. -/
def R.CLK_REF_STATUS_REASON (n : Nat) : Fld := ⟨0x40030108 + 0x20 * n, 7, 4, .ro, 0⟩
/-- `CLK.REF_STATUS` field WTR, R276. -/
def R.CLK_REF_STATUS_WTR (n : Nat) : Fld := ⟨0x40030108 + 0x20 * n, 2, 2, .ro, 0⟩
/-- `CLK.REF_STATUS` field STATE, R276. -/
def R.CLK_REF_STATUS_STATE (n : Nat) : Fld := ⟨0x40030108 + 0x20 * n, 1, 0, .ro, 0⟩
/-- `CLK.REF_OFFSET`, R276. -/
def R.CLK_REF_OFFSET (n : Nat) : Fld := ⟨0x4003010c + 0x20 * n, 31, 0, .ro, 0⟩
/-- `CLK.REF_WTR_LEFT`, R276. -/
def R.CLK_REF_WTR_LEFT (n : Nat) : Fld := ⟨0x40030110 + 0x20 * n, 15, 0, .ro, 0⟩
/-- `CLK.REF_EVT` field LOSS_CNT, R276. -/
def R.CLK_REF_EVT_LOSS_CNT (n : Nat) : Fld := ⟨0x40030114 + 0x20 * n, 31, 16, .rc, 0⟩
/-- `CLK.REF_EVT` field GLITCH_CNT, R276. -/
def R.CLK_REF_EVT_GLITCH_CNT (n : Nat) : Fld := ⟨0x40030114 + 0x20 * n, 15, 0, .rc, 0⟩
/-- `TICK.CTRL` field TBASE, R37. -/
def R.TICK_CTRL_TBASE : Fld := ⟨0x40040000, 1, 1, .rw, 0⟩
/-- `TICK.CTRL` field RUN, R37. -/
def R.TICK_CTRL_RUN : Fld := ⟨0x40040000, 0, 0, .rw, 0⟩
/-- `TICK.STATUS` field RATE, R37. -/
def R.TICK_STATUS_RATE : Fld := ⟨0x40040004, 7, 6, .ro, 1⟩
/-- `TICK.STATUS` field SLEWING, R37. -/
def R.TICK_STATUS_SLEWING : Fld := ⟨0x40040004, 5, 5, .ro, 0⟩
/-- `TICK.STATUS` field GRID_LOCKED, R37. -/
def R.TICK_STATUS_GRID_LOCKED : Fld := ⟨0x40040004, 4, 4, .ro, 0⟩
/-- `TICK.STATUS` field LOCAL, R37. -/
def R.TICK_STATUS_LOCAL : Fld := ⟨0x40040004, 3, 3, .ro, 0⟩
/-- `TICK.STATUS` field PAIR_RESERVE, R37. -/
def R.TICK_STATUS_PAIR_RESERVE : Fld := ⟨0x40040004, 2, 2, .ro, 0⟩
/-- `TICK.STATUS` field RUNNING, R37. -/
def R.TICK_STATUS_RUNNING : Fld := ⟨0x40040004, 0, 0, .ro, 0⟩
/-- `TICK.NUM_LO`, R37. -/
def R.TICK_NUM_LO : Fld := ⟨0x40040008, 31, 0, .ro, 0⟩
/-- `TICK.NUM_HI`, R37. -/
def R.TICK_NUM_HI : Fld := ⟨0x4004000c, 31, 0, .ro, 0⟩
/-- `TICK.SEED_LO`, R37. -/
def R.TICK_SEED_LO : Fld := ⟨0x40040010, 31, 0, .rw, 0⟩
/-- `TICK.SEED_HI`, R37. -/
def R.TICK_SEED_HI : Fld := ⟨0x40040014, 31, 0, .rw, 0⟩
/-- `TICK.CYCLE`, R37. -/
def R.TICK_CYCLE : Fld := ⟨0x40040018, 16, 0, .ro, 0⟩
/-- `TICK.WIN_START`, R37. -/
def R.TICK_WIN_START : Fld := ⟨0x4004001c, 16, 0, .ro, 4000⟩
/-- `TICK.WIN_END`, R37. -/
def R.TICK_WIN_END : Fld := ⟨0x40040020, 16, 0, .ro, 96000⟩
/-- `TICK.BUDGET`, R37. -/
def R.TICK_BUDGET : Fld := ⟨0x40040024, 16, 0, .ro, 92000⟩
/-- `TICK.OVERRUN_CNT`, R37. -/
def R.TICK_OVERRUN_CNT : Fld := ⟨0x40040028, 31, 0, .rc, 0⟩
/-- `TICK.OVERRUN_LO`, R37. -/
def R.TICK_OVERRUN_LO : Fld := ⟨0x4004002c, 31, 0, .w1c, 0⟩
/-- `TICK.OVERRUN_HI`, R37. -/
def R.TICK_OVERRUN_HI : Fld := ⟨0x40040030, 31, 0, .w1c, 0⟩
/-- `TICK.LATE` field MARV, R37. -/
def R.TICK_LATE_MARV : Fld := ⟨0x40040034, 1, 1, .w1c, 0⟩
/-- `TICK.LATE` field BIND, R37. -/
def R.TICK_LATE_BIND : Fld := ⟨0x40040034, 0, 0, .w1c, 0⟩
/-- `TICK.IRQ_EN` field LATE, R37. -/
def R.TICK_IRQ_EN_LATE : Fld := ⟨0x40040038, 5, 5, .rw, 0⟩
/-- `TICK.IRQ_EN` field CLAIM_WD, R37. -/
def R.TICK_IRQ_EN_CLAIM_WD : Fld := ⟨0x40040038, 4, 4, .rw, 0⟩
/-- `TICK.IRQ_EN` field REALIGN, R37. -/
def R.TICK_IRQ_EN_REALIGN : Fld := ⟨0x40040038, 3, 3, .rw, 0⟩
/-- `TICK.IRQ_EN` field OVERRUN, R37. -/
def R.TICK_IRQ_EN_OVERRUN : Fld := ⟨0x40040038, 2, 2, .rw, 0⟩
/-- `TICK.IRQ_EN` field AT, R37. -/
def R.TICK_IRQ_EN_AT : Fld := ⟨0x40040038, 1, 1, .rw, 0⟩
/-- `TICK.IRQ_EN` field DIV, R37. -/
def R.TICK_IRQ_EN_DIV : Fld := ⟨0x40040038, 0, 0, .rw, 0⟩
/-- `TICK.IRQ_STATUS`, R37. -/
def R.TICK_IRQ_STATUS : Fld := ⟨0x4004003c, 5, 0, .w1c, 0⟩
/-- `TICK.IRQ_DIV`, R37. -/
def R.TICK_IRQ_DIV : Fld := ⟨0x40040040, 15, 0, .rw, 12000⟩
/-- `TICK.IRQ_AT_LO`, R37. -/
def R.TICK_IRQ_AT_LO : Fld := ⟨0x40040044, 31, 0, .rw, 0⟩
/-- `TICK.IRQ_AT_HI`, R37. -/
def R.TICK_IRQ_AT_HI : Fld := ⟨0x40040048, 31, 0, .rw, 0⟩
/-- `TICK.PHASE_ERR`, R37. -/
def R.TICK_PHASE_ERR : Fld := ⟨0x4004004c, 31, 0, .ro, 0⟩
/-- `TICK.REALIGN_CNT`, R37. -/
def R.TICK_REALIGN_CNT : Fld := ⟨0x40040050, 31, 0, .rc, 0⟩
/-- `TICK.CLAIM_WD` field LIMIT, R37. -/
def R.TICK_CLAIM_WD_LIMIT : Fld := ⟨0x40040054, 15, 8, .ro, 3⟩
/-- `TICK.CLAIM_WD` field ARMED, R37. -/
def R.TICK_CLAIM_WD_ARMED : Fld := ⟨0x40040054, 1, 1, .ro, 0⟩
/-- `TICK.CLAIM_WD` field FIRED, R37. -/
def R.TICK_CLAIM_WD_FIRED : Fld := ⟨0x40040054, 0, 0, .w1c, 0⟩
/-- `IATC.ACTIVE_LO`, R73. -/
def R.IATC_ACTIVE_LO : Fld := ⟨0x40050000, 31, 0, .ro, 0⟩
/-- `IATC.ACTIVE_HI`, R73. -/
def R.IATC_ACTIVE_HI : Fld := ⟨0x40050004, 31, 0, .ro, 0⟩
/-- `IATC.LIMIT_LO`, R73. -/
def R.IATC_LIMIT_LO : Fld := ⟨0x40050008, 31, 0, .w1c, 0⟩
/-- `IATC.LIMIT_HI`, R73. -/
def R.IATC_LIMIT_HI : Fld := ⟨0x4005000c, 31, 0, .w1c, 0⟩
/-- `IATC.OVERDECL_LO`, R73. -/
def R.IATC_OVERDECL_LO : Fld := ⟨0x40050010, 31, 0, .w1c, 0⟩
/-- `IATC.OVERDECL_HI`, R73. -/
def R.IATC_OVERDECL_HI : Fld := ⟨0x40050014, 31, 0, .w1c, 0⟩
/-- `IATC.IRQ_EN` field OVERDECL, R73. -/
def R.IATC_IRQ_EN_OVERDECL : Fld := ⟨0x40050018, 1, 1, .rw, 0⟩
/-- `IATC.IRQ_EN` field LIMIT, R73. -/
def R.IATC_IRQ_EN_LIMIT : Fld := ⟨0x40050018, 0, 0, .rw, 0⟩
/-- `IATC.IRQ_STATUS`, R73. -/
def R.IATC_IRQ_STATUS : Fld := ⟨0x4005001c, 1, 0, .w1c, 0⟩
/-- `IATC.CORE_STAT` field L1, R73. -/
def R.IATC_CORE_STAT_L1 (n : Nat) : Fld := ⟨0x40051000 + 0x40 * n, 9, 9, .ro, 0⟩
/-- `IATC.CORE_STAT` field L0, R73. -/
def R.IATC_CORE_STAT_L0 (n : Nat) : Fld := ⟨0x40051000 + 0x40 * n, 8, 8, .ro, 0⟩
/-- `IATC.CORE_STAT` field STATE, R73. -/
def R.IATC_CORE_STAT_STATE (n : Nat) : Fld := ⟨0x40051000 + 0x40 * n, 2, 0, .ro, 0⟩
/-- `IATC.ENTRY`, R73. -/
def R.IATC_ENTRY (n : Nat) : Fld := ⟨0x40051004 + 0x40 * n, 13, 0, .ro, 0⟩
/-- `IATC.DECL`, R73. -/
def R.IATC_DECL (n : Nat) : Fld := ⟨0x40051008 + 0x40 * n, 16, 0, .ro, 0⟩
/-- `IATC.CYC_LAST`, R73. -/
def R.IATC_CYC_LAST (n : Nat) : Fld := ⟨0x4005100c + 0x40 * n, 16, 0, .ro, 0⟩
/-- `IATC.CYC_PEAK`, R73. -/
def R.IATC_CYC_PEAK (n : Nat) : Fld := ⟨0x40051010 + 0x40 * n, 16, 0, .rc, 0⟩
/-- `IATC.STALL_LAST`, R73. -/
def R.IATC_STALL_LAST (n : Nat) : Fld := ⟨0x40051014 + 0x40 * n, 16, 0, .ro, 0⟩
/-- `IATC.CARRY0` field LEN, R73. -/
def R.IATC_CARRY0_LEN (n : Nat) : Fld := ⟨0x40051018 + 0x40 * n, 26, 16, .ro, 0⟩
/-- `IATC.CARRY0` field SPACE, R73. -/
def R.IATC_CARRY0_SPACE (n : Nat) : Fld := ⟨0x40051018 + 0x40 * n, 15, 15, .ro, 0⟩
/-- `IATC.CARRY0` field BASE, R73. -/
def R.IATC_CARRY0_BASE (n : Nat) : Fld := ⟨0x40051018 + 0x40 * n, 14, 0, .ro, 0⟩
/-- `IATC.CARRY1` field LEN, R73. -/
def R.IATC_CARRY1_LEN (n : Nat) : Fld := ⟨0x4005101c + 0x40 * n, 26, 16, .ro, 0⟩
/-- `IATC.CARRY1` field SPACE, R73. -/
def R.IATC_CARRY1_SPACE (n : Nat) : Fld := ⟨0x4005101c + 0x40 * n, 15, 15, .ro, 0⟩
/-- `IATC.CARRY1` field BASE, R73. -/
def R.IATC_CARRY1_BASE (n : Nat) : Fld := ⟨0x4005101c + 0x40 * n, 14, 0, .ro, 0⟩
/-- `MARV.STATUS` field GSW_ARMED, R169. -/
def R.MARV_STATUS_GSW_ARMED : Fld := ⟨0x40060000, 4, 4, .ro, 0⟩
/-- `MARV.STATUS` field COPYING, R169. -/
def R.MARV_STATUS_COPYING : Fld := ⟨0x40060000, 3, 3, .ro, 0⟩
/-- `MARV.STATUS` field SYNCING, R169. -/
def R.MARV_STATUS_SYNCING : Fld := ⟨0x40060000, 2, 2, .ro, 0⟩
/-- `MARV.STATUS` field BUSY, R169. -/
def R.MARV_STATUS_BUSY : Fld := ⟨0x40060000, 1, 1, .ro, 0⟩
/-- `MARV.STATUS` field ACTIVE, R169. -/
def R.MARV_STATUS_ACTIVE : Fld := ⟨0x40060000, 0, 0, .ro, 0⟩
/-- `MARV.ACT_BANK`, R169. -/
def R.MARV_ACT_BANK : Fld := ⟨0x40060004, 15, 0, .ro, 0⟩
/-- `MARV.DECL`, R169. -/
def R.MARV_DECL : Fld := ⟨0x40060008, 16, 0, .ro, 0⟩
/-- `MARV.CYC_LAST`, R169. -/
def R.MARV_CYC_LAST : Fld := ⟨0x4006000c, 16, 0, .ro, 0⟩
/-- `MARV.CYC_PEAK`, R169. -/
def R.MARV_CYC_PEAK : Fld := ⟨0x40060010, 16, 0, .rc, 0⟩
/-- `MARV.HIST_WPTR`, R169. -/
def R.MARV_HIST_WPTR : Fld := ⟨0x40060014, 12, 0, .ro, 0⟩
/-- `MARV.LIMIT` field INTERP, R169. -/
def R.MARV_LIMIT_INTERP : Fld := ⟨0x40060018, 31, 16, .w1c, 0⟩
/-- `MARV.LIMIT` field EMIT, R169. -/
def R.MARV_LIMIT_EMIT : Fld := ⟨0x40060018, 15, 0, .w1c, 0⟩
/-- `MARV.ECC_CNT`, R169. -/
def R.MARV_ECC_CNT : Fld := ⟨0x4006001c, 31, 0, .rc, 0⟩
/-- `MARV.IRQ_EN` field OVERDECL, R169. -/
def R.MARV_IRQ_EN_OVERDECL : Fld := ⟨0x40060020, 5, 5, .rw, 0⟩
/-- `MARV.IRQ_EN` field ECC, R169. -/
def R.MARV_IRQ_EN_ECC : Fld := ⟨0x40060020, 4, 4, .rw, 0⟩
/-- `MARV.IRQ_EN` field LIMIT, R169. -/
def R.MARV_IRQ_EN_LIMIT : Fld := ⟨0x40060020, 3, 3, .rw, 0⟩
/-- `MARV.IRQ_EN` field REFUSED, R169. -/
def R.MARV_IRQ_EN_REFUSED : Fld := ⟨0x40060020, 2, 2, .rw, 0⟩
/-- `MARV.IRQ_EN` field SWITCHED, R169. -/
def R.MARV_IRQ_EN_SWITCHED : Fld := ⟨0x40060020, 1, 1, .rw, 0⟩
/-- `MARV.IRQ_EN` field COPIED, R169. -/
def R.MARV_IRQ_EN_COPIED : Fld := ⟨0x40060020, 0, 0, .rw, 0⟩
/-- `MARV.IRQ_STATUS`, R169. -/
def R.MARV_IRQ_STATUS : Fld := ⟨0x40060024, 5, 0, .w1c, 0⟩
/-- `MARV.UPD_SRC_LO`, R169. -/
def R.MARV_UPD_SRC_LO : Fld := ⟨0x40060030, 31, 0, .rw, 0⟩
/-- `MARV.UPD_SRC_HI`, R169. -/
def R.MARV_UPD_SRC_HI : Fld := ⟨0x40060034, 3, 0, .rw, 0⟩
/-- `MARV.UPD_LEN`, R169. -/
def R.MARV_UPD_LEN : Fld := ⟨0x40060038, 31, 0, .rw, 0⟩
/-- `MARV.UPD_CMD`, R169. -/
def R.MARV_UPD_CMD : Fld := ⟨0x4006003c, 3, 0, .wo, 0⟩
/-- `MARV.UPD_STATUS` field TOUCHED, R169. -/
def R.MARV_UPD_STATUS_TOUCHED : Fld := ⟨0x40060040, 31, 16, .ro, 0⟩
/-- `MARV.UPD_STATUS` field CODE, R169. -/
def R.MARV_UPD_STATUS_CODE : Fld := ⟨0x40060040, 7, 0, .ro, 0⟩
/-- `MARV.UPD_DONE`, R169. -/
def R.MARV_UPD_DONE : Fld := ⟨0x40060044, 31, 0, .ro, 0⟩
/-- `MARV.GSW_MASK`, R169. -/
def R.MARV_GSW_MASK : Fld := ⟨0x40060050, 15, 0, .rw, 0⟩
/-- `MARV.GSW_AT_LO`, R169. -/
def R.MARV_GSW_AT_LO : Fld := ⟨0x40060054, 31, 0, .rw, 0⟩
/-- `MARV.GSW_AT_HI`, R169. -/
def R.MARV_GSW_AT_HI : Fld := ⟨0x40060058, 31, 0, .rw, 0⟩
/-- `MARV.GSW_STATUS`, R169. -/
def R.MARV_GSW_STATUS : Fld := ⟨0x4006005c, 7, 0, .ro, 0⟩
/-- `MARV.SLEW`, R169. -/
def R.MARV_SLEW (g : Nat) : Fld := ⟨0x40060100 + 0x4 * g, 15, 0, .st, 0⟩
/-- `IMG.CTRL` field AUTO_OP, R122. -/
def R.IMG_CTRL_AUTO_OP : Fld := ⟨0x40070000, 4, 4, .rw, 1⟩
/-- `IMG.CTRL` field OP_MAX, R122. -/
def R.IMG_CTRL_OP_MAX : Fld := ⟨0x40070000, 2, 0, .rw, 7⟩
/-- `IMG.CMD` field SLOT, R122. -/
def R.IMG_CMD_SLOT : Fld := ⟨0x40070004, 8, 8, .wo, 0⟩
/-- `IMG.CMD` field CMD, R122. -/
def R.IMG_CMD_CMD : Fld := ⟨0x40070004, 3, 0, .wo, 0⟩
/-- `IMG.STATUS` field ARMED_BY_FAB, R122. -/
def R.IMG_STATUS_ARMED_BY_FAB : Fld := ⟨0x40070008, 23, 23, .ro, 0⟩
/-- `IMG.STATUS` field CARRY_SKIPPED, R122. -/
def R.IMG_STATUS_CARRY_SKIPPED : Fld := ⟨0x40070008, 22, 22, .ro, 0⟩
/-- `IMG.STATUS` field SWITCH_ARMED, R122. -/
def R.IMG_STATUS_SWITCH_ARMED : Fld := ⟨0x40070008, 21, 21, .ro, 0⟩
/-- `IMG.STATUS` field BUSY, R122. -/
def R.IMG_STATUS_BUSY : Fld := ⟨0x40070008, 20, 20, .ro, 0⟩
/-- `IMG.STATUS` field B_STATE, R122. -/
def R.IMG_STATUS_B_STATE : Fld := ⟨0x40070008, 15, 14, .ro, 0⟩
/-- `IMG.STATUS` field A_STATE, R122. -/
def R.IMG_STATUS_A_STATE : Fld := ⟨0x40070008, 13, 12, .ro, 0⟩
/-- `IMG.STATUS` field CODE, R122. -/
def R.IMG_STATUS_CODE : Fld := ⟨0x40070008, 7, 0, .ro, 0⟩
/-- `IMG.ERR_INFO` field SECTION, R122. -/
def R.IMG_ERR_INFO_SECTION : Fld := ⟨0x4007000c, 31, 20, .ro, 0⟩
/-- `IMG.ERR_INFO` field OFFSET, R122. -/
def R.IMG_ERR_INFO_OFFSET : Fld := ⟨0x4007000c, 19, 0, .ro, 0⟩
/-- `IMG.SRC_LO`, R122. -/
def R.IMG_SRC_LO : Fld := ⟨0x40070010, 31, 0, .rw, 0⟩
/-- `IMG.SRC_HI`, R122. -/
def R.IMG_SRC_HI : Fld := ⟨0x40070014, 3, 0, .rw, 0⟩
/-- `IMG.SRC_LEN`, R122. -/
def R.IMG_SRC_LEN : Fld := ⟨0x40070018, 31, 0, .rw, 0⟩
/-- `IMG.SWITCH_AT_LO`, R122. -/
def R.IMG_SWITCH_AT_LO : Fld := ⟨0x40070020, 31, 0, .rw, 0⟩
/-- `IMG.SWITCH_AT_HI`, R122. -/
def R.IMG_SWITCH_AT_HI : Fld := ⟨0x40070024, 31, 0, .rw, 0⟩
/-- `IMG.SWITCHED_LO`, R122. -/
def R.IMG_SWITCHED_LO : Fld := ⟨0x40070028, 31, 0, .ro, 0⟩
/-- `IMG.SWITCHED_HI`, R122. -/
def R.IMG_SWITCHED_HI : Fld := ⟨0x4007002c, 31, 0, .ro, 0⟩
/-- `IMG.EPOCH_LO`, R122. -/
def R.IMG_EPOCH_LO : Fld := ⟨0x40070030, 31, 0, .ro, 0⟩
/-- `IMG.EPOCH_HI`, R122. -/
def R.IMG_EPOCH_HI : Fld := ⟨0x40070034, 31, 0, .ro, 0⟩
/-- `IMG.HASH_LO`, R122. -/
def R.IMG_HASH_LO : Fld := ⟨0x40070038, 31, 0, .ro, 0⟩
/-- `IMG.HASH_HI`, R122. -/
def R.IMG_HASH_HI : Fld := ⟨0x4007003c, 31, 0, .ro, 0⟩
/-- `IMG.PATCH_AT_LO`, R122. -/
def R.IMG_PATCH_AT_LO : Fld := ⟨0x40070048, 31, 0, .rw, 0⟩
/-- `IMG.PATCH_AT_HI`, R122. -/
def R.IMG_PATCH_AT_HI : Fld := ⟨0x4007004c, 31, 0, .rw, 0⟩
/-- `IMG.PATCH_STATUS`, R122. -/
def R.IMG_PATCH_STATUS : Fld := ⟨0x40070050, 7, 0, .ro, 0⟩
/-- `IMG.PATCH_PROGRESS` field NEXT, R122. -/
def R.IMG_PATCH_PROGRESS_NEXT : Fld := ⟨0x40070054, 27, 16, .ro, 0⟩
/-- `IMG.PATCH_PROGRESS` field LEFT, R122. -/
def R.IMG_PATCH_PROGRESS_LEFT : Fld := ⟨0x40070054, 11, 0, .ro, 0⟩
/-- `IMG.OP` field NEXT, R122. -/
def R.IMG_OP_NEXT : Fld := ⟨0x40070058, 6, 4, .ro, 0⟩
/-- `IMG.OP` field CUR, R122. -/
def R.IMG_OP_CUR : Fld := ⟨0x40070058, 2, 0, .ro, 7⟩
/-- `IMG.LAT_COUNT`, R122. -/
def R.IMG_LAT_COUNT : Fld := ⟨0x40070060, 15, 0, .ro, 0⟩
/-- `IMG.LAT_INDEX`, R122. -/
def R.IMG_LAT_INDEX : Fld := ⟨0x40070064, 15, 0, .rw, 0⟩
/-- `IMG.LAT_SRC`, R122. -/
def R.IMG_LAT_SRC : Fld := ⟨0x40070068, 31, 0, .ro, 0⟩
/-- `IMG.LAT_SINK`, R122. -/
def R.IMG_LAT_SINK : Fld := ⟨0x4007006c, 31, 0, .ro, 0⟩
/-- `IMG.LAT_SAMPLES`, R122. -/
def R.IMG_LAT_SAMPLES : Fld := ⟨0x40070070, 31, 0, .ro, 0⟩
/-- `IMG.SETTLE`, R122. -/
def R.IMG_SETTLE : Fld := ⟨0x40070074, 31, 0, .ro, 0⟩
/-- `IMG.IRQ_EN` field PATCHED, R122. -/
def R.IMG_IRQ_EN_PATCHED : Fld := ⟨0x40070078, 4, 4, .rw, 0⟩
/-- `IMG.IRQ_EN` field STEP, R122. -/
def R.IMG_IRQ_EN_STEP : Fld := ⟨0x40070078, 3, 3, .rw, 0⟩
/-- `IMG.IRQ_EN` field SWITCHED, R122. -/
def R.IMG_IRQ_EN_SWITCHED : Fld := ⟨0x40070078, 2, 2, .rw, 0⟩
/-- `IMG.IRQ_EN` field REFUSED, R122. -/
def R.IMG_IRQ_EN_REFUSED : Fld := ⟨0x40070078, 1, 1, .rw, 0⟩
/-- `IMG.IRQ_EN` field LOADED, R122. -/
def R.IMG_IRQ_EN_LOADED : Fld := ⟨0x40070078, 0, 0, .rw, 0⟩
/-- `IMG.IRQ_STATUS`, R122. -/
def R.IMG_IRQ_STATUS : Fld := ⟨0x4007007c, 4, 0, .w1c, 0⟩
/-- `IMG.LAT_FLAGS`, R122. -/
def R.IMG_LAT_FLAGS : Fld := ⟨0x40070080, 15, 0, .ro, 0⟩
/-- `BIND.STATUS` field BUSY, R123. -/
def R.BIND_STATUS_BUSY : Fld := ⟨0x40078000, 1, 1, .ro, 0⟩
/-- `BIND.STATUS` field BANK, R123. -/
def R.BIND_STATUS_BANK : Fld := ⟨0x40078000, 0, 0, .ro, 0⟩
/-- `BIND.DECL`, R123. -/
def R.BIND_DECL : Fld := ⟨0x40078004, 16, 0, .ro, 0⟩
/-- `BIND.CYC_LAST`, R123. -/
def R.BIND_CYC_LAST : Fld := ⟨0x40078008, 16, 0, .ro, 0⟩
/-- `BIND.CYC_PEAK`, R123. -/
def R.BIND_CYC_PEAK : Fld := ⟨0x4007800c, 16, 0, .rc, 0⟩
/-- `BIND.SHEAVES`, R123. -/
def R.BIND_SHEAVES : Fld := ⟨0x40078010, 11, 0, .ro, 0⟩
/-- `BIND.RT_CMD` field TABLE, R147. -/
def R.BIND_RT_CMD_TABLE : Fld := ⟨0x40078100, 9, 8, .wo, 0⟩
/-- `BIND.RT_CMD` field CMD, R147. -/
def R.BIND_RT_CMD_CMD : Fld := ⟨0x40078100, 3, 0, .wo, 0⟩
/-- `BIND.RT_INDEX`, R147. -/
def R.BIND_RT_INDEX : Fld := ⟨0x40078104, 15, 0, .rw, 0⟩
/-- `BIND.RT_DATA`, R147. -/
def R.BIND_RT_DATA (k : Nat) : Fld := ⟨0x40078108 + 0x4 * k, 31, 0, .rw, 0⟩
/-- `BIND.RT_AT_LO`, R147. -/
def R.BIND_RT_AT_LO : Fld := ⟨0x40078118, 31, 0, .rw, 0⟩
/-- `BIND.RT_AT_HI`, R147. -/
def R.BIND_RT_AT_HI : Fld := ⟨0x4007811c, 31, 0, .rw, 0⟩
/-- `BIND.RT_STATUS` field SYNCING, R147. -/
def R.BIND_RT_STATUS_SYNCING : Fld := ⟨0x40078120, 9, 9, .ro, 0⟩
/-- `BIND.RT_STATUS` field ARMED, R147. -/
def R.BIND_RT_STATUS_ARMED : Fld := ⟨0x40078120, 8, 8, .ro, 0⟩
/-- `BIND.RT_STATUS` field CODE, R147. -/
def R.BIND_RT_STATUS_CODE : Fld := ⟨0x40078120, 7, 0, .ro, 0⟩
/-- `BIND.RT_LEN` field SCATTER, R147. -/
def R.BIND_RT_LEN_SCATTER : Fld := ⟨0x40078124, 29, 16, .ro, 0⟩
/-- `BIND.RT_LEN` field GATHER, R147. -/
def R.BIND_RT_LEN_GATHER : Fld := ⟨0x40078124, 13, 0, .ro, 0⟩
/-- `BIND.RT_ERR` field TABLE, R147. -/
def R.BIND_RT_ERR_TABLE : Fld := ⟨0x40078128, 31, 30, .ro, 0⟩
/-- `BIND.RT_ERR` field INDEX, R147. -/
def R.BIND_RT_ERR_INDEX : Fld := ⟨0x40078128, 15, 0, .ro, 0⟩
/-- `BIND.IRQ_EN` field SILENCE, R147. -/
def R.BIND_IRQ_EN_SILENCE : Fld := ⟨0x40078130, 4, 4, .rw, 0⟩
/-- `BIND.IRQ_EN` field TAP_CLAMP, R147. -/
def R.BIND_IRQ_EN_TAP_CLAMP : Fld := ⟨0x40078130, 3, 3, .rw, 0⟩
/-- `BIND.IRQ_EN` field FILL_DONE, R147. -/
def R.BIND_IRQ_EN_FILL_DONE : Fld := ⟨0x40078130, 2, 2, .rw, 0⟩
/-- `BIND.IRQ_EN` field REFUSED, R147. -/
def R.BIND_IRQ_EN_REFUSED : Fld := ⟨0x40078130, 1, 1, .rw, 0⟩
/-- `BIND.IRQ_EN` field COMMITTED, R147. -/
def R.BIND_IRQ_EN_COMMITTED : Fld := ⟨0x40078130, 0, 0, .rw, 0⟩
/-- `BIND.IRQ_STATUS`, R147. -/
def R.BIND_IRQ_STATUS : Fld := ⟨0x40078134, 4, 0, .w1c, 0⟩
/-- `BIND.RING_SEL`, R147. -/
def R.BIND_RING_SEL : Fld := ⟨0x40078200, 11, 0, .rw, 0⟩
/-- `BIND.DRING` field ZERO_ON_GROW, R147. -/
def R.BIND_DRING_ZERO_ON_GROW : Fld := ⟨0x40078204, 31, 31, .st, 0⟩
/-- `BIND.DRING` field LEN, R147. -/
def R.BIND_DRING_LEN : Fld := ⟨0x40078204, 23, 0, .st, 0⟩
/-- `BIND.RING_CAP`, R147. -/
def R.BIND_RING_CAP : Fld := ⟨0x40078208, 23, 0, .ro, 0⟩
/-- `BIND.RING_WPTR`, R147. -/
def R.BIND_RING_WPTR : Fld := ⟨0x4007820c, 23, 0, .ro, 0⟩
/-- `BIND.RING_WMARK`, R147. -/
def R.BIND_RING_WMARK : Fld := ⟨0x40078210, 23, 0, .ro, 0⟩
/-- `BIND.RING_STATUS` field LEN_REFUSED, R147. -/
def R.BIND_RING_STATUS_LEN_REFUSED : Fld := ⟨0x40078214, 3, 3, .w1c, 0⟩
/-- `BIND.RING_STATUS` field TAP_CLAMP, R147. -/
def R.BIND_RING_STATUS_TAP_CLAMP : Fld := ⟨0x40078214, 2, 2, .w1c, 0⟩
/-- `BIND.RING_STATUS` field FILLING, R147. -/
def R.BIND_RING_STATUS_FILLING : Fld := ⟨0x40078214, 1, 1, .ro, 0⟩
/-- `BIND.RING_STATUS` field MEM, R147. -/
def R.BIND_RING_STATUS_MEM : Fld := ⟨0x40078214, 0, 0, .ro, 0⟩
/-- `BIND.SIL_CTRL` field LOOKAHEAD, R147. -/
def R.BIND_SIL_CTRL_LOOKAHEAD (n : Nat) : Fld := ⟨0x40078400 + 0x10 * n, 1, 1, .ro, 0⟩
/-- `BIND.SIL_CTRL` field EN, R147. -/
def R.BIND_SIL_CTRL_EN (n : Nat) : Fld := ⟨0x40078400 + 0x10 * n, 0, 0, .rw, 0⟩
/-- `BIND.SIL_THRESH`, R147. -/
def R.BIND_SIL_THRESH (n : Nat) : Fld := ⟨0x40078404 + 0x10 * n, 23, 0, .rw, 133⟩
/-- `BIND.SIL_TIME` field HALF_TICKS, R147. -/
def R.BIND_SIL_TIME_HALF_TICKS (n : Nat) : Fld := ⟨0x40078408 + 0x10 * n, 31, 16, .rw, 120⟩
/-- `BIND.SIL_TIME` field HOLD, R147. -/
def R.BIND_SIL_TIME_HOLD (n : Nat) : Fld := ⟨0x40078408 + 0x10 * n, 15, 0, .rw, 24000⟩
/-- `BIND.SIL_STATE`, R147. -/
def R.BIND_SIL_STATE (n : Nat) : Fld := ⟨0x4007840c + 0x10 * n, 2, 0, .ro, 0⟩
/-- `SAP.PIN_CTRL` field GRP, R193. -/
def R.SAP_PIN_CTRL_GRP : Fld := ⟨0x40080000, 15, 8, .rw, 0⟩
/-- `SAP.PIN_CTRL` field POL, R193. -/
def R.SAP_PIN_CTRL_POL : Fld := ⟨0x40080000, 1, 1, .rw, 0⟩
/-- `SAP.PIN_CTRL` field ARM, R193. -/
def R.SAP_PIN_CTRL_ARM : Fld := ⟨0x40080000, 0, 0, .rw, 0⟩
/-- `SAP.START_GRP`, R193. -/
def R.SAP_START_GRP : Fld := ⟨0x40080004, 7, 0, .rw, 0⟩
/-- `SAP.START_AT_LO`, R193. -/
def R.SAP_START_AT_LO : Fld := ⟨0x40080008, 31, 0, .rw, 0⟩
/-- `SAP.START_AT_HI`, R193. -/
def R.SAP_START_AT_HI : Fld := ⟨0x4008000c, 31, 0, .rw, 0⟩
/-- `SAP.GRP_STATE`, R193. -/
def R.SAP_GRP_STATE : Fld := ⟨0x40080010, 31, 0, .ro, 0⟩
/-- `SAP.LAST_START_LO`, R193. -/
def R.SAP_LAST_START_LO : Fld := ⟨0x40080014, 31, 0, .ro, 0⟩
/-- `SAP.LAST_START_HI`, R193. -/
def R.SAP_LAST_START_HI : Fld := ⟨0x40080018, 31, 0, .ro, 0⟩
/-- `SAP.IRQ_STATUS` field START_LATE, R193. -/
def R.SAP_IRQ_STATUS_START_LATE : Fld := ⟨0x4008001c, 24, 24, .w1c, 0⟩
/-- `SAP.IRQ_STATUS` field GRP, R193. -/
def R.SAP_IRQ_STATUS_GRP : Fld := ⟨0x4008001c, 23, 16, .w1c, 0⟩
/-- `SAP.IRQ_STATUS` field PORT, R193. -/
def R.SAP_IRQ_STATUS_PORT : Fld := ⟨0x4008001c, 15, 0, .ro, 0⟩
/-- `SAP.GRP_IRQ_EN` field START_LATE, R193. -/
def R.SAP_GRP_IRQ_EN_START_LATE : Fld := ⟨0x40080020, 8, 8, .rw, 0⟩
/-- `SAP.GRP_IRQ_EN` field GRP, R193. -/
def R.SAP_GRP_IRQ_EN_GRP : Fld := ⟨0x40080020, 7, 0, .rw, 0⟩
/-- `SAP.PORT_CFG` field GRP_EN, R193. -/
def R.SAP_PORT_CFG_GRP_EN (n : Nat) : Fld := ⟨0x40081000 + 0x40 * n, 15, 15, .rw, 0⟩
/-- `SAP.PORT_CFG` field GROUP, R193. -/
def R.SAP_PORT_CFG_GROUP (n : Nat) : Fld := ⟨0x40081000 + 0x40 * n, 14, 12, .rw, 0⟩
/-- `SAP.PORT_CFG` field SLOTS, R193. -/
def R.SAP_PORT_CFG_SLOTS (n : Nat) : Fld := ⟨0x40081000 + 0x40 * n, 10, 8, .rw, 1⟩
/-- `SAP.PORT_CFG` field TX_TRI, R193. -/
def R.SAP_PORT_CFG_TX_TRI (n : Nat) : Fld := ⟨0x40081000 + 0x40 * n, 6, 6, .rw, 0⟩
/-- `SAP.PORT_CFG` field FS_POL, R193. -/
def R.SAP_PORT_CFG_FS_POL (n : Nat) : Fld := ⟨0x40081000 + 0x40 * n, 5, 5, .rw, 0⟩
/-- `SAP.PORT_CFG` field BCLK_POL, R193. -/
def R.SAP_PORT_CFG_BCLK_POL (n : Nat) : Fld := ⟨0x40081000 + 0x40 * n, 4, 4, .rw, 0⟩
/-- `SAP.PORT_CFG` field DELAY, R193. -/
def R.SAP_PORT_CFG_DELAY (n : Nat) : Fld := ⟨0x40081000 + 0x40 * n, 3, 3, .rw, 0⟩
/-- `SAP.PORT_CFG` field ROLE, R193. -/
def R.SAP_PORT_CFG_ROLE (n : Nat) : Fld := ⟨0x40081000 + 0x40 * n, 2, 2, .rw, 0⟩
/-- `SAP.PORT_CFG` field MODE, R193. -/
def R.SAP_PORT_CFG_MODE (n : Nat) : Fld := ⟨0x40081000 + 0x40 * n, 1, 0, .rw, 0⟩
/-- `SAP.PORT_CMD`, R193. -/
def R.SAP_PORT_CMD (n : Nat) : Fld := ⟨0x40081004 + 0x40 * n, 3, 0, .wo, 0⟩
/-- `SAP.PORT_STATUS` field PHASE_WARN, R193. -/
def R.SAP_PORT_STATUS_PHASE_WARN (n : Nat) : Fld := ⟨0x40081008 + 0x40 * n, 16, 16, .w1c, 0⟩
/-- `SAP.PORT_STATUS` field REASON, R193. -/
def R.SAP_PORT_STATUS_REASON (n : Nat) : Fld := ⟨0x40081008 + 0x40 * n, 15, 8, .ro, 0⟩
/-- `SAP.PORT_STATUS` field STATE, R193. -/
def R.SAP_PORT_STATUS_STATE (n : Nat) : Fld := ⟨0x40081008 + 0x40 * n, 2, 0, .ro, 0⟩
/-- `SAP.PORT_RXMASK`, R193. -/
def R.SAP_PORT_RXMASK (n : Nat) : Fld := ⟨0x4008100c + 0x40 * n, 31, 0, .ro, 0⟩
/-- `SAP.PORT_TXMASK`, R193. -/
def R.SAP_PORT_TXMASK (n : Nat) : Fld := ⟨0x40081010 + 0x40 * n, 31, 0, .ro, 0⟩
/-- `SAP.PORT_OWED` field TX, R193. -/
def R.SAP_PORT_OWED_TX (n : Nat) : Fld := ⟨0x40081014 + 0x40 * n, 31, 16, .ro, 0⟩
/-- `SAP.PORT_OWED` field RX, R193. -/
def R.SAP_PORT_OWED_RX (n : Nat) : Fld := ⟨0x40081014 + 0x40 * n, 15, 0, .ro, 0⟩
/-- `SAP.PORT_TX_HELD`, R193. -/
def R.SAP_PORT_TX_HELD (n : Nat) : Fld := ⟨0x40081018 + 0x40 * n, 31, 0, .rc, 0⟩
/-- `SAP.PORT_TX_DISC`, R193. -/
def R.SAP_PORT_TX_DISC (n : Nat) : Fld := ⟨0x4008101c + 0x40 * n, 31, 0, .rc, 0⟩
/-- `SAP.PORT_RX_HELD`, R193. -/
def R.SAP_PORT_RX_HELD (n : Nat) : Fld := ⟨0x40081020 + 0x40 * n, 31, 0, .rc, 0⟩
/-- `SAP.PORT_RX_DISC`, R193. -/
def R.SAP_PORT_RX_DISC (n : Nat) : Fld := ⟨0x40081024 + 0x40 * n, 31, 0, .rc, 0⟩
/-- `SAP.PORT_EVT_CNT` field RESYNC_CNT, R193. -/
def R.SAP_PORT_EVT_CNT_RESYNC_CNT (n : Nat) : Fld := ⟨0x40081028 + 0x40 * n, 31, 16, .rc, 0⟩
/-- `SAP.PORT_EVT_CNT` field FRAME_ERR_CNT, R193. -/
def R.SAP_PORT_EVT_CNT_FRAME_ERR_CNT (n : Nat) : Fld := ⟨0x40081028 + 0x40 * n, 15, 0, .rc, 0⟩
/-- `SAP.PORT_PHASE` field TX, R193. -/
def R.SAP_PORT_PHASE_TX (n : Nat) : Fld := ⟨0x4008102c + 0x40 * n, 31, 16, .ro, 0⟩
/-- `SAP.PORT_PHASE` field RX, R193. -/
def R.SAP_PORT_PHASE_RX (n : Nat) : Fld := ⟨0x4008102c + 0x40 * n, 15, 0, .ro, 0⟩
/-- `SAP.PORT_BCLK_MEAS`, R193. -/
def R.SAP_PORT_BCLK_MEAS (n : Nat) : Fld := ⟨0x40081030 + 0x40 * n, 23, 0, .ro, 0⟩
/-- `SAP.PORT_IRQ_EN` field PHASE_WARN, R193. -/
def R.SAP_PORT_IRQ_EN_PHASE_WARN (n : Nat) : Fld := ⟨0x40081034 + 0x40 * n, 5, 5, .rw, 0⟩
/-- `SAP.PORT_IRQ_EN` field RESYNC, R193. -/
def R.SAP_PORT_IRQ_EN_RESYNC (n : Nat) : Fld := ⟨0x40081034 + 0x40 * n, 4, 4, .rw, 0⟩
/-- `SAP.PORT_IRQ_EN` field OVER, R193. -/
def R.SAP_PORT_IRQ_EN_OVER (n : Nat) : Fld := ⟨0x40081034 + 0x40 * n, 3, 3, .rw, 0⟩
/-- `SAP.PORT_IRQ_EN` field UNDER, R193. -/
def R.SAP_PORT_IRQ_EN_UNDER (n : Nat) : Fld := ⟨0x40081034 + 0x40 * n, 2, 2, .rw, 0⟩
/-- `SAP.PORT_IRQ_EN` field FAULT, R193. -/
def R.SAP_PORT_IRQ_EN_FAULT (n : Nat) : Fld := ⟨0x40081034 + 0x40 * n, 1, 1, .rw, 0⟩
/-- `SAP.PORT_IRQ_EN` field STARTED, R193. -/
def R.SAP_PORT_IRQ_EN_STARTED (n : Nat) : Fld := ⟨0x40081034 + 0x40 * n, 0, 0, .rw, 0⟩
/-- `SAP.PORT_IRQ_STATUS`, R193. -/
def R.SAP_PORT_IRQ_STATUS (n : Nat) : Fld := ⟨0x40081038 + 0x40 * n, 5, 0, .w1c, 0⟩
/-- `HOP.LEVEL_LO`, R373. -/
def R.HOP_LEVEL_LO : Fld := ⟨0x40090000, 31, 0, .w1c, 0⟩
/-- `HOP.LEVEL_HI`, R373. -/
def R.HOP_LEVEL_HI : Fld := ⟨0x40090004, 31, 0, .w1c, 0⟩
/-- `HOP.ERR_LO`, R373. -/
def R.HOP_ERR_LO : Fld := ⟨0x40090008, 31, 0, .ro, 0⟩
/-- `HOP.ERR_HI`, R373. -/
def R.HOP_ERR_HI : Fld := ⟨0x4009000c, 31, 0, .ro, 0⟩
/-- `HOP.LEVEL_EN_LO`, R373. -/
def R.HOP_LEVEL_EN_LO : Fld := ⟨0x40090010, 31, 0, .rw, 0⟩
/-- `HOP.LEVEL_EN_HI`, R373. -/
def R.HOP_LEVEL_EN_HI : Fld := ⟨0x40090014, 31, 0, .rw, 0⟩
/-- `HOP.ERR_EN`, R373. -/
def R.HOP_ERR_EN : Fld := ⟨0x40090018, 0, 0, .rw, 0⟩
/-- `HOP.Q_CFG` field EN, R373. -/
def R.HOP_Q_CFG_EN (n : Nat) : Fld := ⟨0x40091000 + 0x20 * n, 31, 31, .rw, 0⟩
/-- `HOP.Q_CFG` field USE, R373. -/
def R.HOP_Q_CFG_USE (n : Nat) : Fld := ⟨0x40091000 + 0x20 * n, 30, 29, .rw, 0⟩
/-- `HOP.Q_CFG` field CLK, R373. -/
def R.HOP_Q_CFG_CLK (n : Nat) : Fld := ⟨0x40091000 + 0x20 * n, 28, 28, .rw, 0⟩
/-- `HOP.Q_CFG` field MEM, R373. -/
def R.HOP_Q_CFG_MEM (n : Nat) : Fld := ⟨0x40091000 + 0x20 * n, 27, 27, .rw, 0⟩
/-- `HOP.Q_CFG` field DEPTH, R373. -/
def R.HOP_Q_CFG_DEPTH (n : Nat) : Fld := ⟨0x40091000 + 0x20 * n, 16, 0, .rw, 2⟩
/-- `HOP.Q_BASE`, R373. -/
def R.HOP_Q_BASE (n : Nat) : Fld := ⟨0x40091004 + 0x20 * n, 22, 0, .rw, 0⟩
/-- `HOP.Q_LEVEL`, R373. -/
def R.HOP_Q_LEVEL (n : Nat) : Fld := ⟨0x40091008 + 0x20 * n, 16, 0, .rw, 0⟩
/-- `HOP.Q_STATUS` field CFG_ERR, R373. -/
def R.HOP_Q_STATUS_CFG_ERR (n : Nat) : Fld := ⟨0x4009100c + 0x20 * n, 4, 4, .w1c, 0⟩
/-- `HOP.Q_STATUS` field OVERFLOW, R373. -/
def R.HOP_Q_STATUS_OVERFLOW (n : Nat) : Fld := ⟨0x4009100c + 0x20 * n, 3, 3, .w1c, 0⟩
/-- `HOP.Q_STATUS` field UNDERRUN, R373. -/
def R.HOP_Q_STATUS_UNDERRUN (n : Nat) : Fld := ⟨0x4009100c + 0x20 * n, 2, 2, .w1c, 0⟩
/-- `HOP.Q_STATUS` field FULL, R373. -/
def R.HOP_Q_STATUS_FULL (n : Nat) : Fld := ⟨0x4009100c + 0x20 * n, 1, 1, .ro, 0⟩
/-- `HOP.Q_STATUS` field EMPTY, R373. -/
def R.HOP_Q_STATUS_EMPTY (n : Nat) : Fld := ⟨0x4009100c + 0x20 * n, 0, 0, .ro, 1⟩
/-- `HOP.Q_COUNT`, R373. -/
def R.HOP_Q_COUNT (n : Nat) : Fld := ⟨0x40091010 + 0x20 * n, 16, 0, .ro, 0⟩
/-- `HOP.Q_PUSH`, R373. -/
def R.HOP_Q_PUSH (n : Nat) : Fld := ⟨0x40091014 + 0x20 * n, 31, 0, .wo, 0⟩
/-- `HOP.Q_POP`, R373. -/
def R.HOP_Q_POP (n : Nat) : Fld := ⟨0x40091018 + 0x20 * n, 31, 0, .ro, 0⟩
/-- `NET.CTRL` field AN_EN, R221. -/
def R.NET_CTRL_AN_EN (n : Nat) : Fld := ⟨0x400a0000 + 0x10000 * n, 10, 10, .rw, 1⟩
/-- `NET.CTRL` field MODE, R221. -/
def R.NET_CTRL_MODE (n : Nat) : Fld := ⟨0x400a0000 + 0x10000 * n, 9, 8, .rw, 0⟩
/-- `NET.CTRL` field BLOCK, R221. -/
def R.NET_CTRL_BLOCK (n : Nat) : Fld := ⟨0x400a0000 + 0x10000 * n, 7, 7, .rw, 0⟩
/-- `NET.CTRL` field BCAST_EN, R221. -/
def R.NET_CTRL_BCAST_EN (n : Nat) : Fld := ⟨0x400a0000 + 0x10000 * n, 6, 6, .rw, 1⟩
/-- `NET.CTRL` field PROMISC, R221. -/
def R.NET_CTRL_PROMISC (n : Nat) : Fld := ⟨0x400a0000 + 0x10000 * n, 5, 5, .rw, 0⟩
/-- `NET.CTRL` field LT_GUARD, R221. -/
def R.NET_CTRL_LT_GUARD (n : Nat) : Fld := ⟨0x400a0000 + 0x10000 * n, 4, 4, .rw, 0⟩
/-- `NET.CTRL` field BRIDGE, R221. -/
def R.NET_CTRL_BRIDGE (n : Nat) : Fld := ⟨0x400a0000 + 0x10000 * n, 3, 3, .rw, 0⟩
/-- `NET.CTRL` field PAUSE_RX, R221. -/
def R.NET_CTRL_PAUSE_RX (n : Nat) : Fld := ⟨0x400a0000 + 0x10000 * n, 2, 2, .rw, 0⟩
/-- `NET.CTRL` field TX_EN, R221. -/
def R.NET_CTRL_TX_EN (n : Nat) : Fld := ⟨0x400a0000 + 0x10000 * n, 1, 1, .rw, 0⟩
/-- `NET.CTRL` field RX_EN, R221. -/
def R.NET_CTRL_RX_EN (n : Nat) : Fld := ⟨0x400a0000 + 0x10000 * n, 0, 0, .rw, 0⟩
/-- `NET.STATUS` field CFG_ERR, R221. -/
def R.NET_STATUS_CFG_ERR (n : Nat) : Fld := ⟨0x400a0004 + 0x10000 * n, 11, 11, .w1c, 0⟩
/-- `NET.STATUS` field TX_GATED, R221. -/
def R.NET_STATUS_TX_GATED (n : Nat) : Fld := ⟨0x400a0004 + 0x10000 * n, 10, 10, .ro, 0⟩
/-- `NET.STATUS` field PAUSE_RES, R221. -/
def R.NET_STATUS_PAUSE_RES (n : Nat) : Fld := ⟨0x400a0004 + 0x10000 * n, 9, 8, .ro, 0⟩
/-- `NET.STATUS` field PAUSED, R221. -/
def R.NET_STATUS_PAUSED (n : Nat) : Fld := ⟨0x400a0004 + 0x10000 * n, 7, 7, .ro, 0⟩
/-- `NET.STATUS` field AN_DONE, R221. -/
def R.NET_STATUS_AN_DONE (n : Nat) : Fld := ⟨0x400a0004 + 0x10000 * n, 6, 6, .ro, 0⟩
/-- `NET.STATUS` field TRAIN_FAIL, R221. -/
def R.NET_STATUS_TRAIN_FAIL (n : Nat) : Fld := ⟨0x400a0004 + 0x10000 * n, 5, 5, .w1c, 0⟩
/-- `NET.STATUS` field TRAINING, R221. -/
def R.NET_STATUS_TRAINING (n : Nat) : Fld := ⟨0x400a0004 + 0x10000 * n, 4, 4, .ro, 0⟩
/-- `NET.STATUS` field REMOTE_FAULT, R221. -/
def R.NET_STATUS_REMOTE_FAULT (n : Nat) : Fld := ⟨0x400a0004 + 0x10000 * n, 3, 3, .ro, 0⟩
/-- `NET.STATUS` field LOCAL_FAULT, R221. -/
def R.NET_STATUS_LOCAL_FAULT (n : Nat) : Fld := ⟨0x400a0004 + 0x10000 * n, 2, 2, .ro, 0⟩
/-- `NET.STATUS` field LINK, R221. -/
def R.NET_STATUS_LINK (n : Nat) : Fld := ⟨0x400a0004 + 0x10000 * n, 0, 0, .ro, 0⟩
/-- `NET.MAX_LEN`, R221. -/
def R.NET_MAX_LEN (n : Nat) : Fld := ⟨0x400a0008 + 0x10000 * n, 13, 0, .rw, 1522⟩
/-- `NET.RXQ_CFG` field FREE_HOP, R221. -/
def R.NET_RXQ_CFG_FREE_HOP (n : Nat) : Fld := ⟨0x400a000c + 0x10000 * n, 13, 8, .rw, 0⟩
/-- `NET.RXQ_CFG` field RX_HOP, R221. -/
def R.NET_RXQ_CFG_RX_HOP (n : Nat) : Fld := ⟨0x400a000c + 0x10000 * n, 5, 0, .rw, 0⟩
/-- `NET.RX_BUF_LEN`, R221. -/
def R.NET_RX_BUF_LEN (n : Nat) : Fld := ⟨0x400a0010 + 0x10000 * n, 13, 0, .rw, 0⟩
/-- `NET.TX_CPL` field EN, R221. -/
def R.NET_TX_CPL_EN (n : Nat) : Fld := ⟨0x400a0018 + 0x10000 * n, 31, 31, .rw, 0⟩
/-- `NET.TX_CPL` field HOPPER, R221. -/
def R.NET_TX_CPL_HOPPER (n : Nat) : Fld := ⟨0x400a0018 + 0x10000 * n, 5, 0, .rw, 0⟩
/-- `NET.TXQ` field EN, R221. -/
def R.NET_TXQ_EN (n : Nat) (q : Nat) : Fld := ⟨0x400a0020 + 0x10000 * n + 0x4 * q, 31, 31, .rw, 0⟩
/-- `NET.TXQ` field HOPPER, R221. -/
def R.NET_TXQ_HOPPER (n : Nat) (q : Nat) : Fld := ⟨0x400a0020 + 0x10000 * n + 0x4 * q, 5, 0, .rw, 0⟩
/-- `NET.CBS_CFG` field EN, R221. -/
def R.NET_CBS_CFG_EN (n : Nat) (s : Nat) : Fld := ⟨0x400a0040 + 0x10000 * n + 0x10 * s, 31, 31, .rw, 0⟩
/-- `NET.CBS_CFG` field QUEUE, R221. -/
def R.NET_CBS_CFG_QUEUE (n : Nat) (s : Nat) : Fld := ⟨0x400a0040 + 0x10000 * n + 0x10 * s, 2, 0, .rw, 0⟩
/-- `NET.CBS_IDLE`, R221. -/
def R.NET_CBS_IDLE (n : Nat) (s : Nat) : Fld := ⟨0x400a0044 + 0x10000 * n + 0x10 * s, 31, 0, .rw, 0⟩
/-- `NET.CBS_HI`, R221. -/
def R.NET_CBS_HI (n : Nat) (s : Nat) : Fld := ⟨0x400a0048 + 0x10000 * n + 0x10 * s, 31, 0, .rw, 0⟩
/-- `NET.CBS_LO`, R221. -/
def R.NET_CBS_LO (n : Nat) (s : Nat) : Fld := ⟨0x400a004c + 0x10000 * n + 0x10 * s, 31, 0, .rw, 0⟩
/-- `NET.PCP_MAP`, R221. -/
def R.NET_PCP_MAP (n : Nat) : Fld := ⟨0x400a0060 + 0x10000 * n, 31, 0, .rw, 1985229328⟩
/-- `NET.LT_TOL`, R221. -/
def R.NET_LT_TOL (n : Nat) : Fld := ⟨0x400a0064 + 0x10000 * n, 31, 0, .rw, 100⟩
/-- `NET.PAUSE_LEFT`, R221. -/
def R.NET_PAUSE_LEFT (n : Nat) : Fld := ⟨0x400a0070 + 0x10000 * n, 15, 0, .ro, 0⟩
/-- `NET.TXEQ` field POST, R221. -/
def R.NET_TXEQ_POST (n : Nat) : Fld := ⟨0x400a0074 + 0x10000 * n, 21, 16, .rw, 0⟩
/-- `NET.TXEQ` field MAIN, R221. -/
def R.NET_TXEQ_MAIN (n : Nat) : Fld := ⟨0x400a0074 + 0x10000 * n, 13, 8, .rw, 48⟩
/-- `NET.TXEQ` field PRE, R221. -/
def R.NET_TXEQ_PRE (n : Nat) : Fld := ⟨0x400a0074 + 0x10000 * n, 5, 0, .rw, 0⟩
/-- `NET.IRQ_EN`, R221. -/
def R.NET_IRQ_EN (n : Nat) : Fld := ⟨0x400a0080 + 0x10000 * n, 7, 0, .rw, 0⟩
/-- `NET.IRQ_STATUS` field WAKE, R221. -/
def R.NET_IRQ_STATUS_WAKE (n : Nat) : Fld := ⟨0x400a0084 + 0x10000 * n, 7, 7, .w1c, 0⟩
/-- `NET.IRQ_STATUS` field PAUSE, R221. -/
def R.NET_IRQ_STATUS_PAUSE (n : Nat) : Fld := ⟨0x400a0084 + 0x10000 * n, 6, 6, .w1c, 0⟩
/-- `NET.IRQ_STATUS` field BR_DROP, R221. -/
def R.NET_IRQ_STATUS_BR_DROP (n : Nat) : Fld := ⟨0x400a0084 + 0x10000 * n, 5, 5, .w1c, 0⟩
/-- `NET.IRQ_STATUS` field TX_LEN, R221. -/
def R.NET_IRQ_STATUS_TX_LEN (n : Nat) : Fld := ⟨0x400a0084 + 0x10000 * n, 4, 4, .w1c, 0⟩
/-- `NET.IRQ_STATUS` field LATE_LAUNCH, R221. -/
def R.NET_IRQ_STATUS_LATE_LAUNCH (n : Nat) : Fld := ⟨0x400a0084 + 0x10000 * n, 3, 3, .w1c, 0⟩
/-- `NET.IRQ_STATUS` field RX_NOBUF, R221. -/
def R.NET_IRQ_STATUS_RX_NOBUF (n : Nat) : Fld := ⟨0x400a0084 + 0x10000 * n, 2, 2, .w1c, 0⟩
/-- `NET.IRQ_STATUS` field TRAIN_FAIL, R221. -/
def R.NET_IRQ_STATUS_TRAIN_FAIL (n : Nat) : Fld := ⟨0x400a0084 + 0x10000 * n, 1, 1, .w1c, 0⟩
/-- `NET.IRQ_STATUS` field LINK, R221. -/
def R.NET_IRQ_STATUS_LINK (n : Nat) : Fld := ⟨0x400a0084 + 0x10000 * n, 0, 0, .w1c, 0⟩
/-- `NET.PM_HI` field VALID, R221. -/
def R.NET_PM_HI_VALID (n : Nat) (e : Nat) : Fld := ⟨0x400a0100 + 0x10000 * n + 0x8 * e, 31, 31, .rw, 0⟩
/-- `NET.PM_HI` field ADDR, R221. -/
def R.NET_PM_HI_ADDR (n : Nat) (e : Nat) : Fld := ⟨0x400a0100 + 0x10000 * n + 0x8 * e, 15, 0, .rw, 0⟩
/-- `NET.PM_LO`, R221. -/
def R.NET_PM_LO (n : Nat) (e : Nat) : Fld := ⟨0x400a0104 + 0x10000 * n + 0x8 * e, 31, 0, .rw, 0⟩
/-- `NET.HASH`, R221. -/
def R.NET_HASH (n : Nat) (w : Nat) : Fld := ⟨0x400a0180 + 0x10000 * n + 0x4 * w, 31, 0, .rw, 0⟩
/-- `NET.SID_INDEX`, R221. -/
def R.NET_SID_INDEX (n : Nat) : Fld := ⟨0x400a0200 + 0x10000 * n, 7, 0, .rw, 0⟩
/-- `NET.SID_DATA`, R221. -/
def R.NET_SID_DATA (n : Nat) (k : Nat) : Fld := ⟨0x400a0204 + 0x10000 * n + 0x4 * k, 31, 0, .ro, 0⟩
/-- `NET.WAKE_CTRL`, R221. -/
def R.NET_WAKE_CTRL (n : Nat) : Fld := ⟨0x400a0300 + 0x10000 * n, 7, 0, .rw, 0⟩
/-- `NET.WAKE_STATUS` field BAD, R221. -/
def R.NET_WAKE_STATUS_BAD (n : Nat) : Fld := ⟨0x400a0304 + 0x10000 * n, 15, 8, .w1c, 0⟩
/-- `NET.WAKE_STATUS` field MATCH, R221. -/
def R.NET_WAKE_STATUS_MATCH (n : Nat) : Fld := ⟨0x400a0304 + 0x10000 * n, 7, 0, .w1c, 0⟩
/-- `NET.WAKE_SEL` field PATTERN, R221. -/
def R.NET_WAKE_SEL_PATTERN (n : Nat) : Fld := ⟨0x400a0308 + 0x10000 * n, 10, 8, .rw, 0⟩
/-- `NET.WAKE_SEL` field WORD, R221. -/
def R.NET_WAKE_SEL_WORD (n : Nat) : Fld := ⟨0x400a0308 + 0x10000 * n, 5, 0, .rw, 0⟩
/-- `NET.WAKE_DATA`, R221. -/
def R.NET_WAKE_DATA (n : Nat) : Fld := ⟨0x400a030c + 0x10000 * n, 31, 0, .rw, 0⟩
/-- `NET.RX_OK`, R221. -/
def R.NET_RX_OK (n : Nat) : Fld := ⟨0x400a0400 + 0x10000 * n, 31, 0, .rc, 0⟩
/-- `NET.RX_OCT_LO`, R221. -/
def R.NET_RX_OCT_LO (n : Nat) : Fld := ⟨0x400a0404 + 0x10000 * n, 31, 0, .rc, 0⟩
/-- `NET.RX_OCT_HI`, R221. -/
def R.NET_RX_OCT_HI (n : Nat) : Fld := ⟨0x400a0408 + 0x10000 * n, 31, 0, .ro, 0⟩
/-- `NET.RX_FCS_ERR`, R221. -/
def R.NET_RX_FCS_ERR (n : Nat) : Fld := ⟨0x400a040c + 0x10000 * n, 31, 0, .rc, 0⟩
/-- `NET.RX_RUNT`, R221. -/
def R.NET_RX_RUNT (n : Nat) : Fld := ⟨0x400a0410 + 0x10000 * n, 31, 0, .rc, 0⟩
/-- `NET.RX_TRUNC`, R221. -/
def R.NET_RX_TRUNC (n : Nat) : Fld := ⟨0x400a0414 + 0x10000 * n, 31, 0, .rc, 0⟩
/-- `NET.RX_FILTERED`, R221. -/
def R.NET_RX_FILTERED (n : Nat) : Fld := ⟨0x400a0418 + 0x10000 * n, 31, 0, .rc, 0⟩
/-- `NET.RX_NOBUF`, R221. -/
def R.NET_RX_NOBUF (n : Nat) : Fld := ⟨0x400a041c + 0x10000 * n, 31, 0, .rc, 0⟩
/-- `NET.RX_PCS_ERR`, R221. -/
def R.NET_RX_PCS_ERR (n : Nat) : Fld := ⟨0x400a0420 + 0x10000 * n, 31, 0, .rc, 0⟩
/-- `NET.RX_PAUSE`, R221. -/
def R.NET_RX_PAUSE (n : Nat) : Fld := ⟨0x400a0424 + 0x10000 * n, 31, 0, .rc, 0⟩
/-- `NET.RX_CTL_UNSUP`, R221. -/
def R.NET_RX_CTL_UNSUP (n : Nat) : Fld := ⟨0x400a0428 + 0x10000 * n, 31, 0, .rc, 0⟩
/-- `NET.TX_OK`, R221. -/
def R.NET_TX_OK (n : Nat) : Fld := ⟨0x400a042c + 0x10000 * n, 31, 0, .rc, 0⟩
/-- `NET.TX_OCT_LO`, R221. -/
def R.NET_TX_OCT_LO (n : Nat) : Fld := ⟨0x400a0430 + 0x10000 * n, 31, 0, .rc, 0⟩
/-- `NET.TX_OCT_HI`, R221. -/
def R.NET_TX_OCT_HI (n : Nat) : Fld := ⟨0x400a0434 + 0x10000 * n, 31, 0, .ro, 0⟩
/-- `NET.TX_LATE_LAUNCH`, R221. -/
def R.NET_TX_LATE_LAUNCH (n : Nat) : Fld := ⟨0x400a0438 + 0x10000 * n, 31, 0, .rc, 0⟩
/-- `NET.TX_LEN_ERR`, R221. -/
def R.NET_TX_LEN_ERR (n : Nat) : Fld := ⟨0x400a043c + 0x10000 * n, 31, 0, .rc, 0⟩
/-- `NET.TX_DISC`, R221. -/
def R.NET_TX_DISC (n : Nat) : Fld := ⟨0x400a0440 + 0x10000 * n, 31, 0, .rc, 0⟩
/-- `NET.BR_FWD`, R221. -/
def R.NET_BR_FWD (n : Nat) : Fld := ⟨0x400a0444 + 0x10000 * n, 31, 0, .rc, 0⟩
/-- `NET.BR_DROP`, R221. -/
def R.NET_BR_DROP (n : Nat) : Fld := ⟨0x400a0448 + 0x10000 * n, 31, 0, .rc, 0⟩
/-- `NET.GCNT`, R221. -/
def R.NET_GCNT (n : Nat) (i : Nat) : Fld := ⟨0x400a0800 + 0x10000 * n + 0x4 * i, 31, 0, .ro, 0⟩
/-- `NET.GCNT_FLAG_LO`, R221. -/
def R.NET_GCNT_FLAG_LO (n : Nat) : Fld := ⟨0x400a0900 + 0x10000 * n, 31, 0, .w1c, 0⟩
/-- `NET.GCNT_FLAG_HI`, R221. -/
def R.NET_GCNT_FLAG_HI (n : Nat) : Fld := ⟨0x400a0904 + 0x10000 * n, 1, 0, .w1c, 0⟩
/-- `MGMT.RGMII` field RX_DLY, R221. -/
def R.MGMT_RGMII_RX_DLY : Fld := ⟨0x400e0090, 1, 1, .rw, 0⟩
/-- `MGMT.RGMII` field TX_DLY, R221. -/
def R.MGMT_RGMII_TX_DLY : Fld := ⟨0x400e0090, 0, 0, .rw, 0⟩
/-- `MGMT.MDIO_CFG`, R221. -/
def R.MGMT_MDIO_CFG : Fld := ⟨0x400e0094, 5, 0, .rw, 39⟩
/-- `MGMT.MDIO_CMD` field BUSY, R221. -/
def R.MGMT_MDIO_CMD_BUSY : Fld := ⟨0x400e0098, 31, 31, .rw, 0⟩
/-- `MGMT.MDIO_CMD` field OP, R221. -/
def R.MGMT_MDIO_CMD_OP : Fld := ⟨0x400e0098, 27, 26, .rw, 0⟩
/-- `MGMT.MDIO_CMD` field PHYAD, R221. -/
def R.MGMT_MDIO_CMD_PHYAD : Fld := ⟨0x400e0098, 25, 21, .rw, 0⟩
/-- `MGMT.MDIO_CMD` field REGAD, R221. -/
def R.MGMT_MDIO_CMD_REGAD : Fld := ⟨0x400e0098, 20, 16, .rw, 0⟩
/-- `MGMT.MDIO_CMD` field DATA, R221. -/
def R.MGMT_MDIO_CMD_DATA : Fld := ⟨0x400e0098, 15, 0, .rw, 0⟩
/-- `STRM.STATUS` field RX_ACTIVE, R250. -/
def R.STRM_STATUS_RX_ACTIVE : Fld := ⟨0x400f0000, 15, 8, .ro, 0⟩
/-- `STRM.STATUS` field TX_ACTIVE, R250. -/
def R.STRM_STATUS_TX_ACTIVE : Fld := ⟨0x400f0000, 7, 0, .ro, 0⟩
/-- `STRM.LOST_LO`, R250. -/
def R.STRM_LOST_LO : Fld := ⟨0x400f0004, 31, 0, .ro, 0⟩
/-- `STRM.LOST_HI`, R250. -/
def R.STRM_LOST_HI : Fld := ⟨0x400f0008, 31, 0, .ro, 0⟩
/-- `STRM.LOST_X0`, R250. -/
def R.STRM_LOST_X0 : Fld := ⟨0x400f000c, 31, 0, .ro, 0⟩
/-- `STRM.LOST_X1`, R250. -/
def R.STRM_LOST_X1 : Fld := ⟨0x400f0010, 31, 0, .ro, 0⟩
/-- `STRM.CRF_SEL`, R250. -/
def R.STRM_CRF_SEL : Fld := ⟨0x400f0014, 6, 0, .rw, 0⟩
/-- `STRM.CRF_OFS`, R250. -/
def R.STRM_CRF_OFS : Fld := ⟨0x400f0018, 31, 0, .ro, 0⟩
/-- `STRM.IRQ_EN` field SHIFT, R250. -/
def R.STRM_IRQ_EN_SHIFT : Fld := ⟨0x400f0020, 7, 7, .rw, 0⟩
/-- `STRM.IRQ_EN` field TX_DROP, R250. -/
def R.STRM_IRQ_EN_TX_DROP : Fld := ⟨0x400f0020, 6, 6, .rw, 0⟩
/-- `STRM.IRQ_EN` field ROGUE, R250. -/
def R.STRM_IRQ_EN_ROGUE : Fld := ⟨0x400f0020, 5, 5, .rw, 0⟩
/-- `STRM.IRQ_EN` field HDR_ERR, R250. -/
def R.STRM_IRQ_EN_HDR_ERR : Fld := ⟨0x400f0020, 4, 4, .rw, 0⟩
/-- `STRM.IRQ_EN` field EARLY, R250. -/
def R.STRM_IRQ_EN_EARLY : Fld := ⟨0x400f0020, 3, 3, .rw, 0⟩
/-- `STRM.IRQ_EN` field LATE, R250. -/
def R.STRM_IRQ_EN_LATE : Fld := ⟨0x400f0020, 2, 2, .rw, 0⟩
/-- `STRM.IRQ_EN` field RECOVERED, R250. -/
def R.STRM_IRQ_EN_RECOVERED : Fld := ⟨0x400f0020, 1, 1, .rw, 0⟩
/-- `STRM.IRQ_EN` field LOST, R250. -/
def R.STRM_IRQ_EN_LOST : Fld := ⟨0x400f0020, 0, 0, .rw, 0⟩
/-- `STRM.IRQ_STATUS`, R250. -/
def R.STRM_IRQ_STATUS : Fld := ⟨0x400f0024, 7, 0, .w1c, 0⟩
/-- `STRM.RX_STATE` field CHANNELS, R250. -/
def R.STRM_RX_STATE_CHANNELS (s : Nat) : Fld := ⟨0x400f1000 + 0x40 * s, 23, 16, .ro, 0⟩
/-- `STRM.RX_STATE` field PRES, R250. -/
def R.STRM_RX_STATE_PRES (s : Nat) : Fld := ⟨0x400f1000 + 0x40 * s, 15, 8, .ro, 0⟩
/-- `STRM.RX_STATE` field FORMAT, R250. -/
def R.STRM_RX_STATE_FORMAT (s : Nat) : Fld := ⟨0x400f1000 + 0x40 * s, 6, 4, .ro, 0⟩
/-- `STRM.RX_STATE` field ELIM, R250. -/
def R.STRM_RX_STATE_ELIM (s : Nat) : Fld := ⟨0x400f1000 + 0x40 * s, 3, 3, .ro, 0⟩
/-- `STRM.RX_STATE` field STATE, R250. -/
def R.STRM_RX_STATE_STATE (s : Nat) : Fld := ⟨0x400f1000 + 0x40 * s, 2, 0, .ro, 0⟩
/-- `STRM.RX_PHASE`, R250. -/
def R.STRM_RX_PHASE (s : Nat) : Fld := ⟨0x400f1004 + 0x40 * s, 31, 0, .ro, 0⟩
/-- `STRM.RX_FRAMES_A`, R250. -/
def R.STRM_RX_FRAMES_A (s : Nat) : Fld := ⟨0x400f1008 + 0x40 * s, 31, 0, .rc, 0⟩
/-- `STRM.RX_FRAMES_B`, R250. -/
def R.STRM_RX_FRAMES_B (s : Nat) : Fld := ⟨0x400f100c + 0x40 * s, 31, 0, .rc, 0⟩
/-- `STRM.RX_LATE`, R250. -/
def R.STRM_RX_LATE (s : Nat) : Fld := ⟨0x400f1010 + 0x40 * s, 31, 0, .rc, 0⟩
/-- `STRM.RX_EARLY`, R250. -/
def R.STRM_RX_EARLY (s : Nat) : Fld := ⟨0x400f1014 + 0x40 * s, 31, 0, .rc, 0⟩
/-- `STRM.RX_HDR_ERR`, R250. -/
def R.STRM_RX_HDR_ERR (s : Nat) : Fld := ⟨0x400f1018 + 0x40 * s, 31, 0, .rc, 0⟩
/-- `STRM.RX_SHIFT`, R250. -/
def R.STRM_RX_SHIFT (s : Nat) : Fld := ⟨0x400f101c + 0x40 * s, 31, 0, .rc, 0⟩
/-- `STRM.RX_PASSED`, R250. -/
def R.STRM_RX_PASSED (s : Nat) : Fld := ⟨0x400f1020 + 0x40 * s, 31, 0, .rc, 0⟩
/-- `STRM.RX_DISCARDED`, R250. -/
def R.STRM_RX_DISCARDED (s : Nat) : Fld := ⟨0x400f1024 + 0x40 * s, 31, 0, .rc, 0⟩
/-- `STRM.RX_ROGUE`, R250. -/
def R.STRM_RX_ROGUE (s : Nat) : Fld := ⟨0x400f1028 + 0x40 * s, 31, 0, .rc, 0⟩
/-- `STRM.RX_LOST`, R250. -/
def R.STRM_RX_LOST (s : Nat) : Fld := ⟨0x400f102c + 0x40 * s, 31, 0, .rc, 0⟩
/-- `STRM.RX_OOO`, R250. -/
def R.STRM_RX_OOO (s : Nat) : Fld := ⟨0x400f1030 + 0x40 * s, 31, 0, .rc, 0⟩
/-- `STRM.RX_RESETS`, R250. -/
def R.STRM_RX_RESETS (s : Nat) : Fld := ⟨0x400f1034 + 0x40 * s, 31, 0, .rc, 0⟩
/-- `STRM.RX_LOST_CNT`, R250. -/
def R.STRM_RX_LOST_CNT (s : Nat) : Fld := ⟨0x400f1038 + 0x40 * s, 15, 0, .rc, 0⟩
/-- `STRM.TX_STATE` field CHANNELS, R250. -/
def R.STRM_TX_STATE_CHANNELS (s : Nat) : Fld := ⟨0x400f4000 + 0x10 * s, 23, 16, .ro, 0⟩
/-- `STRM.TX_STATE` field FORMAT, R250. -/
def R.STRM_TX_STATE_FORMAT (s : Nat) : Fld := ⟨0x400f4000 + 0x10 * s, 6, 4, .ro, 0⟩
/-- `STRM.TX_STATE` field STATE, R250. -/
def R.STRM_TX_STATE_STATE (s : Nat) : Fld := ⟨0x400f4000 + 0x10 * s, 2, 0, .ro, 0⟩
/-- `STRM.TX_FRAMES`, R250. -/
def R.STRM_TX_FRAMES (s : Nat) : Fld := ⟨0x400f4004 + 0x10 * s, 31, 0, .rc, 0⟩
/-- `STRM.TX_DROP`, R250. -/
def R.STRM_TX_DROP (s : Nat) : Fld := ⟨0x400f4008 + 0x10 * s, 31, 0, .rc, 0⟩
/-- `STRM.TX_SEQ`, R250. -/
def R.STRM_TX_SEQ (s : Nat) : Fld := ⟨0x400f400c + 0x10 * s, 15, 0, .ro, 0⟩
/-- `TIME.CTRL` field AUTO_SW, R251. -/
def R.TIME_CTRL_AUTO_SW : Fld := ⟨0x40100000, 1, 1, .rw, 1⟩
/-- `TIME.CTRL` field SEL, R251. -/
def R.TIME_CTRL_SEL : Fld := ⟨0x40100000, 0, 0, .rw, 0⟩
/-- `TIME.STATUS` field HOLDOVER, R251. -/
def R.TIME_STATUS_HOLDOVER : Fld := ⟨0x40100004, 2, 2, .ro, 0⟩
/-- `TIME.STATUS` field SLEWING, R251. -/
def R.TIME_STATUS_SLEWING : Fld := ⟨0x40100004, 1, 1, .ro, 0⟩
/-- `TIME.STATUS` field SEL_CUR, R251. -/
def R.TIME_STATUS_SEL_CUR : Fld := ⟨0x40100004, 0, 0, .ro, 0⟩
/-- `TIME.SLEW_RATE`, R251. -/
def R.TIME_SLEW_RATE : Fld := ⟨0x40100008, 15, 0, .rw, 1000⟩
/-- `TIME.SLEW_RESID`, R251. -/
def R.TIME_SLEW_RESID : Fld := ⟨0x4010000c, 31, 0, .ro, 0⟩
/-- `TIME.DOM_OFS_NS`, R251. -/
def R.TIME_DOM_OFS_NS : Fld := ⟨0x40100010, 31, 0, .ro, 0⟩
/-- `TIME.DOM_OFS_SEC`, R251. -/
def R.TIME_DOM_OFS_SEC : Fld := ⟨0x40100014, 31, 0, .ro, 0⟩
/-- `TIME.GRID_OFS`, R251. -/
def R.TIME_GRID_OFS : Fld := ⟨0x40100018, 31, 0, .ro, 0⟩
/-- `TIME.IRQ_EN` field HOLDOVER, R251. -/
def R.TIME_IRQ_EN_HOLDOVER : Fld := ⟨0x40100020, 4, 4, .rw, 0⟩
/-- `TIME.IRQ_EN` field SLEW_DONE, R251. -/
def R.TIME_IRQ_EN_SLEW_DONE : Fld := ⟨0x40100020, 3, 3, .rw, 0⟩
/-- `TIME.IRQ_EN` field GM_LOST1, R251. -/
def R.TIME_IRQ_EN_GM_LOST1 : Fld := ⟨0x40100020, 2, 2, .rw, 0⟩
/-- `TIME.IRQ_EN` field GM_LOST0, R251. -/
def R.TIME_IRQ_EN_GM_LOST0 : Fld := ⟨0x40100020, 1, 1, .rw, 0⟩
/-- `TIME.IRQ_EN` field DOMSW, R251. -/
def R.TIME_IRQ_EN_DOMSW : Fld := ⟨0x40100020, 0, 0, .rw, 0⟩
/-- `TIME.IRQ_STATUS`, R251. -/
def R.TIME_IRQ_STATUS : Fld := ⟨0x40100024, 4, 0, .w1c, 0⟩
/-- `TIME.PORT_LAT` field TX_PS, R251. -/
def R.TIME_PORT_LAT_TX_PS (n : Nat) : Fld := ⟨0x40100040 + 0x4 * n, 31, 16, .rw, 0⟩
/-- `TIME.PORT_LAT` field RX_PS, R251. -/
def R.TIME_PORT_LAT_RX_PS (n : Nat) : Fld := ⟨0x40100040 + 0x4 * n, 15, 0, .rw, 0⟩
/-- `TIME.T_CTRL` field EN, R251. -/
def R.TIME_T_CTRL_EN (n : Nat) : Fld := ⟨0x40100100 + 0x80 * n, 31, 31, .rw, 0⟩
/-- `TIME.T_CTRL` field PROFILE, R251. -/
def R.TIME_T_CTRL_PROFILE (n : Nat) : Fld := ⟨0x40100100 + 0x80 * n, 28, 28, .rw, 0⟩
/-- `TIME.T_CTRL` field DOMAIN, R251. -/
def R.TIME_T_CTRL_DOMAIN (n : Nat) : Fld := ⟨0x40100100 + 0x80 * n, 23, 16, .rw, 0⟩
/-- `TIME.T_CTRL` field ANN_LOG, R251. -/
def R.TIME_T_CTRL_ANN_LOG (n : Nat) : Fld := ⟨0x40100100 + 0x80 * n, 11, 8, .rw, 0⟩
/-- `TIME.T_CTRL` field PORTS, R251. -/
def R.TIME_T_CTRL_PORTS (n : Nat) : Fld := ⟨0x40100100 + 0x80 * n, 3, 0, .rw, 0⟩
/-- `TIME.T_STATE` field GM_LOST, R251. -/
def R.TIME_T_STATE_GM_LOST (n : Nat) : Fld := ⟨0x40100104 + 0x80 * n, 8, 8, .ro, 0⟩
/-- `TIME.T_STATE` field STATE, R251. -/
def R.TIME_T_STATE_STATE (n : Nat) : Fld := ⟨0x40100104 + 0x80 * n, 1, 0, .rw, 0⟩
/-- `TIME.T_NS`, R251. -/
def R.TIME_T_NS (n : Nat) : Fld := ⟨0x40100108 + 0x80 * n, 31, 0, .ro, 0⟩
/-- `TIME.T_SEC_LO`, R251. -/
def R.TIME_T_SEC_LO (n : Nat) : Fld := ⟨0x4010010c + 0x80 * n, 31, 0, .ro, 0⟩
/-- `TIME.T_SEC_HI`, R251. -/
def R.TIME_T_SEC_HI (n : Nat) : Fld := ⟨0x40100110 + 0x80 * n, 15, 0, .ro, 0⟩
/-- `TIME.T_SUBNS`, R251. -/
def R.TIME_T_SUBNS (n : Nat) : Fld := ⟨0x40100114 + 0x80 * n, 15, 0, .ro, 0⟩
/-- `TIME.T_ADJ_RATE`, R251. -/
def R.TIME_T_ADJ_RATE (n : Nat) : Fld := ⟨0x40100118 + 0x80 * n, 31, 0, .rw, 0⟩
/-- `TIME.T_STEP_NS`, R251. -/
def R.TIME_T_STEP_NS (n : Nat) : Fld := ⟨0x4010011c + 0x80 * n, 31, 0, .rw, 0⟩
/-- `TIME.T_STEP_SEC`, R251. -/
def R.TIME_T_STEP_SEC (n : Nat) : Fld := ⟨0x40100120 + 0x80 * n, 31, 0, .rw, 0⟩
/-- `TIME.T_CMD`, R251. -/
def R.TIME_T_CMD (n : Nat) : Fld := ⟨0x40100124 + 0x80 * n, 1, 0, .wo, 0⟩
/-- `TIME.T_GM_ID_LO`, R251. -/
def R.TIME_T_GM_ID_LO (n : Nat) : Fld := ⟨0x40100128 + 0x80 * n, 31, 0, .rw, 0⟩
/-- `TIME.T_GM_ID_HI`, R251. -/
def R.TIME_T_GM_ID_HI (n : Nat) : Fld := ⟨0x4010012c + 0x80 * n, 31, 0, .rw, 0⟩
/-- `TIME.T_Q` field FREE_HOP, R251. -/
def R.TIME_T_Q_FREE_HOP (n : Nat) : Fld := ⟨0x40100130 + 0x80 * n, 13, 8, .rw, 0⟩
/-- `TIME.T_Q` field RX_HOP, R251. -/
def R.TIME_T_Q_RX_HOP (n : Nat) : Fld := ⟨0x40100130 + 0x80 * n, 5, 0, .rw, 0⟩
/-- `TIME.T_ANN_CNT`, R251. -/
def R.TIME_T_ANN_CNT (n : Nat) : Fld := ⟨0x40100134 + 0x80 * n, 31, 0, .rc, 0⟩
/-- `TIME.T_BND_NS`, R251. -/
def R.TIME_T_BND_NS (n : Nat) : Fld := ⟨0x40100138 + 0x80 * n, 31, 0, .ro, 0⟩
/-- `TIME.T_BND_SEC`, R251. -/
def R.TIME_T_BND_SEC (n : Nat) : Fld := ⟨0x4010013c + 0x80 * n, 31, 0, .ro, 0⟩
/-- `PAIR.CTRL` field START_WAIT, R303. -/
def R.PAIR_CTRL_START_WAIT : Fld := ⟨0x40110000, 15, 8, .rw, 24⟩
/-- `PAIR.CTRL` field REVERT, R303. -/
def R.PAIR_CTRL_REVERT : Fld := ⟨0x40110000, 3, 3, .rw, 1⟩
/-- `PAIR.CTRL` field AUTO_RESYNC, R303. -/
def R.PAIR_CTRL_AUTO_RESYNC : Fld := ⟨0x40110000, 2, 2, .rw, 1⟩
/-- `PAIR.CTRL` field PREF, R303. -/
def R.PAIR_CTRL_PREF : Fld := ⟨0x40110000, 1, 1, .rw, 0⟩
/-- `PAIR.CTRL` field EN, R303. -/
def R.PAIR_CTRL_EN : Fld := ⟨0x40110000, 0, 0, .rw, 0⟩
/-- `PAIR.STATUS` field EPOCH_DIFF, R303. -/
def R.PAIR_STATUS_EPOCH_DIFF : Fld := ⟨0x40110004, 15, 15, .ro, 0⟩
/-- `PAIR.STATUS` field RESYNC_STOPPED, R303. -/
def R.PAIR_STATUS_RESYNC_STOPPED : Fld := ⟨0x40110004, 14, 14, .ro, 0⟩
/-- `PAIR.STATUS` field UNSETTLED, R303. -/
def R.PAIR_STATUS_UNSETTLED : Fld := ⟨0x40110004, 13, 13, .ro, 0⟩
/-- `PAIR.STATUS` field PARTNER_STATE, R303. -/
def R.PAIR_STATUS_PARTNER_STATE : Fld := ⟨0x40110004, 12, 10, .ro, 0⟩
/-- `PAIR.STATUS` field PARTNER_SEEN, R303. -/
def R.PAIR_STATUS_PARTNER_SEEN : Fld := ⟨0x40110004, 9, 9, .ro, 0⟩
/-- `PAIR.STATUS` field PATHB_UP, R303. -/
def R.PAIR_STATUS_PATHB_UP : Fld := ⟨0x40110004, 8, 8, .ro, 0⟩
/-- `PAIR.STATUS` field TWIN_UP, R303. -/
def R.PAIR_STATUS_TWIN_UP : Fld := ⟨0x40110004, 7, 7, .ro, 0⟩
/-- `PAIR.STATUS` field SYNCED, R303. -/
def R.PAIR_STATUS_SYNCED : Fld := ⟨0x40110004, 6, 6, .ro, 0⟩
/-- `PAIR.STATUS` field CLAIM_LINE, R303. -/
def R.PAIR_STATUS_CLAIM_LINE : Fld := ⟨0x40110004, 5, 5, .ro, 0⟩
/-- `PAIR.STATUS` field CLAIM_HELD, R303. -/
def R.PAIR_STATUS_CLAIM_HELD : Fld := ⟨0x40110004, 4, 4, .ro, 0⟩
/-- `PAIR.STATUS` field SIDE, R303. -/
def R.PAIR_STATUS_SIDE : Fld := ⟨0x40110004, 3, 3, .ro, 0⟩
/-- `PAIR.STATUS` field STATE, R303. -/
def R.PAIR_STATUS_STATE : Fld := ⟨0x40110004, 2, 0, .ro, 0⟩
/-- `PAIR.CMD`, R303. -/
def R.PAIR_CMD : Fld := ⟨0x40110008, 3, 0, .wo, 0⟩
/-- `PAIR.CMD_STATUS`, R303. -/
def R.PAIR_CMD_STATUS : Fld := ⟨0x4011000c, 7, 0, .ro, 0⟩
/-- `PAIR.WTR`, R303. -/
def R.PAIR_WTR : Fld := ⟨0x40110010, 31, 0, .rw, 120000⟩
/-- `PAIR.WTR_LEFT`, R303. -/
def R.PAIR_WTR_LEFT : Fld := ⟨0x40110014, 31, 0, .ro, 0⟩
/-- `PAIR.SETTLE_LEFT`, R303. -/
def R.PAIR_SETTLE_LEFT : Fld := ⟨0x40110018, 31, 0, .ro, 0⟩
/-- `PAIR.REPLAY`, R303. -/
def R.PAIR_REPLAY : Fld := ⟨0x4011001c, 15, 0, .ro, 0⟩
/-- `PAIR.RESYNC_T_LO`, R303. -/
def R.PAIR_RESYNC_T_LO : Fld := ⟨0x40110020, 31, 0, .ro, 0⟩
/-- `PAIR.RESYNC_T_HI`, R303. -/
def R.PAIR_RESYNC_T_HI : Fld := ⟨0x40110024, 31, 0, .ro, 0⟩
/-- `PAIR.HANDOVER_T_LO`, R303. -/
def R.PAIR_HANDOVER_T_LO : Fld := ⟨0x40110028, 31, 0, .ro, 0⟩
/-- `PAIR.HANDOVER_T_HI`, R303. -/
def R.PAIR_HANDOVER_T_HI : Fld := ⟨0x4011002c, 31, 0, .ro, 0⟩
/-- `PAIR.DIVERGE_T_LO`, R303. -/
def R.PAIR_DIVERGE_T_LO : Fld := ⟨0x40110030, 31, 0, .ro, 0⟩
/-- `PAIR.DIVERGE_T_HI`, R303. -/
def R.PAIR_DIVERGE_T_HI : Fld := ⟨0x40110034, 31, 0, .ro, 0⟩
/-- `PAIR.DIGEST_OWN`, R303. -/
def R.PAIR_DIGEST_OWN : Fld := ⟨0x40110038, 31, 0, .ro, 0⟩
/-- `PAIR.DIGEST_PARTNER`, R303. -/
def R.PAIR_DIGEST_PARTNER : Fld := ⟨0x4011003c, 31, 0, .ro, 0⟩
/-- `PAIR.DIGEST_TICK`, R303. -/
def R.PAIR_DIGEST_TICK : Fld := ⟨0x40110040, 31, 0, .ro, 0⟩
/-- `PAIR.ID`, R303. -/
def R.PAIR_ID : Fld := ⟨0x40110044, 15, 0, .rw, 0⟩
/-- `PAIR.HB_CFG` field QUEUE, R303. -/
def R.PAIR_HB_CFG_QUEUE : Fld := ⟨0x40110048, 6, 4, .rw, 7⟩
/-- `PAIR.HB_CFG` field PORTS, R303. -/
def R.PAIR_HB_CFG_PORTS : Fld := ⟨0x40110048, 3, 0, .rw, 0⟩
/-- `PAIR.HB_DST_HI`, R303. -/
def R.PAIR_HB_DST_HI : Fld := ⟨0x4011004c, 15, 0, .rw, 0⟩
/-- `PAIR.HB_DST_LO`, R303. -/
def R.PAIR_HB_DST_LO : Fld := ⟨0x40110050, 31, 0, .rw, 0⟩
/-- `PAIR.HB_SRC_HI`, R303. -/
def R.PAIR_HB_SRC_HI : Fld := ⟨0x40110054, 15, 0, .rw, 0⟩
/-- `PAIR.HB_SRC_LO`, R303. -/
def R.PAIR_HB_SRC_LO : Fld := ⟨0x40110058, 31, 0, .rw, 0⟩
/-- `PAIR.RBUF_LO`, R303. -/
def R.PAIR_RBUF_LO : Fld := ⟨0x4011005c, 31, 12, .rw, 0⟩
/-- `PAIR.RBUF_HI`, R303. -/
def R.PAIR_RBUF_HI : Fld := ⟨0x40110060, 3, 0, .rw, 0⟩
/-- `PAIR.RBUF_SIZE`, R303. -/
def R.PAIR_RBUF_SIZE : Fld := ⟨0x40110064, 22, 0, .rw, 0⟩
/-- `PAIR.HB_MISS` field PATH_B, R303. -/
def R.PAIR_HB_MISS_PATH_B : Fld := ⟨0x40110068, 31, 16, .rc, 0⟩
/-- `PAIR.HB_MISS` field PATH_A, R303. -/
def R.PAIR_HB_MISS_PATH_A : Fld := ⟨0x40110068, 15, 0, .rc, 0⟩
/-- `PAIR.EVT_CNT` field TAKEOVER, R303. -/
def R.PAIR_EVT_CNT_TAKEOVER : Fld := ⟨0x4011006c, 31, 24, .rc, 0⟩
/-- `PAIR.EVT_CNT` field HANDOVER, R303. -/
def R.PAIR_EVT_CNT_HANDOVER : Fld := ⟨0x4011006c, 23, 16, .rc, 0⟩
/-- `PAIR.EVT_CNT` field RESYNC, R303. -/
def R.PAIR_EVT_CNT_RESYNC : Fld := ⟨0x4011006c, 15, 8, .rc, 0⟩
/-- `PAIR.EVT_CNT` field DIVERGE, R303. -/
def R.PAIR_EVT_CNT_DIVERGE : Fld := ⟨0x4011006c, 7, 0, .rc, 0⟩
/-- `PAIR.IRQ_EN` field CONFLICT, R303. -/
def R.PAIR_IRQ_EN_CONFLICT : Fld := ⟨0x40110070, 8, 8, .rw, 0⟩
/-- `PAIR.IRQ_EN` field TWIN, R303. -/
def R.PAIR_IRQ_EN_TWIN : Fld := ⟨0x40110070, 7, 7, .rw, 0⟩
/-- `PAIR.IRQ_EN` field ISOLATED, R303. -/
def R.PAIR_IRQ_EN_ISOLATED : Fld := ⟨0x40110070, 6, 6, .rw, 0⟩
/-- `PAIR.IRQ_EN` field RESYNC_FAIL, R303. -/
def R.PAIR_IRQ_EN_RESYNC_FAIL : Fld := ⟨0x40110070, 5, 5, .rw, 0⟩
/-- `PAIR.IRQ_EN` field RESYNC_DONE, R303. -/
def R.PAIR_IRQ_EN_RESYNC_DONE : Fld := ⟨0x40110070, 4, 4, .rw, 0⟩
/-- `PAIR.IRQ_EN` field HANDOVER, R303. -/
def R.PAIR_IRQ_EN_HANDOVER : Fld := ⟨0x40110070, 3, 3, .rw, 0⟩
/-- `PAIR.IRQ_EN` field TAKEOVER, R303. -/
def R.PAIR_IRQ_EN_TAKEOVER : Fld := ⟨0x40110070, 2, 2, .rw, 0⟩
/-- `PAIR.IRQ_EN` field DIVERGE, R303. -/
def R.PAIR_IRQ_EN_DIVERGE : Fld := ⟨0x40110070, 1, 1, .rw, 0⟩
/-- `PAIR.IRQ_EN` field STATE, R303. -/
def R.PAIR_IRQ_EN_STATE : Fld := ⟨0x40110070, 0, 0, .rw, 0⟩
/-- `PAIR.IRQ_STATUS`, R303. -/
def R.PAIR_IRQ_STATUS : Fld := ⟨0x40110074, 8, 0, .w1c, 0⟩
/-- `CHAIN.CTRL` field CHN0_MODE, R326. -/
def R.CHAIN_CTRL_CHN0_MODE : Fld := ⟨0x40120000, 8, 8, .rw, 0⟩
/-- `CHAIN.CTRL` field EN, R326. -/
def R.CHAIN_CTRL_EN : Fld := ⟨0x40120000, 2, 0, .rw, 0⟩
/-- `CHAIN.STATUS`, R326. -/
def R.CHAIN_STATUS : Fld := ⟨0x40120004, 2, 0, .ro, 0⟩
/-- `CHAIN.IRQ_EN` field MISWIRE, R326. -/
def R.CHAIN_IRQ_EN_MISWIRE : Fld := ⟨0x40120008, 5, 5, .rw, 0⟩
/-- `CHAIN.IRQ_EN` field TRAIN_FAIL, R326. -/
def R.CHAIN_IRQ_EN_TRAIN_FAIL : Fld := ⟨0x40120008, 4, 4, .rw, 0⟩
/-- `CHAIN.IRQ_EN` field LATE, R326. -/
def R.CHAIN_IRQ_EN_LATE : Fld := ⟨0x40120008, 3, 3, .rw, 0⟩
/-- `CHAIN.IRQ_EN` field ERR, R326. -/
def R.CHAIN_IRQ_EN_ERR : Fld := ⟨0x40120008, 2, 2, .rw, 0⟩
/-- `CHAIN.IRQ_EN` field BALE_LOST, R326. -/
def R.CHAIN_IRQ_EN_BALE_LOST : Fld := ⟨0x40120008, 1, 1, .rw, 0⟩
/-- `CHAIN.IRQ_EN` field LINK, R326. -/
def R.CHAIN_IRQ_EN_LINK : Fld := ⟨0x40120008, 0, 0, .rw, 0⟩
/-- `CHAIN.IRQ_STATUS`, R326. -/
def R.CHAIN_IRQ_STATUS : Fld := ⟨0x4012000c, 5, 0, .w1c, 0⟩
/-- `CHAIN.P_STATUS` field PEER_ID, R326. -/
def R.CHAIN_P_STATUS_PEER_ID (p : Nat) : Fld := ⟨0x40120100 + 0x40 * p, 27, 24, .ro, 0⟩
/-- `CHAIN.P_STATUS` field PEER_PORT, R326. -/
def R.CHAIN_P_STATUS_PEER_PORT (p : Nat) : Fld := ⟨0x40120100 + 0x40 * p, 23, 22, .ro, 0⟩
/-- `CHAIN.P_STATUS` field PEER_SIDE, R326. -/
def R.CHAIN_P_STATUS_PEER_SIDE (p : Nat) : Fld := ⟨0x40120100 + 0x40 * p, 21, 21, .ro, 0⟩
/-- `CHAIN.P_STATUS` field TSTATE, R326. -/
def R.CHAIN_P_STATUS_TSTATE (p : Nat) : Fld := ⟨0x40120100 + 0x40 * p, 18, 16, .ro, 0⟩
/-- `CHAIN.P_STATUS` field LANE_LOCK, R326. -/
def R.CHAIN_P_STATUS_LANE_LOCK (p : Nat) : Fld := ⟨0x40120100 + 0x40 * p, 15, 12, .ro, 0⟩
/-- `CHAIN.P_STATUS` field REASON, R326. -/
def R.CHAIN_P_STATUS_REASON (p : Nat) : Fld := ⟨0x40120100 + 0x40 * p, 11, 8, .ro, 0⟩
/-- `CHAIN.P_TXEQ` field POST, R326. -/
def R.CHAIN_P_TXEQ_POST (p : Nat) : Fld := ⟨0x40120104 + 0x40 * p, 21, 16, .rw, 0⟩
/-- `CHAIN.P_TXEQ` field MAIN, R326. -/
def R.CHAIN_P_TXEQ_MAIN (p : Nat) : Fld := ⟨0x40120104 + 0x40 * p, 13, 8, .rw, 48⟩
/-- `CHAIN.P_TXEQ` field PRE, R326. -/
def R.CHAIN_P_TXEQ_PRE (p : Nat) : Fld := ⟨0x40120104 + 0x40 * p, 5, 0, .rw, 0⟩
/-- `CHAIN.P_POL` field RX_INV, R326. -/
def R.CHAIN_P_POL_RX_INV (p : Nat) : Fld := ⟨0x40120108 + 0x40 * p, 7, 4, .rw, 0⟩
/-- `CHAIN.P_POL` field TX_INV, R326. -/
def R.CHAIN_P_POL_TX_INV (p : Nat) : Fld := ⟨0x40120108 + 0x40 * p, 3, 0, .rw, 0⟩
/-- `CHAIN.P_DELAY`, R326. -/
def R.CHAIN_P_DELAY (p : Nat) : Fld := ⟨0x4012010c + 0x40 * p, 31, 0, .ro, 0⟩
/-- `CHAIN.P_SLOTS` field TX, R326. -/
def R.CHAIN_P_SLOTS_TX (p : Nat) : Fld := ⟨0x40120110 + 0x40 * p, 31, 16, .ro, 0⟩
/-- `CHAIN.P_SLOTS` field RX, R326. -/
def R.CHAIN_P_SLOTS_RX (p : Nat) : Fld := ⟨0x40120110 + 0x40 * p, 15, 0, .ro, 0⟩
/-- `CHAIN.P_BALES`, R326. -/
def R.CHAIN_P_BALES (p : Nat) : Fld := ⟨0x40120114 + 0x40 * p, 31, 0, .rc, 0⟩
/-- `CHAIN.P_BALE_ERR`, R326. -/
def R.CHAIN_P_BALE_ERR (p : Nat) : Fld := ⟨0x40120118 + 0x40 * p, 31, 0, .rc, 0⟩
/-- `CHAIN.P_RUN_ERR`, R326. -/
def R.CHAIN_P_RUN_ERR (p : Nat) : Fld := ⟨0x4012011c + 0x40 * p, 31, 0, .rc, 0⟩
/-- `CHAIN.P_LATE`, R326. -/
def R.CHAIN_P_LATE (p : Nat) : Fld := ⟨0x40120120 + 0x40 * p, 31, 0, .rc, 0⟩
/-- `CHAIN.P_ABANDON`, R326. -/
def R.CHAIN_P_ABANDON (p : Nat) : Fld := ⟨0x40120124 + 0x40 * p, 31, 0, .rc, 0⟩
/-- `CHAIN.P_LOST`, R326. -/
def R.CHAIN_P_LOST (p : Nat) : Fld := ⟨0x40120128 + 0x40 * p, 31, 0, .rc, 0⟩
/-- `CHAIN.P_TRAIN_CNT`, R326. -/
def R.CHAIN_P_TRAIN_CNT (p : Nat) : Fld := ⟨0x4012012c + 0x40 * p, 31, 0, .rc, 0⟩
/-- `FAB.CTRL` field RUN_FOLLOW, R327. -/
def R.FAB_CTRL_RUN_FOLLOW : Fld := ⟨0x40130000, 7, 7, .rw, 0⟩
/-- `FAB.CTRL` field EN, R327. -/
def R.FAB_CTRL_EN : Fld := ⟨0x40130000, 4, 4, .rw, 0⟩
/-- `FAB.CTRL` field ROLE, R327. -/
def R.FAB_CTRL_ROLE : Fld := ⟨0x40130000, 1, 0, .rw, 0⟩
/-- `FAB.ID` field FABRIC_ID, R327. -/
def R.FAB_ID_FABRIC_ID : Fld := ⟨0x40130004, 31, 16, .rw, 0⟩
/-- `FAB.ID` field DEPUTY_EN, R327. -/
def R.FAB_ID_DEPUTY_EN : Fld := ⟨0x40130004, 15, 15, .rw, 0⟩
/-- `FAB.ID` field DEPUTY_ID, R327. -/
def R.FAB_ID_DEPUTY_ID : Fld := ⟨0x40130004, 11, 8, .rw, 0⟩
/-- `FAB.ID` field MASTER_ID, R327. -/
def R.FAB_ID_MASTER_ID : Fld := ⟨0x40130004, 7, 4, .rw, 0⟩
/-- `FAB.ID` field NODE, R327. -/
def R.FAB_ID_NODE : Fld := ⟨0x40130004, 3, 0, .rw, 0⟩
/-- `FAB.STATUS` field BEACON_FROM, R327. -/
def R.FAB_STATUS_BEACON_FROM : Fld := ⟨0x40130008, 15, 12, .ro, 0⟩
/-- `FAB.STATUS` field HOPS, R327. -/
def R.FAB_STATUS_HOPS : Fld := ⟨0x40130008, 11, 8, .ro, 0⟩
/-- `FAB.STATUS` field VERSION_WARN, R327. -/
def R.FAB_STATUS_VERSION_WARN : Fld := ⟨0x40130008, 7, 7, .ro, 0⟩
/-- `FAB.STATUS` field NO_BEACON, R327. -/
def R.FAB_STATUS_NO_BEACON : Fld := ⟨0x40130008, 6, 6, .ro, 0⟩
/-- `FAB.STATUS` field ACTING, R327. -/
def R.FAB_STATUS_ACTING : Fld := ⟨0x40130008, 5, 5, .ro, 0⟩
/-- `FAB.STATUS` field RESUMING, R327. -/
def R.FAB_STATUS_RESUMING : Fld := ⟨0x40130008, 4, 4, .ro, 0⟩
/-- `FAB.STATUS` field FENCE, R327. -/
def R.FAB_STATUS_FENCE : Fld := ⟨0x40130008, 3, 0, .ro, 0⟩
/-- `FAB.FW_VER`, R327. -/
def R.FAB_FW_VER : Fld := ⟨0x4013000c, 31, 0, .rw, 0⟩
/-- `FAB.OFFSET`, R327. -/
def R.FAB_OFFSET : Fld := ⟨0x40130010, 31, 0, .ro, 0⟩
/-- `FAB.FENCE` field REJOIN_NS, R327. -/
def R.FAB_FENCE_REJOIN_NS : Fld := ⟨0x40130014, 31, 16, .rw, 250⟩
/-- `FAB.FENCE` field FENCE_NS, R327. -/
def R.FAB_FENCE_FENCE_NS : Fld := ⟨0x40130014, 15, 0, .rw, 1000⟩
/-- `FAB.REJOIN_TICKS`, R327. -/
def R.FAB_REJOIN_TICKS : Fld := ⟨0x40130018, 15, 0, .rw, 1000⟩
/-- `FAB.BCN_TICK_LO`, R327. -/
def R.FAB_BCN_TICK_LO : Fld := ⟨0x40130020, 31, 0, .ro, 0⟩
/-- `FAB.BCN_TICK_HI`, R327. -/
def R.FAB_BCN_TICK_HI : Fld := ⟨0x40130024, 31, 0, .ro, 0⟩
/-- `FAB.BCN_EPOCH_LO`, R327. -/
def R.FAB_BCN_EPOCH_LO : Fld := ⟨0x40130028, 31, 0, .ro, 0⟩
/-- `FAB.BCN_EPOCH_HI`, R327. -/
def R.FAB_BCN_EPOCH_HI : Fld := ⟨0x4013002c, 31, 0, .ro, 0⟩
/-- `FAB.BCN_HASH_LO`, R327. -/
def R.FAB_BCN_HASH_LO : Fld := ⟨0x40130030, 31, 0, .ro, 0⟩
/-- `FAB.BCN_HASH_HI`, R327. -/
def R.FAB_BCN_HASH_HI : Fld := ⟨0x40130034, 31, 0, .ro, 0⟩
/-- `FAB.BCN_FW`, R327. -/
def R.FAB_BCN_FW : Fld := ⟨0x40130038, 31, 0, .ro, 0⟩
/-- `FAB.BCN_TIME_NS`, R327. -/
def R.FAB_BCN_TIME_NS : Fld := ⟨0x4013003c, 31, 0, .ro, 0⟩
/-- `FAB.BCN_TIME_SEC`, R327. -/
def R.FAB_BCN_TIME_SEC : Fld := ⟨0x40130040, 31, 0, .ro, 0⟩
/-- `FAB.STOP_AT_LO`, R327. -/
def R.FAB_STOP_AT_LO : Fld := ⟨0x40130048, 31, 0, .rw, 0⟩
/-- `FAB.STOP_AT_HI`, R327. -/
def R.FAB_STOP_AT_HI : Fld := ⟨0x4013004c, 31, 0, .rw, 0⟩
/-- `FAB.STOP_STATUS` field LATE, R327. -/
def R.FAB_STOP_STATUS_LATE : Fld := ⟨0x40130054, 1, 1, .w1c, 0⟩
/-- `FAB.STOP_STATUS` field ARMED, R327. -/
def R.FAB_STOP_STATUS_ARMED : Fld := ⟨0x40130054, 0, 0, .ro, 0⟩
/-- `FAB.EVT_CNT` field FENCE, R327. -/
def R.FAB_EVT_CNT_FENCE : Fld := ⟨0x40130050, 31, 24, .rc, 0⟩
/-- `FAB.EVT_CNT` field DEPUTY, R327. -/
def R.FAB_EVT_CNT_DEPUTY : Fld := ⟨0x40130050, 23, 16, .rc, 0⟩
/-- `FAB.EVT_CNT` field VERSION, R327. -/
def R.FAB_EVT_CNT_VERSION : Fld := ⟨0x40130050, 15, 8, .rc, 0⟩
/-- `FAB.EVT_CNT` field NO_BEACON, R327. -/
def R.FAB_EVT_CNT_NO_BEACON : Fld := ⟨0x40130050, 7, 0, .rc, 0⟩
/-- `FAB.IRQ_EN` field EPOCH_FOLLOW, R327. -/
def R.FAB_IRQ_EN_EPOCH_FOLLOW : Fld := ⟨0x40130058, 5, 5, .rw, 0⟩
/-- `FAB.IRQ_EN` field VERSION, R327. -/
def R.FAB_IRQ_EN_VERSION : Fld := ⟨0x40130058, 4, 4, .rw, 0⟩
/-- `FAB.IRQ_EN` field MASTER_CHANGE, R327. -/
def R.FAB_IRQ_EN_MASTER_CHANGE : Fld := ⟨0x40130058, 3, 3, .rw, 0⟩
/-- `FAB.IRQ_EN` field NO_BEACON, R327. -/
def R.FAB_IRQ_EN_NO_BEACON : Fld := ⟨0x40130058, 2, 2, .rw, 0⟩
/-- `FAB.IRQ_EN` field UNFENCE, R327. -/
def R.FAB_IRQ_EN_UNFENCE : Fld := ⟨0x40130058, 1, 1, .rw, 0⟩
/-- `FAB.IRQ_EN` field FENCE, R327. -/
def R.FAB_IRQ_EN_FENCE : Fld := ⟨0x40130058, 0, 0, .rw, 0⟩
/-- `FAB.IRQ_STATUS`, R327. -/
def R.FAB_IRQ_STATUS : Fld := ⟨0x4013005c, 5, 0, .w1c, 0⟩
/-- `AMP.CTRL` field STAG_EN, R345. -/
def R.AMP_CTRL_STAG_EN : Fld := ⟨0x40140000, 1, 1, .rw, 0⟩
/-- `AMP.CTRL` field EN, R345. -/
def R.AMP_CTRL_EN : Fld := ⟨0x40140000, 0, 0, .rw, 0⟩
/-- `AMP.STATUS` field PHASE_LOCK, R345. -/
def R.AMP_STATUS_PHASE_LOCK : Fld := ⟨0x40140004, 2, 2, .ro, 0⟩
/-- `AMP.STATUS` field BACKUP, R345. -/
def R.AMP_STATUS_BACKUP : Fld := ⟨0x40140004, 1, 1, .ro, 0⟩
/-- `AMP.STATUS` field RUNNING, R345. -/
def R.AMP_STATUS_RUNNING : Fld := ⟨0x40140004, 0, 0, .ro, 0⟩
/-- `AMP.GRP_CTRL` field EN_AUTO, R345. -/
def R.AMP_GRP_CTRL_EN_AUTO : Fld := ⟨0x40140008, 15, 8, .rw, 0⟩
/-- `AMP.GRP_CTRL` field EN, R345. -/
def R.AMP_GRP_CTRL_EN : Fld := ⟨0x40140008, 7, 0, .rw, 0⟩
/-- `AMP.GRP_STATUS` field OT, R345. -/
def R.AMP_GRP_STATUS_OT : Fld := ⟨0x4014000c, 15, 8, .ro, 0⟩
/-- `AMP.GRP_STATUS` field EN_OUT, R345. -/
def R.AMP_GRP_STATUS_EN_OUT : Fld := ⟨0x4014000c, 7, 0, .ro, 0⟩
/-- `AMP.START` field EN_LEAD, R345. -/
def R.AMP_START_EN_LEAD : Fld := ⟨0x40140010, 23, 16, .rw, 20⟩
/-- `AMP.START` field DIV, R345. -/
def R.AMP_START_DIV : Fld := ⟨0x40140010, 11, 0, .rw, 392⟩
/-- `AMP.STAG` field TOL, R345. -/
def R.AMP_STAG_TOL : Fld := ⟨0x40140014, 31, 24, .rw, 10⟩
/-- `AMP.STAG` field DIV, R345. -/
def R.AMP_STAG_DIV : Fld := ⟨0x40140014, 11, 0, .rw, 392⟩
/-- `AMP.OT_RESTART`, R345. -/
def R.AMP_OT_RESTART : Fld := ⟨0x40140018, 31, 0, .rw, 12000⟩
/-- `AMP.RAIL_SCALE`, R345. -/
def R.AMP_RAIL_SCALE (r : Nat) : Fld := ⟨0x40140020 + 0x8 * r, 15, 0, .rw, 0⟩
/-- `AMP.RAIL_MEAS`, R345. -/
def R.AMP_RAIL_MEAS (r : Nat) : Fld := ⟨0x40140024 + 0x8 * r, 15, 0, .ro, 0⟩
/-- `AMP.IRQ_EN` field PHASE_LOCK, R345. -/
def R.AMP_IRQ_EN_PHASE_LOCK : Fld := ⟨0x40140040, 6, 6, .rw, 0⟩
/-- `AMP.IRQ_EN` field IDLE_RANGE, R345. -/
def R.AMP_IRQ_EN_IDLE_RANGE : Fld := ⟨0x40140040, 5, 5, .rw, 0⟩
/-- `AMP.IRQ_EN` field LIMIT, R345. -/
def R.AMP_IRQ_EN_LIMIT : Fld := ⟨0x40140040, 4, 4, .rw, 0⟩
/-- `AMP.IRQ_EN` field SENSE, R345. -/
def R.AMP_IRQ_EN_SENSE : Fld := ⟨0x40140040, 3, 3, .rw, 0⟩
/-- `AMP.IRQ_EN` field OT, R345. -/
def R.AMP_IRQ_EN_OT : Fld := ⟨0x40140040, 2, 2, .rw, 0⟩
/-- `AMP.IRQ_EN` field SHORT, R345. -/
def R.AMP_IRQ_EN_SHORT : Fld := ⟨0x40140040, 1, 1, .rw, 0⟩
/-- `AMP.IRQ_EN` field STATE, R345. -/
def R.AMP_IRQ_EN_STATE : Fld := ⟨0x40140040, 0, 0, .rw, 0⟩
/-- `AMP.IRQ_STATUS`, R345. -/
def R.AMP_IRQ_STATUS : Fld := ⟨0x40140044, 6, 0, .w1c, 0⟩
/-- `AMP.CH_CFG` field STAG, R345. -/
def R.AMP_CH_CFG_STAG (n : Nat) : Fld := ⟨0x40141000 + 0x40 * n, 7, 7, .rw, 0⟩
/-- `AMP.CH_CFG` field SGRP, R345. -/
def R.AMP_CH_CFG_SGRP (n : Nat) : Fld := ⟨0x40141000 + 0x40 * n, 6, 5, .rw, 0⟩
/-- `AMP.CH_CFG` field DROP_EN, R345. -/
def R.AMP_CH_CFG_DROP_EN (n : Nat) : Fld := ⟨0x40141000 + 0x40 * n, 4, 4, .rw, 0⟩
/-- `AMP.CH_CFG` field RAIL, R345. -/
def R.AMP_CH_CFG_RAIL (n : Nat) : Fld := ⟨0x40141000 + 0x40 * n, 1, 0, .rw, 0⟩
/-- `AMP.CH_CMD`, R345. -/
def R.AMP_CH_CMD (n : Nat) : Fld := ⟨0x40141004 + 0x40 * n, 3, 0, .wo, 0⟩
/-- `AMP.CH_STATE` field REASON, R345. -/
def R.AMP_CH_STATE_REASON (n : Nat) : Fld := ⟨0x40141008 + 0x40 * n, 15, 12, .ro, 0⟩
/-- `AMP.CH_STATE` field IDLE_RANGE, R345. -/
def R.AMP_CH_STATE_IDLE_RANGE (n : Nat) : Fld := ⟨0x40141008 + 0x40 * n, 11, 11, .w1c, 0⟩
/-- `AMP.CH_STATE` field TRACK_ERR, R345. -/
def R.AMP_CH_STATE_TRACK_ERR (n : Nat) : Fld := ⟨0x40141008 + 0x40 * n, 10, 10, .ro, 0⟩
/-- `AMP.CH_STATE` field STAG_LOCK, R345. -/
def R.AMP_CH_STATE_STAG_LOCK (n : Nat) : Fld := ⟨0x40141008 + 0x40 * n, 9, 9, .ro, 0⟩
/-- `AMP.CH_STATE` field RETRIES, R345. -/
def R.AMP_CH_STATE_RETRIES (n : Nat) : Fld := ⟨0x40141008 + 0x40 * n, 6, 5, .ro, 0⟩
/-- `AMP.CH_STATE` field STATE, R345. -/
def R.AMP_CH_STATE_STATE (n : Nat) : Fld := ⟨0x40141008 + 0x40 * n, 2, 0, .ro, 0⟩
/-- `AMP.CH_LOOP` field BW, R345. -/
def R.AMP_CH_LOOP_BW (n : Nat) : Fld := ⟨0x4014100c + 0x40 * n, 9, 8, .rw, 1⟩
/-- `AMP.CH_LOOP` field DLY, R345. -/
def R.AMP_CH_LOOP_DLY (n : Nat) : Fld := ⟨0x4014100c + 0x40 * n, 6, 0, .rw, 32⟩
/-- `AMP.CH_SCALE` field IFS, R345. -/
def R.AMP_CH_SCALE_IFS (n : Nat) : Fld := ⟨0x40141010 + 0x40 * n, 31, 16, .rw, 0⟩
/-- `AMP.CH_SCALE` field VFS, R345. -/
def R.AMP_CH_SCALE_VFS (n : Nat) : Fld := ⟨0x40141010 + 0x40 * n, 15, 0, .rw, 0⟩
/-- `AMP.CH_ILIM`, R345. -/
def R.AMP_CH_ILIM (n : Nat) : Fld := ⟨0x40141014 + 0x40 * n, 15, 0, .rw, 0⟩
/-- `AMP.CH_LIM` field RELEASE, R345. -/
def R.AMP_CH_LIM_RELEASE (n : Nat) : Fld := ⟨0x40141018 + 0x40 * n, 31, 16, .rw, 6000⟩
/-- `AMP.CH_LIM` field HEADROOM, R345. -/
def R.AMP_CH_LIM_HEADROOM (n : Nat) : Fld := ⟨0x40141018 + 0x40 * n, 15, 0, .rw, 200⟩
/-- `AMP.CH_GAIN`, R345. -/
def R.AMP_CH_GAIN (n : Nat) : Fld := ⟨0x4014101c + 0x40 * n, 23, 0, .ro, 8388607⟩
/-- `AMP.CH_FIDLE`, R345. -/
def R.AMP_CH_FIDLE (n : Nat) : Fld := ⟨0x40141020 + 0x40 * n, 15, 0, .ro, 0⟩
/-- `AMP.CH_PHASE` field TARGET, R345. -/
def R.AMP_CH_PHASE_TARGET (n : Nat) : Fld := ⟨0x40141024 + 0x40 * n, 24, 16, .ro, 0⟩
/-- `AMP.CH_PHASE` field PHASE, R345. -/
def R.AMP_CH_PHASE_PHASE (n : Nat) : Fld := ⟨0x40141024 + 0x40 * n, 8, 0, .ro, 0⟩
/-- `AMP.CH_EVT` field TRIPS, R345. -/
def R.AMP_CH_EVT_TRIPS (n : Nat) : Fld := ⟨0x40141028 + 0x40 * n, 31, 16, .rc, 0⟩
/-- `AMP.CH_EVT` field LIMIT_TICKS, R345. -/
def R.AMP_CH_EVT_LIMIT_TICKS (n : Nat) : Fld := ⟨0x40141028 + 0x40 * n, 15, 0, .rc, 0⟩
/-- `AMP.CH_IPEAK`, R345. -/
def R.AMP_CH_IPEAK (n : Nat) : Fld := ⟨0x4014102c + 0x40 * n, 15, 0, .rc, 0⟩
/-- `GRAN.PWR` field B_REQ, R371. -/
def R.GRAN_PWR_B_REQ : Fld := ⟨0x40150000, 3, 2, .rw, 0⟩
/-- `GRAN.PWR` field A_REQ, R371. -/
def R.GRAN_PWR_A_REQ : Fld := ⟨0x40150000, 1, 0, .rw, 0⟩
/-- `GRAN.PWR_STATUS` field REFUSED, R371. -/
def R.GRAN_PWR_STATUS_REFUSED : Fld := ⟨0x40150004, 7, 7, .w1c, 0⟩
/-- `GRAN.PWR_STATUS` field B_STATE, R371. -/
def R.GRAN_PWR_STATUS_B_STATE : Fld := ⟨0x40150004, 6, 4, .ro, 0⟩
/-- `GRAN.PWR_STATUS` field A_STATE, R371. -/
def R.GRAN_PWR_STATUS_A_STATE : Fld := ⟨0x40150004, 2, 0, .ro, 0⟩
/-- `GRAN.ECC_CE`, R371. -/
def R.GRAN_ECC_CE : Fld := ⟨0x40150008, 31, 0, .rc, 0⟩
/-- `GRAN.ECC_UE`, R371. -/
def R.GRAN_ECC_UE : Fld := ⟨0x4015000c, 31, 0, .rc, 0⟩
/-- `GRAN.ERR_ADDR`, R371. -/
def R.GRAN_ERR_ADDR : Fld := ⟨0x40150010, 21, 0, .ro, 0⟩
/-- `GRAN.ERR_INFO` field KIND, R371. -/
def R.GRAN_ERR_INFO_KIND : Fld := ⟨0x40150014, 1, 1, .ro, 0⟩
/-- `GRAN.ERR_INFO` field PORT, R371. -/
def R.GRAN_ERR_INFO_PORT : Fld := ⟨0x40150014, 0, 0, .ro, 0⟩
/-- `GRAN.IRQ_EN` field POWER, R371. -/
def R.GRAN_IRQ_EN_POWER : Fld := ⟨0x40150018, 2, 2, .rw, 0⟩
/-- `GRAN.IRQ_EN` field UE, R371. -/
def R.GRAN_IRQ_EN_UE : Fld := ⟨0x40150018, 1, 1, .rw, 0⟩
/-- `GRAN.IRQ_EN` field CE, R371. -/
def R.GRAN_IRQ_EN_CE : Fld := ⟨0x40150018, 0, 0, .rw, 0⟩
/-- `GRAN.IRQ_STATUS`, R371. -/
def R.GRAN_IRQ_STATUS : Fld := ⟨0x4015001c, 2, 0, .w1c, 0⟩
/-- `BUSM.ERR_ADDR`, R374. -/
def R.BUSM_ERR_ADDR : Fld := ⟨0x40160000, 31, 0, .ro, 0⟩
/-- `BUSM.ERR_INFO` field KIND, R374. -/
def R.BUSM_ERR_INFO_KIND : Fld := ⟨0x40160004, 11, 10, .ro, 0⟩
/-- `BUSM.ERR_INFO` field WRITE, R374. -/
def R.BUSM_ERR_INFO_WRITE : Fld := ⟨0x40160004, 9, 9, .ro, 0⟩
/-- `BUSM.ERR_INFO` field MASTER, R374. -/
def R.BUSM_ERR_INFO_MASTER : Fld := ⟨0x40160004, 7, 4, .ro, 0⟩
/-- `BUSM.ERR_INFO` field ADDR_HI, R374. -/
def R.BUSM_ERR_INFO_ADDR_HI : Fld := ⟨0x40160004, 3, 0, .ro, 0⟩
/-- `BUSM.ERR_CNT`, R374. -/
def R.BUSM_ERR_CNT : Fld := ⟨0x40160008, 31, 0, .rc, 0⟩
/-- `BUSM.IRQ_EN`, R374. -/
def R.BUSM_IRQ_EN : Fld := ⟨0x4016000c, 2, 0, .rw, 0⟩
/-- `BUSM.IRQ_STATUS`, R374. -/
def R.BUSM_IRQ_STATUS : Fld := ⟨0x40160010, 2, 0, .w1c, 0⟩
/-- `BUSM.OUTST`, R374. -/
def R.BUSM_OUTST (m : Nat) : Fld := ⟨0x40160100 + 0x4 * m, 5, 0, .ro, 0⟩
/-- `DDR.CFG` field RATE, R375. -/
def R.DDR_CFG_RATE : Fld := ⟨0x40170000, 11, 8, .lk, 0⟩
/-- `DDR.CFG` field RANKS, R375. -/
def R.DDR_CFG_RANKS : Fld := ⟨0x40170000, 4, 4, .lk, 0⟩
/-- `DDR.CFG` field SIZE, R375. -/
def R.DDR_CFG_SIZE : Fld := ⟨0x40170000, 3, 0, .lk, 0⟩
/-- `DDR.STATUS` field REFRATE, R375. -/
def R.DDR_STATUS_REFRATE : Fld := ⟨0x40170004, 12, 8, .ro, 0⟩
/-- `DDR.STATUS` field TRAINED, R375. -/
def R.DDR_STATUS_TRAINED : Fld := ⟨0x40170004, 0, 0, .ro, 0⟩
/-- `DDR.ECC_CE`, R375. -/
def R.DDR_ECC_CE : Fld := ⟨0x40170008, 31, 0, .rc, 0⟩
/-- `DDR.ECC_UE`, R375. -/
def R.DDR_ECC_UE : Fld := ⟨0x4017000c, 31, 0, .rc, 0⟩
/-- `DDR.ERR_ADDR_LO`, R375. -/
def R.DDR_ERR_ADDR_LO : Fld := ⟨0x40170010, 31, 0, .ro, 0⟩
/-- `DDR.ERR_ADDR_HI`, R375. -/
def R.DDR_ERR_ADDR_HI : Fld := ⟨0x40170014, 3, 0, .ro, 0⟩
/-- `DDR.IRQ_EN` field TEMP, R375. -/
def R.DDR_IRQ_EN_TEMP : Fld := ⟨0x40170018, 2, 2, .rw, 0⟩
/-- `DDR.IRQ_EN` field UE, R375. -/
def R.DDR_IRQ_EN_UE : Fld := ⟨0x40170018, 1, 1, .rw, 0⟩
/-- `DDR.IRQ_EN` field CE, R375. -/
def R.DDR_IRQ_EN_CE : Fld := ⟨0x40170018, 0, 0, .rw, 0⟩
/-- `DDR.IRQ_STATUS`, R375. -/
def R.DDR_IRQ_STATUS : Fld := ⟨0x4017001c, 2, 0, .w1c, 0⟩
/-- `SILO.CTRL` field TIMED, R148. -/
def R.SILO_CTRL_TIMED : Fld := ⟨0x40180000, 1, 1, .rw, 0⟩
/-- `SILO.CTRL` field REC, R148. -/
def R.SILO_CTRL_REC : Fld := ⟨0x40180000, 0, 0, .rw, 0⟩
/-- `SILO.BASE_LO`, R148. -/
def R.SILO_BASE_LO : Fld := ⟨0x40180004, 31, 12, .rw, 0⟩
/-- `SILO.BASE_HI`, R148. -/
def R.SILO_BASE_HI : Fld := ⟨0x40180008, 3, 0, .rw, 0⟩
/-- `SILO.SIZE`, R148. -/
def R.SILO_SIZE : Fld := ⟨0x4018000c, 22, 0, .rw, 0⟩
/-- `SILO.FORMAT` field REC_BYTES, R148. -/
def R.SILO_FORMAT_REC_BYTES : Fld := ⟨0x40180010, 31, 16, .ro, 0⟩
/-- `SILO.FORMAT` field RATE, R148. -/
def R.SILO_FORMAT_RATE : Fld := ⟨0x40180010, 15, 14, .ro, 0⟩
/-- `SILO.FORMAT` field NS, R148. -/
def R.SILO_FORMAT_NS : Fld := ⟨0x40180010, 6, 0, .ro, 0⟩
/-- `SILO.CAP`, R148. -/
def R.SILO_CAP : Fld := ⟨0x40180014, 31, 0, .ro, 0⟩
/-- `SILO.WIDX_LO`, R148. -/
def R.SILO_WIDX_LO : Fld := ⟨0x40180018, 31, 0, .ro, 0⟩
/-- `SILO.WIDX_HI`, R148. -/
def R.SILO_WIDX_HI : Fld := ⟨0x4018001c, 31, 0, .ro, 0⟩
/-- `SILO.OLDEST_LO`, R148. -/
def R.SILO_OLDEST_LO : Fld := ⟨0x40180020, 31, 0, .ro, 0⟩
/-- `SILO.OLDEST_HI`, R148. -/
def R.SILO_OLDEST_HI : Fld := ⟨0x40180024, 31, 0, .ro, 0⟩
/-- `SILO.CMD_AT_LO`, R148. -/
def R.SILO_CMD_AT_LO : Fld := ⟨0x40180028, 31, 0, .rw, 0⟩
/-- `SILO.CMD_AT_HI`, R148. -/
def R.SILO_CMD_AT_HI : Fld := ⟨0x4018002c, 31, 0, .rw, 0⟩
/-- `SILO.MARK_CMD` field CLEAR, R148. -/
def R.SILO_MARK_CMD_CLEAR : Fld := ⟨0x40180030, 9, 9, .wo, 0⟩
/-- `SILO.MARK_CMD` field SET, R148. -/
def R.SILO_MARK_CMD_SET : Fld := ⟨0x40180030, 8, 8, .wo, 0⟩
/-- `SILO.MARK_CMD` field MARK, R148. -/
def R.SILO_MARK_CMD_MARK : Fld := ⟨0x40180030, 1, 0, .wo, 0⟩
/-- `SILO.MARK_STATE`, R148. -/
def R.SILO_MARK_STATE : Fld := ⟨0x40180034, 7, 0, .ro, 0⟩
/-- `SILO.MARK_LO`, R148. -/
def R.SILO_MARK_LO (m : Nat) : Fld := ⟨0x40180040 + 0x8 * m, 31, 0, .ro, 0⟩
/-- `SILO.MARK_HI`, R148. -/
def R.SILO_MARK_HI (m : Nat) : Fld := ⟨0x40180044 + 0x8 * m, 31, 0, .ro, 0⟩
/-- `SILO.RP_CTRL` field MARK, R148. -/
def R.SILO_RP_CTRL_MARK : Fld := ⟨0x40180060, 5, 4, .wo, 0⟩
/-- `SILO.RP_CTRL` field CMD, R148. -/
def R.SILO_RP_CTRL_CMD : Fld := ⟨0x40180060, 3, 0, .wo, 0⟩
/-- `SILO.RP_START_LO`, R148. -/
def R.SILO_RP_START_LO : Fld := ⟨0x40180064, 31, 0, .rw, 0⟩
/-- `SILO.RP_START_HI`, R148. -/
def R.SILO_RP_START_HI : Fld := ⟨0x40180068, 31, 0, .rw, 0⟩
/-- `SILO.RP_LEN`, R148. -/
def R.SILO_RP_LEN : Fld := ⟨0x4018006c, 31, 0, .rw, 0⟩
/-- `SILO.RP_MASK_LO`, R148. -/
def R.SILO_RP_MASK_LO : Fld := ⟨0x40180070, 31, 0, .rw, 0⟩
/-- `SILO.RP_MASK_HI`, R148. -/
def R.SILO_RP_MASK_HI : Fld := ⟨0x40180074, 31, 0, .rw, 0⟩
/-- `SILO.RP_STATUS` field REASON, R148. -/
def R.SILO_RP_STATUS_REASON : Fld := ⟨0x40180078, 15, 8, .ro, 0⟩
/-- `SILO.RP_STATUS` field STATE, R148. -/
def R.SILO_RP_STATUS_STATE : Fld := ⟨0x40180078, 2, 0, .ro, 0⟩
/-- `SILO.RP_IDX_LO`, R148. -/
def R.SILO_RP_IDX_LO : Fld := ⟨0x4018007c, 31, 0, .ro, 0⟩
/-- `SILO.RP_IDX_HI`, R148. -/
def R.SILO_RP_IDX_HI : Fld := ⟨0x40180080, 31, 0, .ro, 0⟩
/-- `SILO.HELD_CNT`, R148. -/
def R.SILO_HELD_CNT : Fld := ⟨0x40180084, 31, 0, .rc, 0⟩
/-- `SILO.LATE_CNT`, R148. -/
def R.SILO_LATE_CNT : Fld := ⟨0x40180088, 31, 0, .rc, 0⟩
/-- `SILO.IRQ_EN` field WRITE_LATE, R148. -/
def R.SILO_IRQ_EN_WRITE_LATE : Fld := ⟨0x40180090, 4, 4, .rw, 0⟩
/-- `SILO.IRQ_EN` field REFUSED, R148. -/
def R.SILO_IRQ_EN_REFUSED : Fld := ⟨0x40180090, 3, 3, .rw, 0⟩
/-- `SILO.IRQ_EN` field REPLAY_OVERRUN, R148. -/
def R.SILO_IRQ_EN_REPLAY_OVERRUN : Fld := ⟨0x40180090, 2, 2, .rw, 0⟩
/-- `SILO.IRQ_EN` field REPLAY_END, R148. -/
def R.SILO_IRQ_EN_REPLAY_END : Fld := ⟨0x40180090, 1, 1, .rw, 0⟩
/-- `SILO.IRQ_EN` field MARK_LOST, R148. -/
def R.SILO_IRQ_EN_MARK_LOST : Fld := ⟨0x40180090, 0, 0, .rw, 0⟩
/-- `SILO.IRQ_STATUS`, R148. -/
def R.SILO_IRQ_STATUS : Fld := ⟨0x40180094, 4, 0, .w1c, 0⟩
/-- `GLEAN.CTRL` field MARCH_EN, R372. -/
def R.GLEAN_CTRL_MARCH_EN : Fld := ⟨0x40190000, 2, 2, .rw, 1⟩
/-- `GLEAN.CTRL` field DDR_SCRUB, R372. -/
def R.GLEAN_CTRL_DDR_SCRUB : Fld := ⟨0x40190000, 1, 1, .rw, 1⟩
/-- `GLEAN.CTRL` field GRAN_SCRUB, R372. -/
def R.GLEAN_CTRL_GRAN_SCRUB : Fld := ⟨0x40190000, 0, 0, .rw, 1⟩
/-- `GLEAN.SCRUB_DIV`, R372. -/
def R.GLEAN_SCRUB_DIV : Fld := ⟨0x40190004, 15, 0, .rw, 256⟩
/-- `GLEAN.DDR_DIV`, R372. -/
def R.GLEAN_DDR_DIV : Fld := ⟨0x40190008, 15, 0, .rw, 10⟩
/-- `GLEAN.MARCH_INT`, R372. -/
def R.GLEAN_MARCH_INT : Fld := ⟨0x4019000c, 15, 0, .rw, 1⟩
/-- `GLEAN.STATUS` field SEGMENT, R372. -/
def R.GLEAN_STATUS_SEGMENT : Fld := ⟨0x40190010, 15, 3, .ro, 0⟩
/-- `GLEAN.STATUS` field REPAIRED, R372. -/
def R.GLEAN_STATUS_REPAIRED : Fld := ⟨0x40190010, 2, 2, .ro, 0⟩
/-- `GLEAN.STATUS` field PHASE, R372. -/
def R.GLEAN_STATUS_PHASE : Fld := ⟨0x40190010, 1, 0, .ro, 0⟩
/-- `GLEAN.FAIL_ADDR`, R372. -/
def R.GLEAN_FAIL_ADDR : Fld := ⟨0x40190014, 31, 0, .ro, 0⟩
/-- `GLEAN.CE_CNT`, R372. -/
def R.GLEAN_CE_CNT : Fld := ⟨0x40190018, 31, 0, .rc, 0⟩
/-- `GLEAN.PASS_CNT`, R372. -/
def R.GLEAN_PASS_CNT : Fld := ⟨0x4019001c, 31, 0, .rc, 0⟩
/-- `GLEAN.IRQ_EN` field PASS, R372. -/
def R.GLEAN_IRQ_EN_PASS : Fld := ⟨0x40190020, 2, 2, .rw, 0⟩
/-- `GLEAN.IRQ_EN` field UE, R372. -/
def R.GLEAN_IRQ_EN_UE : Fld := ⟨0x40190020, 1, 1, .rw, 0⟩
/-- `GLEAN.IRQ_EN` field FAIL, R372. -/
def R.GLEAN_IRQ_EN_FAIL : Fld := ⟨0x40190020, 0, 0, .rw, 0⟩
/-- `GLEAN.IRQ_STATUS`, R372. -/
def R.GLEAN_IRQ_STATUS : Fld := ⟨0x40190024, 2, 0, .w1c, 0⟩
/-- `FCU.CTRL`, R396. -/
def R.FCU_CTRL : Fld := ⟨0x401a0000, 1, 1, .rw, 0⟩
/-- `FCU.STATUS` field SHADOWING, R396. -/
def R.FCU_STATUS_SHADOWING : Fld := ⟨0x401a0004, 4, 4, .ro, 0⟩
/-- `FCU.STATUS` field ERR_N, R396. -/
def R.FCU_STATUS_ERR_N : Fld := ⟨0x401a0004, 3, 3, .ro, 0⟩
/-- `FCU.STATUS` field HOLDING, R396. -/
def R.FCU_STATUS_HOLDING : Fld := ⟨0x401a0004, 2, 2, .ro, 0⟩
/-- `FCU.STATUS` field SAFE, R396. -/
def R.FCU_STATUS_SAFE : Fld := ⟨0x401a0004, 1, 1, .ro, 0⟩
/-- `FCU.STATUS` field FIRST_VALID, R396. -/
def R.FCU_STATUS_FIRST_VALID : Fld := ⟨0x401a0004, 0, 0, .ro, 0⟩
/-- `FCU.CMD`, R396. -/
def R.FCU_CMD : Fld := ⟨0x401a0008, 3, 0, .wo, 0⟩
/-- `FCU.ERR_HOLD`, R396. -/
def R.FCU_ERR_HOLD : Fld := ⟨0x401a000c, 0, 0, .rw, 0⟩
/-- `FCU.ERR_PULSE`, R396. -/
def R.FCU_ERR_PULSE : Fld := ⟨0x401a0010, 9, 0, .rw, 10⟩
/-- `FCU.SHADOW_TICKS`, R396. -/
def R.FCU_SHADOW_TICKS : Fld := ⟨0x401a0014, 15, 0, .rw, 24⟩
/-- `FCU.STICKY`, R396. -/
def R.FCU_STICKY (k : Nat) : Fld := ⟨0x401a0020 + 0x4 * k, 31, 0, .w1c, 0⟩
/-- `FCU.FIRST_LO`, R396. -/
def R.FCU_FIRST_LO : Fld := ⟨0x401a0030, 31, 0, .ro, 0⟩
/-- `FCU.FIRST_HI` field VALID, R396. -/
def R.FCU_FIRST_HI_VALID : Fld := ⟨0x401a0034, 31, 31, .ro, 0⟩
/-- `FCU.FIRST_HI` field INJ, R396. -/
def R.FCU_FIRST_HI_INJ : Fld := ⟨0x401a0034, 30, 30, .ro, 0⟩
/-- `FCU.FIRST_HI` field SEV, R396. -/
def R.FCU_FIRST_HI_SEV : Fld := ⟨0x401a0034, 29, 28, .ro, 0⟩
/-- `FCU.FIRST_HI` field KIND, R396. -/
def R.FCU_FIRST_HI_KIND : Fld := ⟨0x401a0034, 27, 23, .ro, 0⟩
/-- `FCU.FIRST_HI` field SOURCE, R396. -/
def R.FCU_FIRST_HI_SOURCE : Fld := ⟨0x401a0034, 22, 16, .ro, 0⟩
/-- `FCU.FIRST_HI` field ADDR_HI, R396. -/
def R.FCU_FIRST_HI_ADDR_HI : Fld := ⟨0x401a0034, 3, 0, .ro, 0⟩
/-- `FCU.FIRST_TICK_LO`, R396. -/
def R.FCU_FIRST_TICK_LO : Fld := ⟨0x401a0038, 31, 0, .ro, 0⟩
/-- `FCU.FIRST_TICK_HI`, R396. -/
def R.FCU_FIRST_TICK_HI : Fld := ⟨0x401a003c, 31, 0, .ro, 0⟩
/-- `FCU.LAST_LO`, R396. -/
def R.FCU_LAST_LO : Fld := ⟨0x401a0040, 31, 0, .ro, 0⟩
/-- `FCU.LAST_HI` field VALID, R396. -/
def R.FCU_LAST_HI_VALID : Fld := ⟨0x401a0044, 31, 31, .ro, 0⟩
/-- `FCU.LAST_HI` field INJ, R396. -/
def R.FCU_LAST_HI_INJ : Fld := ⟨0x401a0044, 30, 30, .ro, 0⟩
/-- `FCU.LAST_HI` field SEV, R396. -/
def R.FCU_LAST_HI_SEV : Fld := ⟨0x401a0044, 29, 28, .ro, 0⟩
/-- `FCU.LAST_HI` field KIND, R396. -/
def R.FCU_LAST_HI_KIND : Fld := ⟨0x401a0044, 27, 23, .ro, 0⟩
/-- `FCU.LAST_HI` field SOURCE, R396. -/
def R.FCU_LAST_HI_SOURCE : Fld := ⟨0x401a0044, 22, 16, .ro, 0⟩
/-- `FCU.LAST_HI` field ADDR_HI, R396. -/
def R.FCU_LAST_HI_ADDR_HI : Fld := ⟨0x401a0044, 3, 0, .ro, 0⟩
/-- `FCU.MSG_CNT`, R396. -/
def R.FCU_MSG_CNT : Fld := ⟨0x401a0048, 31, 0, .rc, 0⟩
/-- `FCU.SHADOW_CNT`, R396. -/
def R.FCU_SHADOW_CNT : Fld := ⟨0x401a004c, 31, 0, .rc, 0⟩
/-- `FCU.REACT_SEL` field SOURCE, R396. -/
def R.FCU_REACT_SEL_SOURCE : Fld := ⟨0x401a0050, 14, 8, .rw, 0⟩
/-- `FCU.REACT_SEL` field KIND, R396. -/
def R.FCU_REACT_SEL_KIND : Fld := ⟨0x401a0050, 4, 0, .rw, 0⟩
/-- `FCU.REACT`, R396. -/
def R.FCU_REACT : Fld := ⟨0x401a0054, 2, 0, .rw, 0⟩
/-- `FCU.SRC_SEL`, R396. -/
def R.FCU_SRC_SEL : Fld := ⟨0x401a0058, 6, 0, .rw, 0⟩
/-- `FCU.SRC_INFO` field COUNT, R396. -/
def R.FCU_SRC_INFO_COUNT : Fld := ⟨0x401a005c, 31, 16, .rc, 0⟩
/-- `FCU.SRC_INFO` field SEV, R396. -/
def R.FCU_SRC_INFO_SEV : Fld := ⟨0x401a005c, 15, 14, .ro, 0⟩
/-- `FCU.SRC_INFO` field KIND, R396. -/
def R.FCU_SRC_INFO_KIND : Fld := ⟨0x401a005c, 8, 4, .ro, 0⟩
/-- `FCU.CONSEQ`, R396. -/
def R.FCU_CONSEQ (k : Nat) : Fld := ⟨0x401a0060 + 0x4 * k, 31, 0, .rw, 0⟩
/-- `FCU.INJECT` field KEY, R396. -/
def R.FCU_INJECT_KEY : Fld := ⟨0x401a0080, 15, 8, .wo, 0⟩
/-- `FCU.INJECT` field DONE, R396. -/
def R.FCU_INJECT_DONE : Fld := ⟨0x401a0080, 7, 7, .ro, 0⟩
/-- `FCU.INJECT` field ARMED, R396. -/
def R.FCU_INJECT_ARMED : Fld := ⟨0x401a0080, 6, 6, .ro, 0⟩
/-- `FCU.INJECT` field CHECKER, R396. -/
def R.FCU_INJECT_CHECKER : Fld := ⟨0x401a0080, 3, 0, .rw, 0⟩
/-- `FCU.SELF` field DUAL, R396. -/
def R.FCU_SELF_DUAL : Fld := ⟨0x401a0084, 1, 1, .ro, 0⟩
/-- `FCU.SELF` field PARITY, R396. -/
def R.FCU_SELF_PARITY : Fld := ⟨0x401a0084, 0, 0, .ro, 0⟩
/-- `FCU.IRQ_EN` field INJ_DONE, R396. -/
def R.FCU_IRQ_EN_INJ_DONE : Fld := ⟨0x401a0090, 3, 3, .rw, 0⟩
/-- `FCU.IRQ_EN` field SHADOW, R396. -/
def R.FCU_IRQ_EN_SHADOW : Fld := ⟨0x401a0090, 2, 2, .rw, 0⟩
/-- `FCU.IRQ_EN` field SAFE, R396. -/
def R.FCU_IRQ_EN_SAFE : Fld := ⟨0x401a0090, 1, 1, .rw, 0⟩
/-- `FCU.IRQ_EN` field MSG, R396. -/
def R.FCU_IRQ_EN_MSG : Fld := ⟨0x401a0090, 0, 0, .rw, 0⟩
/-- `FCU.IRQ_STATUS`, R396. -/
def R.FCU_IRQ_STATUS : Fld := ⟨0x401a0094, 3, 0, .w1c, 0⟩
/-- `GRNG.CTRL` field MGMT_CMD, R413. -/
def R.GRNG_CTRL_MGMT_CMD : Fld := ⟨0x401b0000, 1, 1, .rw, 0⟩
/-- `GRNG.CTRL` field RESTART, R413. -/
def R.GRNG_CTRL_RESTART : Fld := ⟨0x401b0000, 0, 0, .wo, 0⟩
/-- `GRNG.STATUS` field ROLLED_BACK, R413. -/
def R.GRNG_STATUS_ROLLED_BACK : Fld := ⟨0x401b0004, 3, 3, .w1c, 0⟩
/-- `GRNG.STATUS` field SLOT, R413. -/
def R.GRNG_STATUS_SLOT : Fld := ⟨0x401b0004, 2, 2, .ro, 0⟩
/-- `GRNG.STATUS` field TRIAL, R413. -/
def R.GRNG_STATUS_TRIAL : Fld := ⟨0x401b0004, 1, 1, .ro, 0⟩
/-- `GRNG.STATUS` field RUN, R413. -/
def R.GRNG_STATUS_RUN : Fld := ⟨0x401b0004, 0, 0, .rw, 0⟩
/-- `GRNG.FW_VER`, R413. -/
def R.GRNG_FW_VER : Fld := ⟨0x401b0008, 31, 0, .ro, 0⟩
/-- `GRNG.WDOG` field EN, R413. -/
def R.GRNG_WDOG_EN : Fld := ⟨0x401b000c, 31, 31, .w1s, 0⟩
/-- `GRNG.WDOG` field ACTION, R413. -/
def R.GRNG_WDOG_ACTION : Fld := ⟨0x401b000c, 30, 30, .rw, 0⟩
/-- `GRNG.WDOG` field TIMEOUT, R413. -/
def R.GRNG_WDOG_TIMEOUT : Fld := ⟨0x401b000c, 15, 0, .rw, 1000⟩
/-- `GRNG.WDOG_KICK`, R413. -/
def R.GRNG_WDOG_KICK : Fld := ⟨0x401b0010, 15, 0, .wo, 0⟩
/-- `GRNG.WDOG_LEFT`, R413. -/
def R.GRNG_WDOG_LEFT : Fld := ⟨0x401b0014, 15, 0, .ro, 0⟩
/-- `GRNG.LOG_HEAD`, R413. -/
def R.GRNG_LOG_HEAD : Fld := ⟨0x401b0018, 31, 0, .ro, 0⟩
/-- `GRNG.LOG_DROP`, R413. -/
def R.GRNG_LOG_DROP : Fld := ⟨0x401b001c, 31, 0, .rc, 0⟩
/-- `GRNG.ODMA_SRC_LO`, R413. -/
def R.GRNG_ODMA_SRC_LO : Fld := ⟨0x401b0020, 31, 0, .rw, 0⟩
/-- `GRNG.ODMA_SRC_HI`, R413. -/
def R.GRNG_ODMA_SRC_HI : Fld := ⟨0x401b0024, 3, 0, .rw, 0⟩
/-- `GRNG.ODMA_DST_LO`, R413. -/
def R.GRNG_ODMA_DST_LO : Fld := ⟨0x401b0028, 31, 0, .rw, 0⟩
/-- `GRNG.ODMA_DST_HI`, R413. -/
def R.GRNG_ODMA_DST_HI : Fld := ⟨0x401b002c, 31, 0, .rw, 0⟩
/-- `GRNG.ODMA_LEN`, R413. -/
def R.GRNG_ODMA_LEN : Fld := ⟨0x401b0030, 20, 0, .rw, 0⟩
/-- `GRNG.ODMA_CTRL` field ERR, R413. -/
def R.GRNG_ODMA_CTRL_ERR : Fld := ⟨0x401b0034, 2, 2, .w1c, 0⟩
/-- `GRNG.ODMA_CTRL` field DONE, R413. -/
def R.GRNG_ODMA_CTRL_DONE : Fld := ⟨0x401b0034, 1, 1, .w1c, 0⟩
/-- `GRNG.ODMA_CTRL` field START, R413. -/
def R.GRNG_ODMA_CTRL_START : Fld := ⟨0x401b0034, 0, 0, .w1s, 0⟩
/-- `GRNG.IRQ_PEND`, R413. -/
def R.GRNG_IRQ_PEND : Fld := ⟨0x401b0040, 26, 0, .ro, 0⟩
/-- `GRNG.IRQ_MASK`, R413. -/
def R.GRNG_IRQ_MASK : Fld := ⟨0x401b0044, 26, 0, .rw, 0⟩
/-- `GRNG.RESTART_CNT`, R413. -/
def R.GRNG_RESTART_CNT : Fld := ⟨0x401b0048, 31, 0, .rc, 0⟩
/-- `PCIE.LINK` field LTSSM, R376. -/
def R.PCIE_LINK_LTSSM : Fld := ⟨0x401c0000, 15, 8, .ro, 0⟩
/-- `PCIE.LINK` field WIDTH, R376. -/
def R.PCIE_LINK_WIDTH : Fld := ⟨0x401c0000, 7, 4, .ro, 0⟩
/-- `PCIE.LINK` field SPEED, R376. -/
def R.PCIE_LINK_SPEED : Fld := ⟨0x401c0000, 3, 1, .ro, 0⟩
/-- `PCIE.LINK` field UP, R376. -/
def R.PCIE_LINK_UP : Fld := ⟨0x401c0000, 0, 0, .ro, 0⟩
/-- `PCIE.IDS` field DEVICE, R376. -/
def R.PCIE_IDS_DEVICE : Fld := ⟨0x401c0004, 31, 16, .ro, 4132⟩
/-- `PCIE.IDS` field VENDOR, R376. -/
def R.PCIE_IDS_VENDOR : Fld := ⟨0x401c0004, 15, 0, .ro, 8045⟩
/-- `PCIE.BAR4_WIN`, R376. -/
def R.PCIE_BAR4_WIN : Fld := ⟨0x401c0008, 3, 0, .rw, 0⟩
/-- `PCIE.UR_CNT`, R376. -/
def R.PCIE_UR_CNT : Fld := ⟨0x401c000c, 31, 0, .rc, 0⟩
/-- `PCIE.DB_H2G`, R376. -/
def R.PCIE_DB_H2G : Fld := ⟨0x401c0010, 31, 0, .w1c, 0⟩
/-- `PCIE.DB_H2G_SET`, R376. -/
def R.PCIE_DB_H2G_SET : Fld := ⟨0x401c0014, 31, 0, .w1s, 0⟩
/-- `PCIE.DB_G2H`, R376. -/
def R.PCIE_DB_G2H : Fld := ⟨0x401c0018, 31, 0, .w1c, 0⟩
/-- `PCIE.DB_G2H_SET`, R376. -/
def R.PCIE_DB_G2H_SET : Fld := ⟨0x401c001c, 31, 0, .w1s, 0⟩
/-- `PCIE.VEC_MAP` field EN, R376. -/
def R.PCIE_VEC_MAP_EN (s : Nat) : Fld := ⟨0x401c0100 + 0x4 * s, 31, 31, .rw, 0⟩
/-- `PCIE.VEC_MAP` field VECTOR, R376. -/
def R.PCIE_VEC_MAP_VECTOR (s : Nat) : Fld := ⟨0x401c0100 + 0x4 * s, 5, 0, .rw, s⟩
/-- `PCIE.MBX_H2G`, R376. -/
def R.PCIE_MBX_H2G (w : Nat) : Fld := ⟨0x401c0400 + 0x4 * w, 31, 0, .rw, 0⟩
/-- `PCIE.MBX_G2H`, R376. -/
def R.PCIE_MBX_G2H (w : Nat) : Fld := ⟨0x401c0500 + 0x4 * w, 31, 0, .rw, 0⟩
/-- `LCS.STATE` field PENDING, R414. -/
def R.LCS_STATE_PENDING : Fld := ⟨0x401d0000, 8, 8, .ro, 0⟩
/-- `LCS.STATE` field STATE, R414. -/
def R.LCS_STATE_STATE : Fld := ⟨0x401d0000, 2, 0, .ro, 0⟩
/-- `LCS.CTRL`, R414. -/
def R.LCS_CTRL : Fld := ⟨0x401d0004, 0, 0, .rw, 0⟩
/-- `LCS.UID_LO`, R414. -/
def R.LCS_UID_LO : Fld := ⟨0x401d0008, 31, 0, .ro, 0⟩
/-- `LCS.UID_HI`, R414. -/
def R.LCS_UID_HI : Fld := ⟨0x401d000c, 31, 0, .ro, 0⟩
/-- `LCS.SIGREQ` field IMG, R414. -/
def R.LCS_SIGREQ_IMG : Fld := ⟨0x401d0010, 1, 1, .ro, 0⟩
/-- `LCS.SIGREQ` field FW, R414. -/
def R.LCS_SIGREQ_FW : Fld := ⟨0x401d0010, 0, 0, .ro, 0⟩
/-- `LCS.KEYVALID`, R414. -/
def R.LCS_KEYVALID : Fld := ⟨0x401d0014, 3, 0, .ro, 0⟩
/-- `LCS.CNT`, R414. -/
def R.LCS_CNT (n : Nat) : Fld := ⟨0x401d0020 + 0x4 * n, 31, 0, .ro, 0⟩
/-- `LCS.LC_STATUS`, R414. -/
def R.LCS_LC_STATUS : Fld := ⟨0x401d0044, 7, 0, .ro, 0⟩
/-- `LCS.VERIFY_FAILS`, R414. -/
def R.LCS_VERIFY_FAILS : Fld := ⟨0x401d0048, 31, 0, .rc, 0⟩
/-- `SENS.T_LIM` field CRIT, R415. -/
def R.SENS_T_LIM_CRIT : Fld := ⟨0x401e0000, 31, 16, .rw, 11800⟩
/-- `SENS.T_LIM` field HIGH, R415. -/
def R.SENS_T_LIM_HIGH : Fld := ⟨0x401e0000, 15, 0, .rw, 10500⟩
/-- `SENS.IRQ_EN` field FAILED, R415. -/
def R.SENS_IRQ_EN_FAILED : Fld := ⟨0x401e0004, 2, 2, .rw, 0⟩
/-- `SENS.IRQ_EN` field REJECT, R415. -/
def R.SENS_IRQ_EN_REJECT : Fld := ⟨0x401e0004, 1, 1, .rw, 0⟩
/-- `SENS.IRQ_EN` field LIMIT, R415. -/
def R.SENS_IRQ_EN_LIMIT : Fld := ⟨0x401e0004, 0, 0, .rw, 0⟩
/-- `SENS.IRQ_STATUS`, R415. -/
def R.SENS_IRQ_STATUS : Fld := ⟨0x401e0008, 2, 0, .w1c, 0⟩
/-- `SENS.I_SCALE`, R415. -/
def R.SENS_I_SCALE (n : Nat) : Fld := ⟨0x401e0010 + 0x4 * n, 15, 0, .rw, 0⟩
/-- `SENS.S_VALUE`, R415. -/
def R.SENS_S_VALUE (n : Nat) : Fld := ⟨0x401e0100 + 0x10 * n, 31, 0, .ro, 0⟩
/-- `SENS.S_LIM` field HI, R415. -/
def R.SENS_S_LIM_HI (n : Nat) : Fld := ⟨0x401e0104 + 0x10 * n, 31, 16, .rw, (sensLimHi n)⟩
/-- `SENS.S_LIM` field LO, R415. -/
def R.SENS_S_LIM_LO (n : Nat) : Fld := ⟨0x401e0104 + 0x10 * n, 15, 0, .rw, (sensLimLo n)⟩
/-- `SENS.S_STATUS` field REJ_CNT, R415. -/
def R.SENS_S_STATUS_REJ_CNT (n : Nat) : Fld := ⟨0x401e0108 + 0x10 * n, 31, 16, .rc, 0⟩
/-- `SENS.S_STATUS` field FAILED, R415. -/
def R.SENS_S_STATUS_FAILED (n : Nat) : Fld := ⟨0x401e0108 + 0x10 * n, 3, 3, .ro, 0⟩
/-- `SENS.S_STATUS` field HIGH, R415. -/
def R.SENS_S_STATUS_HIGH (n : Nat) : Fld := ⟨0x401e0108 + 0x10 * n, 2, 2, .ro, 0⟩
/-- `SENS.S_STATUS` field LOW, R415. -/
def R.SENS_S_STATUS_LOW (n : Nat) : Fld := ⟨0x401e0108 + 0x10 * n, 1, 1, .ro, 0⟩
/-- `SENS.S_STATUS` field VALID, R415. -/
def R.SENS_S_STATUS_VALID (n : Nat) : Fld := ⟨0x401e0108 + 0x10 * n, 0, 0, .ro, 0⟩

/-- Registers of the SYS block (part 0). -/
def regsSYSP0 : List RegDef :=
  [⟨0x40000000, 1, 4, fun _ => [R.SYS_ID]⟩,
   ⟨0x40000004, 1, 4, fun _ => [R.SYS_STEP_BASE, R.SYS_STEP_METAL]⟩,
   ⟨0x40000008, 1, 4, fun _ => [R.SYS_FEATURE]⟩,
   ⟨0x4000000c, 1, 4, fun _ => [R.SYS_REMAP]⟩,
   ⟨0x40000010, 1, 4, fun _ => [R.SYS_RSTCAUSE_COUNT, R.SYS_RSTCAUSE_DDR_WIPED, R.SYS_RSTCAUSE_LAST, R.SYS_RSTCAUSE_CAUSE]⟩,
   ⟨0x40000014, 1, 4, fun _ => [R.SYS_BOOT_TIME_MS, R.SYS_BOOT_NOR_ABSENT, R.SYS_BOOT_STRAP_BAD, R.SYS_BOOT_MODE, R.SYS_BOOT_PAIR_SIDE, R.SYS_BOOT_STRAP]⟩]
/-- Registers of the SYS block. -/
def regsSYS : List RegDef := regsSYSP0
/-- Registers of the PWR block (part 0). -/
def regsPWRP0 : List RegDef :=
  [⟨0x40010000, 1, 4, fun _ => [R.PWR_CTRL_FORCE, R.PWR_CTRL_MBB, R.PWR_CTRL_AUTO]⟩,
   ⟨0x40010004, 1, 4, fun _ => [R.PWR_STATUS_PMB_BUSY, R.PWR_STATUS_STANDBY, R.PWR_STATUS_BACK_OK, R.PWR_STATUS_MAIN_OK, R.PWR_STATUS_AON_SRC, R.PWR_STATUS_FEED]⟩,
   ⟨0x40010008, 1, 4, fun _ => [R.PWR_DOM_REQ]⟩,
   ⟨0x4001000c, 1, 4, fun _ => [R.PWR_DOM_STATUS_BUSY, R.PWR_DOM_STATUS_ON]⟩,
   ⟨0x40010010, 1, 4, fun _ => [R.PWR_VIN_CFG_HYST, R.PWR_VIN_CFG_THRESH]⟩,
   ⟨0x40010014, 1, 4, fun _ => [R.PWR_SW_CFG_DEAD, R.PWR_SW_CFG_OVERLAP, R.PWR_SW_CFG_DELAY]⟩,
   ⟨0x40010018, 1, 4, fun _ => [R.PWR_RET_DELAY]⟩,
   ⟨0x4001001c, 1, 4, fun _ => [R.PWR_BACKUP_GAIN]⟩,
   ⟨0x40010020, 1, 4, fun _ => [R.PWR_PMB_CFG_SETTLE, R.PWR_PMB_CFG_TOL, R.PWR_PMB_CFG_ADDR]⟩,
   ⟨0x40010024, 1, 4, fun _ => [R.PWR_PMB_STATUS_ALERT, R.PWR_PMB_STATUS_ERR, R.PWR_PMB_STATUS_VOUT]⟩,
   ⟨0x40010028, 1, 4, fun _ => [R.PWR_CMD]⟩,
   ⟨0x4001002c, 1, 4, fun _ => [R.PWR_WAKE_EN]⟩,
   ⟨0x40010030, 1, 4, fun _ => [R.PWR_WAKE_STATUS]⟩,
   ⟨0x40010034, 1, 4, fun _ => [R.PWR_WAKE_TIMER]⟩,
   ⟨0x40010038, 1, 4, fun _ => [R.PWR_FEED_CNT_TO_MAIN, R.PWR_FEED_CNT_TO_BACKUP]⟩,
   ⟨0x40010040, 1, 4, fun _ => [R.PWR_IRQ_EN_AON_SRC, R.PWR_IRQ_EN_WAKE, R.PWR_IRQ_EN_PMBUS, R.PWR_IRQ_EN_REFUSED, R.PWR_IRQ_EN_FEED]⟩,
   ⟨0x40010044, 1, 4, fun _ => [R.PWR_IRQ_STATUS]⟩]
/-- Registers of the PWR block. -/
def regsPWR : List RegDef := regsPWRP0
/-- Registers of the RST block (part 0). -/
def regsRSTP0 : List RegDef :=
  [⟨0x40020000, 1, 4, fun _ => [R.RST_CHIP]⟩,
   ⟨0x40020004, 1, 4, fun _ => [R.RST_CTRL]⟩,
   ⟨0x40020008, 1, 4, fun _ => [R.RST_BLOCK_CMD_HOPPER, R.RST_BLOCK_CMD_SOURCE]⟩,
   ⟨0x4002000c, 1, 4, fun _ => [R.RST_BLOCK_STATUS_COUNT, R.RST_BLOCK_STATUS_LAST, R.RST_BLOCK_STATUS_REFUSED, R.RST_BLOCK_STATUS_BUSY]⟩]
/-- Registers of the RST block. -/
def regsRST : List RegDef := regsRSTP0
/-- Registers of the CLK block (part 0). -/
def regsCLKP0 : List RegDef :=
  [⟨0x40030000, 1, 4, fun _ => [R.CLK_CTRL_LEARN_AGE, R.CLK_CTRL_LEARN_T, R.CLK_CTRL_FORCE_REF, R.CLK_CTRL_FORCE, R.CLK_CTRL_REVERT]⟩,
   ⟨0x40030004, 1, 4, fun _ => [R.CLK_STATUS_BW_CLAMPED, R.CLK_STATUS_XO_FAIL, R.CLK_STATUS_REF_DISAGREE, R.CLK_STATUS_ALIGNING, R.CLK_STATUS_SEL_VALID, R.CLK_STATUS_SEL_REF, R.CLK_STATUS_STAGE, R.CLK_STATUS_STATE]⟩,
   ⟨0x40030008, 1, 4, fun _ => [R.CLK_CMD]⟩,
   ⟨0x4003000c, 1, 4, fun _ => [R.CLK_PHASE_OFS]⟩,
   ⟨0x40030010, 1, 4, fun _ => [R.CLK_BUILDOUT]⟩,
   ⟨0x40030014, 1, 4, fun _ => [R.CLK_PHASE_ERR]⟩,
   ⟨0x40030018, 1, 4, fun _ => [R.CLK_FREQ_WORD]⟩,
   ⟨0x4003001c, 1, 4, fun _ => [R.CLK_FREERUN_WORD]⟩,
   ⟨0x40030020, 1, 4, fun _ => [R.CLK_DISAGREE_PPB]⟩,
   ⟨0x40030024, 1, 4, fun _ => [R.CLK_WTR]⟩,
   ⟨0x40030028, 1, 4, fun _ => [R.CLK_QUAL_REJECT_PPM, R.CLK_QUAL_ACCEPT_PPM, R.CLK_QUAL_TIME]⟩,
   ⟨0x4003002c, 1, 4, fun _ => [R.CLK_ALIGN_RATE]⟩,
   ⟨0x40030030, 1, 4, fun _ => [R.CLK_ACQ_SLOPE]⟩,
   ⟨0x40030034, 1, 4, fun _ => [R.CLK_LOCK_UNLOCK_NS, R.CLK_LOCK_LOCK_NS]⟩,
   ⟨0x40030038, 1, 4, fun _ => [R.CLK_LEHR_CFG]⟩,
   ⟨0x40030040, 4, 8, fun s => [R.CLK_LEHR s]⟩,
   ⟨0x40030044, 4, 8, fun s => [R.CLK_LEHR_DWELL s]⟩,
   ⟨0x40030060, 1, 4, fun _ => [R.CLK_HO_AVG]⟩,
   ⟨0x40030064, 1, 4, fun _ => [R.CLK_HO_KT_VALID, R.CLK_HO_KT_KT]⟩,
   ⟨0x40030068, 1, 4, fun _ => [R.CLK_HO_AGE_VALID, R.CLK_HO_AGE_AGE]⟩,
   ⟨0x4003006c, 1, 4, fun _ => [R.CLK_HO_TREF]⟩,
   ⟨0x40030070, 1, 4, fun _ => [R.CLK_HO_SENSOR]⟩,
   ⟨0x40030074, 1, 4, fun _ => [R.CLK_HO_TIME]⟩,
   ⟨0x40030080, 1, 4, fun _ => [R.CLK_OUT_CFG_MCLK_DIV, R.CLK_OUT_CFG_MCLK_EN, R.CLK_OUT_CFG_PPS_WIDTH, R.CLK_OUT_CFG_PPS_EN, R.CLK_OUT_CFG_WCLK_SEL, R.CLK_OUT_CFG_WCLK_EN]⟩]
/-- Registers of the CLK block (part 1). -/
def regsCLKP1 : List RegDef :=
  [⟨0x40030084, 1, 4, fun _ => [R.CLK_OUT_ALIGN_AT_LO]⟩,
   ⟨0x40030088, 1, 4, fun _ => [R.CLK_OUT_ALIGN_AT_HI]⟩,
   ⟨0x4003008c, 1, 4, fun _ => [R.CLK_OUT_STATUS_LATE, R.CLK_OUT_STATUS_ARMED]⟩,
   ⟨0x400300a0, 1, 4, fun _ => [R.CLK_PLL_STATUS_LOSS, R.CLK_PLL_STATUS_LOCK]⟩,
   ⟨0x400300b0, 1, 4, fun _ => [R.CLK_IRQ_EN_OUT_ALIGNED, R.CLK_IRQ_EN_PLL, R.CLK_IRQ_EN_XO_FAIL, R.CLK_IRQ_EN_ALIGNED, R.CLK_IRQ_EN_DISAGREE, R.CLK_IRQ_EN_SWITCH, R.CLK_IRQ_EN_REF, R.CLK_IRQ_EN_STATE]⟩,
   ⟨0x400300b4, 1, 4, fun _ => [R.CLK_IRQ_STATUS]⟩,
   ⟨0x40030100, 8, 32, fun n => [R.CLK_REF_CFG_EN n, R.CLK_REF_CFG_PORT n, R.CLK_REF_CFG_EDGE n, R.CLK_REF_CFG_RANK n]⟩,
   ⟨0x40030104, 8, 32, fun n => [R.CLK_REF_FREQ n]⟩,
   ⟨0x40030108, 8, 32, fun n => [R.CLK_REF_STATUS_REASON n, R.CLK_REF_STATUS_WTR n, R.CLK_REF_STATUS_STATE n]⟩,
   ⟨0x4003010c, 8, 32, fun n => [R.CLK_REF_OFFSET n]⟩,
   ⟨0x40030110, 8, 32, fun n => [R.CLK_REF_WTR_LEFT n]⟩,
   ⟨0x40030114, 8, 32, fun n => [R.CLK_REF_EVT_LOSS_CNT n, R.CLK_REF_EVT_GLITCH_CNT n]⟩]
/-- Registers of the CLK block. -/
def regsCLK : List RegDef := regsCLKP0 ++ regsCLKP1
/-- Registers of the TICK block (part 0). -/
def regsTICKP0 : List RegDef :=
  [⟨0x40040000, 1, 4, fun _ => [R.TICK_CTRL_TBASE, R.TICK_CTRL_RUN]⟩,
   ⟨0x40040004, 1, 4, fun _ => [R.TICK_STATUS_RATE, R.TICK_STATUS_SLEWING, R.TICK_STATUS_GRID_LOCKED, R.TICK_STATUS_LOCAL, R.TICK_STATUS_PAIR_RESERVE, R.TICK_STATUS_RUNNING]⟩,
   ⟨0x40040008, 1, 4, fun _ => [R.TICK_NUM_LO]⟩,
   ⟨0x4004000c, 1, 4, fun _ => [R.TICK_NUM_HI]⟩,
   ⟨0x40040010, 1, 4, fun _ => [R.TICK_SEED_LO]⟩,
   ⟨0x40040014, 1, 4, fun _ => [R.TICK_SEED_HI]⟩,
   ⟨0x40040018, 1, 4, fun _ => [R.TICK_CYCLE]⟩,
   ⟨0x4004001c, 1, 4, fun _ => [R.TICK_WIN_START]⟩,
   ⟨0x40040020, 1, 4, fun _ => [R.TICK_WIN_END]⟩,
   ⟨0x40040024, 1, 4, fun _ => [R.TICK_BUDGET]⟩,
   ⟨0x40040028, 1, 4, fun _ => [R.TICK_OVERRUN_CNT]⟩,
   ⟨0x4004002c, 1, 4, fun _ => [R.TICK_OVERRUN_LO]⟩,
   ⟨0x40040030, 1, 4, fun _ => [R.TICK_OVERRUN_HI]⟩,
   ⟨0x40040034, 1, 4, fun _ => [R.TICK_LATE_MARV, R.TICK_LATE_BIND]⟩,
   ⟨0x40040038, 1, 4, fun _ => [R.TICK_IRQ_EN_LATE, R.TICK_IRQ_EN_CLAIM_WD, R.TICK_IRQ_EN_REALIGN, R.TICK_IRQ_EN_OVERRUN, R.TICK_IRQ_EN_AT, R.TICK_IRQ_EN_DIV]⟩,
   ⟨0x4004003c, 1, 4, fun _ => [R.TICK_IRQ_STATUS]⟩,
   ⟨0x40040040, 1, 4, fun _ => [R.TICK_IRQ_DIV]⟩,
   ⟨0x40040044, 1, 4, fun _ => [R.TICK_IRQ_AT_LO]⟩,
   ⟨0x40040048, 1, 4, fun _ => [R.TICK_IRQ_AT_HI]⟩,
   ⟨0x4004004c, 1, 4, fun _ => [R.TICK_PHASE_ERR]⟩,
   ⟨0x40040050, 1, 4, fun _ => [R.TICK_REALIGN_CNT]⟩,
   ⟨0x40040054, 1, 4, fun _ => [R.TICK_CLAIM_WD_LIMIT, R.TICK_CLAIM_WD_ARMED, R.TICK_CLAIM_WD_FIRED]⟩]
/-- Registers of the TICK block. -/
def regsTICK : List RegDef := regsTICKP0
/-- Registers of the IATC block (part 0). -/
def regsIATCP0 : List RegDef :=
  [⟨0x40050000, 1, 4, fun _ => [R.IATC_ACTIVE_LO]⟩,
   ⟨0x40050004, 1, 4, fun _ => [R.IATC_ACTIVE_HI]⟩,
   ⟨0x40050008, 1, 4, fun _ => [R.IATC_LIMIT_LO]⟩,
   ⟨0x4005000c, 1, 4, fun _ => [R.IATC_LIMIT_HI]⟩,
   ⟨0x40050010, 1, 4, fun _ => [R.IATC_OVERDECL_LO]⟩,
   ⟨0x40050014, 1, 4, fun _ => [R.IATC_OVERDECL_HI]⟩,
   ⟨0x40050018, 1, 4, fun _ => [R.IATC_IRQ_EN_OVERDECL, R.IATC_IRQ_EN_LIMIT]⟩,
   ⟨0x4005001c, 1, 4, fun _ => [R.IATC_IRQ_STATUS]⟩,
   ⟨0x40051000, 64, 64, fun n => [R.IATC_CORE_STAT_L1 n, R.IATC_CORE_STAT_L0 n, R.IATC_CORE_STAT_STATE n]⟩,
   ⟨0x40051004, 64, 64, fun n => [R.IATC_ENTRY n]⟩,
   ⟨0x40051008, 64, 64, fun n => [R.IATC_DECL n]⟩,
   ⟨0x4005100c, 64, 64, fun n => [R.IATC_CYC_LAST n]⟩,
   ⟨0x40051010, 64, 64, fun n => [R.IATC_CYC_PEAK n]⟩,
   ⟨0x40051014, 64, 64, fun n => [R.IATC_STALL_LAST n]⟩,
   ⟨0x40051018, 64, 64, fun n => [R.IATC_CARRY0_LEN n, R.IATC_CARRY0_SPACE n, R.IATC_CARRY0_BASE n]⟩,
   ⟨0x4005101c, 64, 64, fun n => [R.IATC_CARRY1_LEN n, R.IATC_CARRY1_SPACE n, R.IATC_CARRY1_BASE n]⟩]
/-- Registers of the IATC block. -/
def regsIATC : List RegDef := regsIATCP0
/-- Registers of the MARV block (part 0). -/
def regsMARVP0 : List RegDef :=
  [⟨0x40060000, 1, 4, fun _ => [R.MARV_STATUS_GSW_ARMED, R.MARV_STATUS_COPYING, R.MARV_STATUS_SYNCING, R.MARV_STATUS_BUSY, R.MARV_STATUS_ACTIVE]⟩,
   ⟨0x40060004, 1, 4, fun _ => [R.MARV_ACT_BANK]⟩,
   ⟨0x40060008, 1, 4, fun _ => [R.MARV_DECL]⟩,
   ⟨0x4006000c, 1, 4, fun _ => [R.MARV_CYC_LAST]⟩,
   ⟨0x40060010, 1, 4, fun _ => [R.MARV_CYC_PEAK]⟩,
   ⟨0x40060014, 1, 4, fun _ => [R.MARV_HIST_WPTR]⟩,
   ⟨0x40060018, 1, 4, fun _ => [R.MARV_LIMIT_INTERP, R.MARV_LIMIT_EMIT]⟩,
   ⟨0x4006001c, 1, 4, fun _ => [R.MARV_ECC_CNT]⟩,
   ⟨0x40060020, 1, 4, fun _ => [R.MARV_IRQ_EN_OVERDECL, R.MARV_IRQ_EN_ECC, R.MARV_IRQ_EN_LIMIT, R.MARV_IRQ_EN_REFUSED, R.MARV_IRQ_EN_SWITCHED, R.MARV_IRQ_EN_COPIED]⟩,
   ⟨0x40060024, 1, 4, fun _ => [R.MARV_IRQ_STATUS]⟩,
   ⟨0x40060030, 1, 4, fun _ => [R.MARV_UPD_SRC_LO]⟩,
   ⟨0x40060034, 1, 4, fun _ => [R.MARV_UPD_SRC_HI]⟩,
   ⟨0x40060038, 1, 4, fun _ => [R.MARV_UPD_LEN]⟩,
   ⟨0x4006003c, 1, 4, fun _ => [R.MARV_UPD_CMD]⟩,
   ⟨0x40060040, 1, 4, fun _ => [R.MARV_UPD_STATUS_TOUCHED, R.MARV_UPD_STATUS_CODE]⟩,
   ⟨0x40060044, 1, 4, fun _ => [R.MARV_UPD_DONE]⟩,
   ⟨0x40060050, 1, 4, fun _ => [R.MARV_GSW_MASK]⟩,
   ⟨0x40060054, 1, 4, fun _ => [R.MARV_GSW_AT_LO]⟩,
   ⟨0x40060058, 1, 4, fun _ => [R.MARV_GSW_AT_HI]⟩,
   ⟨0x4006005c, 1, 4, fun _ => [R.MARV_GSW_STATUS]⟩,
   ⟨0x40060100, 16, 4, fun g => [R.MARV_SLEW g]⟩]
/-- Registers of the MARV block. -/
def regsMARV : List RegDef := regsMARVP0
/-- Registers of the IMG block (part 0). -/
def regsIMGP0 : List RegDef :=
  [⟨0x40070000, 1, 4, fun _ => [R.IMG_CTRL_AUTO_OP, R.IMG_CTRL_OP_MAX]⟩,
   ⟨0x40070004, 1, 4, fun _ => [R.IMG_CMD_SLOT, R.IMG_CMD_CMD]⟩,
   ⟨0x40070008, 1, 4, fun _ => [R.IMG_STATUS_ARMED_BY_FAB, R.IMG_STATUS_CARRY_SKIPPED, R.IMG_STATUS_SWITCH_ARMED, R.IMG_STATUS_BUSY, R.IMG_STATUS_B_STATE, R.IMG_STATUS_A_STATE, R.IMG_STATUS_CODE]⟩,
   ⟨0x4007000c, 1, 4, fun _ => [R.IMG_ERR_INFO_SECTION, R.IMG_ERR_INFO_OFFSET]⟩,
   ⟨0x40070010, 1, 4, fun _ => [R.IMG_SRC_LO]⟩,
   ⟨0x40070014, 1, 4, fun _ => [R.IMG_SRC_HI]⟩,
   ⟨0x40070018, 1, 4, fun _ => [R.IMG_SRC_LEN]⟩,
   ⟨0x40070020, 1, 4, fun _ => [R.IMG_SWITCH_AT_LO]⟩,
   ⟨0x40070024, 1, 4, fun _ => [R.IMG_SWITCH_AT_HI]⟩,
   ⟨0x40070028, 1, 4, fun _ => [R.IMG_SWITCHED_LO]⟩,
   ⟨0x4007002c, 1, 4, fun _ => [R.IMG_SWITCHED_HI]⟩,
   ⟨0x40070030, 1, 4, fun _ => [R.IMG_EPOCH_LO]⟩,
   ⟨0x40070034, 1, 4, fun _ => [R.IMG_EPOCH_HI]⟩,
   ⟨0x40070038, 1, 4, fun _ => [R.IMG_HASH_LO]⟩,
   ⟨0x4007003c, 1, 4, fun _ => [R.IMG_HASH_HI]⟩,
   ⟨0x40070048, 1, 4, fun _ => [R.IMG_PATCH_AT_LO]⟩,
   ⟨0x4007004c, 1, 4, fun _ => [R.IMG_PATCH_AT_HI]⟩,
   ⟨0x40070050, 1, 4, fun _ => [R.IMG_PATCH_STATUS]⟩,
   ⟨0x40070054, 1, 4, fun _ => [R.IMG_PATCH_PROGRESS_NEXT, R.IMG_PATCH_PROGRESS_LEFT]⟩,
   ⟨0x40070058, 1, 4, fun _ => [R.IMG_OP_NEXT, R.IMG_OP_CUR]⟩,
   ⟨0x40070060, 1, 4, fun _ => [R.IMG_LAT_COUNT]⟩,
   ⟨0x40070064, 1, 4, fun _ => [R.IMG_LAT_INDEX]⟩,
   ⟨0x40070068, 1, 4, fun _ => [R.IMG_LAT_SRC]⟩,
   ⟨0x4007006c, 1, 4, fun _ => [R.IMG_LAT_SINK]⟩]
/-- Registers of the IMG block (part 1). -/
def regsIMGP1 : List RegDef :=
  [⟨0x40070070, 1, 4, fun _ => [R.IMG_LAT_SAMPLES]⟩,
   ⟨0x40070074, 1, 4, fun _ => [R.IMG_SETTLE]⟩,
   ⟨0x40070078, 1, 4, fun _ => [R.IMG_IRQ_EN_PATCHED, R.IMG_IRQ_EN_STEP, R.IMG_IRQ_EN_SWITCHED, R.IMG_IRQ_EN_REFUSED, R.IMG_IRQ_EN_LOADED]⟩,
   ⟨0x4007007c, 1, 4, fun _ => [R.IMG_IRQ_STATUS]⟩,
   ⟨0x40070080, 1, 4, fun _ => [R.IMG_LAT_FLAGS]⟩]
/-- Registers of the IMG block. -/
def regsIMG : List RegDef := regsIMGP0 ++ regsIMGP1
/-- Registers of the BIND block (part 0). -/
def regsBINDP0 : List RegDef :=
  [⟨0x40078000, 1, 4, fun _ => [R.BIND_STATUS_BUSY, R.BIND_STATUS_BANK]⟩,
   ⟨0x40078004, 1, 4, fun _ => [R.BIND_DECL]⟩,
   ⟨0x40078008, 1, 4, fun _ => [R.BIND_CYC_LAST]⟩,
   ⟨0x4007800c, 1, 4, fun _ => [R.BIND_CYC_PEAK]⟩,
   ⟨0x40078010, 1, 4, fun _ => [R.BIND_SHEAVES]⟩,
   ⟨0x40078100, 1, 4, fun _ => [R.BIND_RT_CMD_TABLE, R.BIND_RT_CMD_CMD]⟩,
   ⟨0x40078104, 1, 4, fun _ => [R.BIND_RT_INDEX]⟩,
   ⟨0x40078108, 4, 4, fun k => [R.BIND_RT_DATA k]⟩,
   ⟨0x40078118, 1, 4, fun _ => [R.BIND_RT_AT_LO]⟩,
   ⟨0x4007811c, 1, 4, fun _ => [R.BIND_RT_AT_HI]⟩,
   ⟨0x40078120, 1, 4, fun _ => [R.BIND_RT_STATUS_SYNCING, R.BIND_RT_STATUS_ARMED, R.BIND_RT_STATUS_CODE]⟩,
   ⟨0x40078124, 1, 4, fun _ => [R.BIND_RT_LEN_SCATTER, R.BIND_RT_LEN_GATHER]⟩,
   ⟨0x40078128, 1, 4, fun _ => [R.BIND_RT_ERR_TABLE, R.BIND_RT_ERR_INDEX]⟩,
   ⟨0x40078130, 1, 4, fun _ => [R.BIND_IRQ_EN_SILENCE, R.BIND_IRQ_EN_TAP_CLAMP, R.BIND_IRQ_EN_FILL_DONE, R.BIND_IRQ_EN_REFUSED, R.BIND_IRQ_EN_COMMITTED]⟩,
   ⟨0x40078134, 1, 4, fun _ => [R.BIND_IRQ_STATUS]⟩,
   ⟨0x40078200, 1, 4, fun _ => [R.BIND_RING_SEL]⟩,
   ⟨0x40078204, 1, 4, fun _ => [R.BIND_DRING_ZERO_ON_GROW, R.BIND_DRING_LEN]⟩,
   ⟨0x40078208, 1, 4, fun _ => [R.BIND_RING_CAP]⟩,
   ⟨0x4007820c, 1, 4, fun _ => [R.BIND_RING_WPTR]⟩,
   ⟨0x40078210, 1, 4, fun _ => [R.BIND_RING_WMARK]⟩,
   ⟨0x40078214, 1, 4, fun _ => [R.BIND_RING_STATUS_LEN_REFUSED, R.BIND_RING_STATUS_TAP_CLAMP, R.BIND_RING_STATUS_FILLING, R.BIND_RING_STATUS_MEM]⟩,
   ⟨0x40078400, 32, 16, fun n => [R.BIND_SIL_CTRL_LOOKAHEAD n, R.BIND_SIL_CTRL_EN n]⟩,
   ⟨0x40078404, 32, 16, fun n => [R.BIND_SIL_THRESH n]⟩,
   ⟨0x40078408, 32, 16, fun n => [R.BIND_SIL_TIME_HALF_TICKS n, R.BIND_SIL_TIME_HOLD n]⟩]
/-- Registers of the BIND block (part 1). -/
def regsBINDP1 : List RegDef :=
  [⟨0x4007840c, 32, 16, fun n => [R.BIND_SIL_STATE n]⟩]
/-- Registers of the BIND block. -/
def regsBIND : List RegDef := regsBINDP0 ++ regsBINDP1
/-- Registers of the SAP block (part 0). -/
def regsSAPP0 : List RegDef :=
  [⟨0x40080000, 1, 4, fun _ => [R.SAP_PIN_CTRL_GRP, R.SAP_PIN_CTRL_POL, R.SAP_PIN_CTRL_ARM]⟩,
   ⟨0x40080004, 1, 4, fun _ => [R.SAP_START_GRP]⟩,
   ⟨0x40080008, 1, 4, fun _ => [R.SAP_START_AT_LO]⟩,
   ⟨0x4008000c, 1, 4, fun _ => [R.SAP_START_AT_HI]⟩,
   ⟨0x40080010, 1, 4, fun _ => [R.SAP_GRP_STATE]⟩,
   ⟨0x40080014, 1, 4, fun _ => [R.SAP_LAST_START_LO]⟩,
   ⟨0x40080018, 1, 4, fun _ => [R.SAP_LAST_START_HI]⟩,
   ⟨0x4008001c, 1, 4, fun _ => [R.SAP_IRQ_STATUS_START_LATE, R.SAP_IRQ_STATUS_GRP, R.SAP_IRQ_STATUS_PORT]⟩,
   ⟨0x40080020, 1, 4, fun _ => [R.SAP_GRP_IRQ_EN_START_LATE, R.SAP_GRP_IRQ_EN_GRP]⟩,
   ⟨0x40081000, 16, 64, fun n => [R.SAP_PORT_CFG_GRP_EN n, R.SAP_PORT_CFG_GROUP n, R.SAP_PORT_CFG_SLOTS n, R.SAP_PORT_CFG_TX_TRI n, R.SAP_PORT_CFG_FS_POL n, R.SAP_PORT_CFG_BCLK_POL n, R.SAP_PORT_CFG_DELAY n, R.SAP_PORT_CFG_ROLE n, R.SAP_PORT_CFG_MODE n]⟩,
   ⟨0x40081004, 16, 64, fun n => [R.SAP_PORT_CMD n]⟩,
   ⟨0x40081008, 16, 64, fun n => [R.SAP_PORT_STATUS_PHASE_WARN n, R.SAP_PORT_STATUS_REASON n, R.SAP_PORT_STATUS_STATE n]⟩,
   ⟨0x4008100c, 16, 64, fun n => [R.SAP_PORT_RXMASK n]⟩,
   ⟨0x40081010, 16, 64, fun n => [R.SAP_PORT_TXMASK n]⟩,
   ⟨0x40081014, 16, 64, fun n => [R.SAP_PORT_OWED_TX n, R.SAP_PORT_OWED_RX n]⟩,
   ⟨0x40081018, 16, 64, fun n => [R.SAP_PORT_TX_HELD n]⟩,
   ⟨0x4008101c, 16, 64, fun n => [R.SAP_PORT_TX_DISC n]⟩,
   ⟨0x40081020, 16, 64, fun n => [R.SAP_PORT_RX_HELD n]⟩,
   ⟨0x40081024, 16, 64, fun n => [R.SAP_PORT_RX_DISC n]⟩,
   ⟨0x40081028, 16, 64, fun n => [R.SAP_PORT_EVT_CNT_RESYNC_CNT n, R.SAP_PORT_EVT_CNT_FRAME_ERR_CNT n]⟩,
   ⟨0x4008102c, 16, 64, fun n => [R.SAP_PORT_PHASE_TX n, R.SAP_PORT_PHASE_RX n]⟩,
   ⟨0x40081030, 16, 64, fun n => [R.SAP_PORT_BCLK_MEAS n]⟩,
   ⟨0x40081034, 16, 64, fun n => [R.SAP_PORT_IRQ_EN_PHASE_WARN n, R.SAP_PORT_IRQ_EN_RESYNC n, R.SAP_PORT_IRQ_EN_OVER n, R.SAP_PORT_IRQ_EN_UNDER n, R.SAP_PORT_IRQ_EN_FAULT n, R.SAP_PORT_IRQ_EN_STARTED n]⟩,
   ⟨0x40081038, 16, 64, fun n => [R.SAP_PORT_IRQ_STATUS n]⟩]
/-- Registers of the SAP block. -/
def regsSAP : List RegDef := regsSAPP0
/-- Registers of the HOP block (part 0). -/
def regsHOPP0 : List RegDef :=
  [⟨0x40090000, 1, 4, fun _ => [R.HOP_LEVEL_LO]⟩,
   ⟨0x40090004, 1, 4, fun _ => [R.HOP_LEVEL_HI]⟩,
   ⟨0x40090008, 1, 4, fun _ => [R.HOP_ERR_LO]⟩,
   ⟨0x4009000c, 1, 4, fun _ => [R.HOP_ERR_HI]⟩,
   ⟨0x40090010, 1, 4, fun _ => [R.HOP_LEVEL_EN_LO]⟩,
   ⟨0x40090014, 1, 4, fun _ => [R.HOP_LEVEL_EN_HI]⟩,
   ⟨0x40090018, 1, 4, fun _ => [R.HOP_ERR_EN]⟩,
   ⟨0x40091000, 64, 32, fun n => [R.HOP_Q_CFG_EN n, R.HOP_Q_CFG_USE n, R.HOP_Q_CFG_CLK n, R.HOP_Q_CFG_MEM n, R.HOP_Q_CFG_DEPTH n]⟩,
   ⟨0x40091004, 64, 32, fun n => [R.HOP_Q_BASE n]⟩,
   ⟨0x40091008, 64, 32, fun n => [R.HOP_Q_LEVEL n]⟩,
   ⟨0x4009100c, 64, 32, fun n => [R.HOP_Q_STATUS_CFG_ERR n, R.HOP_Q_STATUS_OVERFLOW n, R.HOP_Q_STATUS_UNDERRUN n, R.HOP_Q_STATUS_FULL n, R.HOP_Q_STATUS_EMPTY n]⟩,
   ⟨0x40091010, 64, 32, fun n => [R.HOP_Q_COUNT n]⟩,
   ⟨0x40091014, 64, 32, fun n => [R.HOP_Q_PUSH n]⟩,
   ⟨0x40091018, 64, 32, fun n => [R.HOP_Q_POP n]⟩]
/-- Registers of the HOP block. -/
def regsHOP : List RegDef := regsHOPP0
/-- Registers of NETn but for the wake registers (R221) (part 0). -/
def regsNETbaseP0 (n : Nat) : List RegDef :=
  [⟨0x400a0000 + 0x10000 * n, 1, 4, fun _ => [R.NET_CTRL_AN_EN n, R.NET_CTRL_MODE n, R.NET_CTRL_BLOCK n, R.NET_CTRL_BCAST_EN n, R.NET_CTRL_PROMISC n, R.NET_CTRL_LT_GUARD n, R.NET_CTRL_BRIDGE n, R.NET_CTRL_PAUSE_RX n, R.NET_CTRL_TX_EN n, R.NET_CTRL_RX_EN n]⟩,
   ⟨0x400a0004 + 0x10000 * n, 1, 4, fun _ => [R.NET_STATUS_CFG_ERR n, R.NET_STATUS_TX_GATED n, R.NET_STATUS_PAUSE_RES n, R.NET_STATUS_PAUSED n, R.NET_STATUS_AN_DONE n, R.NET_STATUS_TRAIN_FAIL n, R.NET_STATUS_TRAINING n, R.NET_STATUS_REMOTE_FAULT n, R.NET_STATUS_LOCAL_FAULT n, R.NET_STATUS_LINK n]⟩,
   ⟨0x400a0008 + 0x10000 * n, 1, 4, fun _ => [R.NET_MAX_LEN n]⟩,
   ⟨0x400a000c + 0x10000 * n, 1, 4, fun _ => [R.NET_RXQ_CFG_FREE_HOP n, R.NET_RXQ_CFG_RX_HOP n]⟩,
   ⟨0x400a0010 + 0x10000 * n, 1, 4, fun _ => [R.NET_RX_BUF_LEN n]⟩,
   ⟨0x400a0018 + 0x10000 * n, 1, 4, fun _ => [R.NET_TX_CPL_EN n, R.NET_TX_CPL_HOPPER n]⟩,
   ⟨0x400a0020 + 0x10000 * n, 8, 4, fun q => [R.NET_TXQ_EN n q, R.NET_TXQ_HOPPER n q]⟩,
   ⟨0x400a0040 + 0x10000 * n, 2, 16, fun s => [R.NET_CBS_CFG_EN n s, R.NET_CBS_CFG_QUEUE n s]⟩,
   ⟨0x400a0044 + 0x10000 * n, 2, 16, fun s => [R.NET_CBS_IDLE n s]⟩,
   ⟨0x400a0048 + 0x10000 * n, 2, 16, fun s => [R.NET_CBS_HI n s]⟩,
   ⟨0x400a004c + 0x10000 * n, 2, 16, fun s => [R.NET_CBS_LO n s]⟩,
   ⟨0x400a0060 + 0x10000 * n, 1, 4, fun _ => [R.NET_PCP_MAP n]⟩,
   ⟨0x400a0064 + 0x10000 * n, 1, 4, fun _ => [R.NET_LT_TOL n]⟩,
   ⟨0x400a0070 + 0x10000 * n, 1, 4, fun _ => [R.NET_PAUSE_LEFT n]⟩,
   ⟨0x400a0074 + 0x10000 * n, 1, 4, fun _ => [R.NET_TXEQ_POST n, R.NET_TXEQ_MAIN n, R.NET_TXEQ_PRE n]⟩,
   ⟨0x400a0080 + 0x10000 * n, 1, 4, fun _ => [R.NET_IRQ_EN n]⟩,
   ⟨0x400a0084 + 0x10000 * n, 1, 4, fun _ => [R.NET_IRQ_STATUS_WAKE n, R.NET_IRQ_STATUS_PAUSE n, R.NET_IRQ_STATUS_BR_DROP n, R.NET_IRQ_STATUS_TX_LEN n, R.NET_IRQ_STATUS_LATE_LAUNCH n, R.NET_IRQ_STATUS_RX_NOBUF n, R.NET_IRQ_STATUS_TRAIN_FAIL n, R.NET_IRQ_STATUS_LINK n]⟩,
   ⟨0x400a0100 + 0x10000 * n, 16, 8, fun e => [R.NET_PM_HI_VALID n e, R.NET_PM_HI_ADDR n e]⟩,
   ⟨0x400a0104 + 0x10000 * n, 16, 8, fun e => [R.NET_PM_LO n e]⟩,
   ⟨0x400a0180 + 0x10000 * n, 16, 4, fun w => [R.NET_HASH n w]⟩,
   ⟨0x400a0200 + 0x10000 * n, 1, 4, fun _ => [R.NET_SID_INDEX n]⟩,
   ⟨0x400a0204 + 0x10000 * n, 4, 4, fun k => [R.NET_SID_DATA n k]⟩,
   ⟨0x400a0400 + 0x10000 * n, 1, 4, fun _ => [R.NET_RX_OK n]⟩,
   ⟨0x400a0404 + 0x10000 * n, 1, 4, fun _ => [R.NET_RX_OCT_LO n]⟩]
/-- Registers of NETn but for the wake registers (R221) (part 1). -/
def regsNETbaseP1 (n : Nat) : List RegDef :=
  [⟨0x400a0408 + 0x10000 * n, 1, 4, fun _ => [R.NET_RX_OCT_HI n]⟩,
   ⟨0x400a040c + 0x10000 * n, 1, 4, fun _ => [R.NET_RX_FCS_ERR n]⟩,
   ⟨0x400a0410 + 0x10000 * n, 1, 4, fun _ => [R.NET_RX_RUNT n]⟩,
   ⟨0x400a0414 + 0x10000 * n, 1, 4, fun _ => [R.NET_RX_TRUNC n]⟩,
   ⟨0x400a0418 + 0x10000 * n, 1, 4, fun _ => [R.NET_RX_FILTERED n]⟩,
   ⟨0x400a041c + 0x10000 * n, 1, 4, fun _ => [R.NET_RX_NOBUF n]⟩,
   ⟨0x400a0420 + 0x10000 * n, 1, 4, fun _ => [R.NET_RX_PCS_ERR n]⟩,
   ⟨0x400a0424 + 0x10000 * n, 1, 4, fun _ => [R.NET_RX_PAUSE n]⟩,
   ⟨0x400a0428 + 0x10000 * n, 1, 4, fun _ => [R.NET_RX_CTL_UNSUP n]⟩,
   ⟨0x400a042c + 0x10000 * n, 1, 4, fun _ => [R.NET_TX_OK n]⟩,
   ⟨0x400a0430 + 0x10000 * n, 1, 4, fun _ => [R.NET_TX_OCT_LO n]⟩,
   ⟨0x400a0434 + 0x10000 * n, 1, 4, fun _ => [R.NET_TX_OCT_HI n]⟩,
   ⟨0x400a0438 + 0x10000 * n, 1, 4, fun _ => [R.NET_TX_LATE_LAUNCH n]⟩,
   ⟨0x400a043c + 0x10000 * n, 1, 4, fun _ => [R.NET_TX_LEN_ERR n]⟩,
   ⟨0x400a0440 + 0x10000 * n, 1, 4, fun _ => [R.NET_TX_DISC n]⟩,
   ⟨0x400a0444 + 0x10000 * n, 1, 4, fun _ => [R.NET_BR_FWD n]⟩,
   ⟨0x400a0448 + 0x10000 * n, 1, 4, fun _ => [R.NET_BR_DROP n]⟩,
   ⟨0x400a0800 + 0x10000 * n, 34, 4, fun i => [R.NET_GCNT n i]⟩,
   ⟨0x400a0900 + 0x10000 * n, 1, 4, fun _ => [R.NET_GCNT_FLAG_LO n]⟩,
   ⟨0x400a0904 + 0x10000 * n, 1, 4, fun _ => [R.NET_GCNT_FLAG_HI n]⟩]
/-- Registers of NETn but for the wake registers (R221). -/
def regsNETbase (n : Nat) : List RegDef := regsNETbaseP0 n ++ regsNETbaseP1 n
/-- Wake registers of NET0 and MGMT (R216, R221) (part 0). -/
def regsNETwakeP0 (n : Nat) : List RegDef :=
  [⟨0x400a0300 + 0x10000 * n, 1, 4, fun _ => [R.NET_WAKE_CTRL n]⟩,
   ⟨0x400a0304 + 0x10000 * n, 1, 4, fun _ => [R.NET_WAKE_STATUS_BAD n, R.NET_WAKE_STATUS_MATCH n]⟩,
   ⟨0x400a0308 + 0x10000 * n, 1, 4, fun _ => [R.NET_WAKE_SEL_PATTERN n, R.NET_WAKE_SEL_WORD n]⟩,
   ⟨0x400a030c + 0x10000 * n, 1, 4, fun _ => [R.NET_WAKE_DATA n]⟩]
/-- Wake registers of NET0 and MGMT (R216, R221). -/
def regsNETwake (n : Nat) : List RegDef := regsNETwakeP0 n
/-- Registers of MGMT, n = 4 (R219, Table 8-6) (part 0). -/
def regsMGMTP0 (n : Nat) : List RegDef :=
  [⟨0x400a0000 + 0x10000 * n, 1, 4, fun _ => [R.NET_CTRL_BCAST_EN n, R.NET_CTRL_PROMISC n, R.NET_CTRL_PAUSE_RX n, R.NET_CTRL_TX_EN n, R.NET_CTRL_RX_EN n]⟩,
   ⟨0x400a0004 + 0x10000 * n, 1, 4, fun _ => [R.NET_STATUS_CFG_ERR n, R.NET_STATUS_TX_GATED n, R.NET_STATUS_PAUSE_RES n, R.NET_STATUS_PAUSED n, R.NET_STATUS_AN_DONE n, R.NET_STATUS_TRAIN_FAIL n, R.NET_STATUS_TRAINING n, R.NET_STATUS_REMOTE_FAULT n, R.NET_STATUS_LOCAL_FAULT n, R.NET_STATUS_LINK n]⟩,
   ⟨0x400a0008 + 0x10000 * n, 1, 4, fun _ => [R.NET_MAX_LEN n]⟩,
   ⟨0x400a000c + 0x10000 * n, 1, 4, fun _ => [R.NET_RXQ_CFG_FREE_HOP n, R.NET_RXQ_CFG_RX_HOP n]⟩,
   ⟨0x400a0010 + 0x10000 * n, 1, 4, fun _ => [R.NET_RX_BUF_LEN n]⟩,
   ⟨0x400a0018 + 0x10000 * n, 1, 4, fun _ => [R.NET_TX_CPL_EN n, R.NET_TX_CPL_HOPPER n]⟩,
   ⟨0x400a0020 + 0x10000 * n, 8, 4, fun q => [R.NET_TXQ_EN n q, R.NET_TXQ_HOPPER n q]⟩,
   ⟨0x400a0070 + 0x10000 * n, 1, 4, fun _ => [R.NET_PAUSE_LEFT n]⟩,
   ⟨0x400a0080 + 0x10000 * n, 1, 4, fun _ => [R.NET_IRQ_EN n]⟩,
   ⟨0x400a0084 + 0x10000 * n, 1, 4, fun _ => [R.NET_IRQ_STATUS_WAKE n, R.NET_IRQ_STATUS_PAUSE n, R.NET_IRQ_STATUS_BR_DROP n, R.NET_IRQ_STATUS_TX_LEN n, R.NET_IRQ_STATUS_LATE_LAUNCH n, R.NET_IRQ_STATUS_RX_NOBUF n, R.NET_IRQ_STATUS_TRAIN_FAIL n, R.NET_IRQ_STATUS_LINK n]⟩,
   ⟨0x400a0100 + 0x10000 * n, 16, 8, fun e => [R.NET_PM_HI_VALID n e, R.NET_PM_HI_ADDR n e]⟩,
   ⟨0x400a0104 + 0x10000 * n, 16, 8, fun e => [R.NET_PM_LO n e]⟩,
   ⟨0x400a0180 + 0x10000 * n, 16, 4, fun w => [R.NET_HASH n w]⟩,
   ⟨0x400a0300 + 0x10000 * n, 1, 4, fun _ => [R.NET_WAKE_CTRL n]⟩,
   ⟨0x400a0304 + 0x10000 * n, 1, 4, fun _ => [R.NET_WAKE_STATUS_BAD n, R.NET_WAKE_STATUS_MATCH n]⟩,
   ⟨0x400a0308 + 0x10000 * n, 1, 4, fun _ => [R.NET_WAKE_SEL_PATTERN n, R.NET_WAKE_SEL_WORD n]⟩,
   ⟨0x400a030c + 0x10000 * n, 1, 4, fun _ => [R.NET_WAKE_DATA n]⟩,
   ⟨0x400a0400 + 0x10000 * n, 1, 4, fun _ => [R.NET_RX_OK n]⟩,
   ⟨0x400a0404 + 0x10000 * n, 1, 4, fun _ => [R.NET_RX_OCT_LO n]⟩,
   ⟨0x400a0408 + 0x10000 * n, 1, 4, fun _ => [R.NET_RX_OCT_HI n]⟩,
   ⟨0x400a040c + 0x10000 * n, 1, 4, fun _ => [R.NET_RX_FCS_ERR n]⟩,
   ⟨0x400a0410 + 0x10000 * n, 1, 4, fun _ => [R.NET_RX_RUNT n]⟩,
   ⟨0x400a0414 + 0x10000 * n, 1, 4, fun _ => [R.NET_RX_TRUNC n]⟩,
   ⟨0x400a0418 + 0x10000 * n, 1, 4, fun _ => [R.NET_RX_FILTERED n]⟩]
/-- Registers of MGMT, n = 4 (R219, Table 8-6) (part 1). -/
def regsMGMTP1 (n : Nat) : List RegDef :=
  [⟨0x400a041c + 0x10000 * n, 1, 4, fun _ => [R.NET_RX_NOBUF n]⟩,
   ⟨0x400a0420 + 0x10000 * n, 1, 4, fun _ => [R.NET_RX_PCS_ERR n]⟩,
   ⟨0x400a0424 + 0x10000 * n, 1, 4, fun _ => [R.NET_RX_PAUSE n]⟩,
   ⟨0x400a0428 + 0x10000 * n, 1, 4, fun _ => [R.NET_RX_CTL_UNSUP n]⟩,
   ⟨0x400a042c + 0x10000 * n, 1, 4, fun _ => [R.NET_TX_OK n]⟩,
   ⟨0x400a0430 + 0x10000 * n, 1, 4, fun _ => [R.NET_TX_OCT_LO n]⟩,
   ⟨0x400a0434 + 0x10000 * n, 1, 4, fun _ => [R.NET_TX_OCT_HI n]⟩,
   ⟨0x400a0438 + 0x10000 * n, 1, 4, fun _ => [R.NET_TX_LATE_LAUNCH n]⟩,
   ⟨0x400a043c + 0x10000 * n, 1, 4, fun _ => [R.NET_TX_LEN_ERR n]⟩,
   ⟨0x400a0440 + 0x10000 * n, 1, 4, fun _ => [R.NET_TX_DISC n]⟩,
   ⟨0x400a0800 + 0x10000 * n, 34, 4, fun i => [R.NET_GCNT n i]⟩,
   ⟨0x400a0900 + 0x10000 * n, 1, 4, fun _ => [R.NET_GCNT_FLAG_LO n]⟩,
   ⟨0x400a0904 + 0x10000 * n, 1, 4, fun _ => [R.NET_GCNT_FLAG_HI n]⟩,
   ⟨0x400e0090, 1, 4, fun _ => [R.MGMT_RGMII_RX_DLY, R.MGMT_RGMII_TX_DLY]⟩,
   ⟨0x400e0094, 1, 4, fun _ => [R.MGMT_MDIO_CFG]⟩,
   ⟨0x400e0098, 1, 4, fun _ => [R.MGMT_MDIO_CMD_BUSY, R.MGMT_MDIO_CMD_OP, R.MGMT_MDIO_CMD_PHYAD, R.MGMT_MDIO_CMD_REGAD, R.MGMT_MDIO_CMD_DATA]⟩]
/-- Registers of MGMT, n = 4 (R219, Table 8-6). -/
def regsMGMT (n : Nat) : List RegDef := regsMGMTP0 n ++ regsMGMTP1 n
/-- Registers of the STRM block (part 0). -/
def regsSTRMP0 : List RegDef :=
  [⟨0x400f0000, 1, 4, fun _ => [R.STRM_STATUS_RX_ACTIVE, R.STRM_STATUS_TX_ACTIVE]⟩,
   ⟨0x400f0004, 1, 4, fun _ => [R.STRM_LOST_LO]⟩,
   ⟨0x400f0008, 1, 4, fun _ => [R.STRM_LOST_HI]⟩,
   ⟨0x400f000c, 1, 4, fun _ => [R.STRM_LOST_X0]⟩,
   ⟨0x400f0010, 1, 4, fun _ => [R.STRM_LOST_X1]⟩,
   ⟨0x400f0014, 1, 4, fun _ => [R.STRM_CRF_SEL]⟩,
   ⟨0x400f0018, 1, 4, fun _ => [R.STRM_CRF_OFS]⟩,
   ⟨0x400f0020, 1, 4, fun _ => [R.STRM_IRQ_EN_SHIFT, R.STRM_IRQ_EN_TX_DROP, R.STRM_IRQ_EN_ROGUE, R.STRM_IRQ_EN_HDR_ERR, R.STRM_IRQ_EN_EARLY, R.STRM_IRQ_EN_LATE, R.STRM_IRQ_EN_RECOVERED, R.STRM_IRQ_EN_LOST]⟩,
   ⟨0x400f0024, 1, 4, fun _ => [R.STRM_IRQ_STATUS]⟩,
   ⟨0x400f1000, 128, 64, fun s => [R.STRM_RX_STATE_CHANNELS s, R.STRM_RX_STATE_PRES s, R.STRM_RX_STATE_FORMAT s, R.STRM_RX_STATE_ELIM s, R.STRM_RX_STATE_STATE s]⟩,
   ⟨0x400f1004, 128, 64, fun s => [R.STRM_RX_PHASE s]⟩,
   ⟨0x400f1008, 128, 64, fun s => [R.STRM_RX_FRAMES_A s]⟩,
   ⟨0x400f100c, 128, 64, fun s => [R.STRM_RX_FRAMES_B s]⟩,
   ⟨0x400f1010, 128, 64, fun s => [R.STRM_RX_LATE s]⟩,
   ⟨0x400f1014, 128, 64, fun s => [R.STRM_RX_EARLY s]⟩,
   ⟨0x400f1018, 128, 64, fun s => [R.STRM_RX_HDR_ERR s]⟩,
   ⟨0x400f101c, 128, 64, fun s => [R.STRM_RX_SHIFT s]⟩,
   ⟨0x400f1020, 128, 64, fun s => [R.STRM_RX_PASSED s]⟩,
   ⟨0x400f1024, 128, 64, fun s => [R.STRM_RX_DISCARDED s]⟩,
   ⟨0x400f1028, 128, 64, fun s => [R.STRM_RX_ROGUE s]⟩,
   ⟨0x400f102c, 128, 64, fun s => [R.STRM_RX_LOST s]⟩,
   ⟨0x400f1030, 128, 64, fun s => [R.STRM_RX_OOO s]⟩,
   ⟨0x400f1034, 128, 64, fun s => [R.STRM_RX_RESETS s]⟩,
   ⟨0x400f1038, 128, 64, fun s => [R.STRM_RX_LOST_CNT s]⟩]
/-- Registers of the STRM block (part 1). -/
def regsSTRMP1 : List RegDef :=
  [⟨0x400f4000, 128, 16, fun s => [R.STRM_TX_STATE_CHANNELS s, R.STRM_TX_STATE_FORMAT s, R.STRM_TX_STATE_STATE s]⟩,
   ⟨0x400f4004, 128, 16, fun s => [R.STRM_TX_FRAMES s]⟩,
   ⟨0x400f4008, 128, 16, fun s => [R.STRM_TX_DROP s]⟩,
   ⟨0x400f400c, 128, 16, fun s => [R.STRM_TX_SEQ s]⟩]
/-- Registers of the STRM block. -/
def regsSTRM : List RegDef := regsSTRMP0 ++ regsSTRMP1
/-- Registers of the TIME block (part 0). -/
def regsTIMEP0 : List RegDef :=
  [⟨0x40100000, 1, 4, fun _ => [R.TIME_CTRL_AUTO_SW, R.TIME_CTRL_SEL]⟩,
   ⟨0x40100004, 1, 4, fun _ => [R.TIME_STATUS_HOLDOVER, R.TIME_STATUS_SLEWING, R.TIME_STATUS_SEL_CUR]⟩,
   ⟨0x40100008, 1, 4, fun _ => [R.TIME_SLEW_RATE]⟩,
   ⟨0x4010000c, 1, 4, fun _ => [R.TIME_SLEW_RESID]⟩,
   ⟨0x40100010, 1, 4, fun _ => [R.TIME_DOM_OFS_NS]⟩,
   ⟨0x40100014, 1, 4, fun _ => [R.TIME_DOM_OFS_SEC]⟩,
   ⟨0x40100018, 1, 4, fun _ => [R.TIME_GRID_OFS]⟩,
   ⟨0x40100020, 1, 4, fun _ => [R.TIME_IRQ_EN_HOLDOVER, R.TIME_IRQ_EN_SLEW_DONE, R.TIME_IRQ_EN_GM_LOST1, R.TIME_IRQ_EN_GM_LOST0, R.TIME_IRQ_EN_DOMSW]⟩,
   ⟨0x40100024, 1, 4, fun _ => [R.TIME_IRQ_STATUS]⟩,
   ⟨0x40100040, 4, 4, fun n => [R.TIME_PORT_LAT_TX_PS n, R.TIME_PORT_LAT_RX_PS n]⟩,
   ⟨0x40100100, 2, 128, fun n => [R.TIME_T_CTRL_EN n, R.TIME_T_CTRL_PROFILE n, R.TIME_T_CTRL_DOMAIN n, R.TIME_T_CTRL_ANN_LOG n, R.TIME_T_CTRL_PORTS n]⟩,
   ⟨0x40100104, 2, 128, fun n => [R.TIME_T_STATE_GM_LOST n, R.TIME_T_STATE_STATE n]⟩,
   ⟨0x40100108, 2, 128, fun n => [R.TIME_T_NS n]⟩,
   ⟨0x4010010c, 2, 128, fun n => [R.TIME_T_SEC_LO n]⟩,
   ⟨0x40100110, 2, 128, fun n => [R.TIME_T_SEC_HI n]⟩,
   ⟨0x40100114, 2, 128, fun n => [R.TIME_T_SUBNS n]⟩,
   ⟨0x40100118, 2, 128, fun n => [R.TIME_T_ADJ_RATE n]⟩,
   ⟨0x4010011c, 2, 128, fun n => [R.TIME_T_STEP_NS n]⟩,
   ⟨0x40100120, 2, 128, fun n => [R.TIME_T_STEP_SEC n]⟩,
   ⟨0x40100124, 2, 128, fun n => [R.TIME_T_CMD n]⟩,
   ⟨0x40100128, 2, 128, fun n => [R.TIME_T_GM_ID_LO n]⟩,
   ⟨0x4010012c, 2, 128, fun n => [R.TIME_T_GM_ID_HI n]⟩,
   ⟨0x40100130, 2, 128, fun n => [R.TIME_T_Q_FREE_HOP n, R.TIME_T_Q_RX_HOP n]⟩,
   ⟨0x40100134, 2, 128, fun n => [R.TIME_T_ANN_CNT n]⟩]
/-- Registers of the TIME block (part 1). -/
def regsTIMEP1 : List RegDef :=
  [⟨0x40100138, 2, 128, fun n => [R.TIME_T_BND_NS n]⟩,
   ⟨0x4010013c, 2, 128, fun n => [R.TIME_T_BND_SEC n]⟩]
/-- Registers of the TIME block. -/
def regsTIME : List RegDef := regsTIMEP0 ++ regsTIMEP1
/-- Registers of the PAIR block (part 0). -/
def regsPAIRP0 : List RegDef :=
  [⟨0x40110000, 1, 4, fun _ => [R.PAIR_CTRL_START_WAIT, R.PAIR_CTRL_REVERT, R.PAIR_CTRL_AUTO_RESYNC, R.PAIR_CTRL_PREF, R.PAIR_CTRL_EN]⟩,
   ⟨0x40110004, 1, 4, fun _ => [R.PAIR_STATUS_EPOCH_DIFF, R.PAIR_STATUS_RESYNC_STOPPED, R.PAIR_STATUS_UNSETTLED, R.PAIR_STATUS_PARTNER_STATE, R.PAIR_STATUS_PARTNER_SEEN, R.PAIR_STATUS_PATHB_UP, R.PAIR_STATUS_TWIN_UP, R.PAIR_STATUS_SYNCED, R.PAIR_STATUS_CLAIM_LINE, R.PAIR_STATUS_CLAIM_HELD, R.PAIR_STATUS_SIDE, R.PAIR_STATUS_STATE]⟩,
   ⟨0x40110008, 1, 4, fun _ => [R.PAIR_CMD]⟩,
   ⟨0x4011000c, 1, 4, fun _ => [R.PAIR_CMD_STATUS]⟩,
   ⟨0x40110010, 1, 4, fun _ => [R.PAIR_WTR]⟩,
   ⟨0x40110014, 1, 4, fun _ => [R.PAIR_WTR_LEFT]⟩,
   ⟨0x40110018, 1, 4, fun _ => [R.PAIR_SETTLE_LEFT]⟩,
   ⟨0x4011001c, 1, 4, fun _ => [R.PAIR_REPLAY]⟩,
   ⟨0x40110020, 1, 4, fun _ => [R.PAIR_RESYNC_T_LO]⟩,
   ⟨0x40110024, 1, 4, fun _ => [R.PAIR_RESYNC_T_HI]⟩,
   ⟨0x40110028, 1, 4, fun _ => [R.PAIR_HANDOVER_T_LO]⟩,
   ⟨0x4011002c, 1, 4, fun _ => [R.PAIR_HANDOVER_T_HI]⟩,
   ⟨0x40110030, 1, 4, fun _ => [R.PAIR_DIVERGE_T_LO]⟩,
   ⟨0x40110034, 1, 4, fun _ => [R.PAIR_DIVERGE_T_HI]⟩,
   ⟨0x40110038, 1, 4, fun _ => [R.PAIR_DIGEST_OWN]⟩,
   ⟨0x4011003c, 1, 4, fun _ => [R.PAIR_DIGEST_PARTNER]⟩,
   ⟨0x40110040, 1, 4, fun _ => [R.PAIR_DIGEST_TICK]⟩,
   ⟨0x40110044, 1, 4, fun _ => [R.PAIR_ID]⟩,
   ⟨0x40110048, 1, 4, fun _ => [R.PAIR_HB_CFG_QUEUE, R.PAIR_HB_CFG_PORTS]⟩,
   ⟨0x4011004c, 1, 4, fun _ => [R.PAIR_HB_DST_HI]⟩,
   ⟨0x40110050, 1, 4, fun _ => [R.PAIR_HB_DST_LO]⟩,
   ⟨0x40110054, 1, 4, fun _ => [R.PAIR_HB_SRC_HI]⟩,
   ⟨0x40110058, 1, 4, fun _ => [R.PAIR_HB_SRC_LO]⟩,
   ⟨0x4011005c, 1, 4, fun _ => [R.PAIR_RBUF_LO]⟩]
/-- Registers of the PAIR block (part 1). -/
def regsPAIRP1 : List RegDef :=
  [⟨0x40110060, 1, 4, fun _ => [R.PAIR_RBUF_HI]⟩,
   ⟨0x40110064, 1, 4, fun _ => [R.PAIR_RBUF_SIZE]⟩,
   ⟨0x40110068, 1, 4, fun _ => [R.PAIR_HB_MISS_PATH_B, R.PAIR_HB_MISS_PATH_A]⟩,
   ⟨0x4011006c, 1, 4, fun _ => [R.PAIR_EVT_CNT_TAKEOVER, R.PAIR_EVT_CNT_HANDOVER, R.PAIR_EVT_CNT_RESYNC, R.PAIR_EVT_CNT_DIVERGE]⟩,
   ⟨0x40110070, 1, 4, fun _ => [R.PAIR_IRQ_EN_CONFLICT, R.PAIR_IRQ_EN_TWIN, R.PAIR_IRQ_EN_ISOLATED, R.PAIR_IRQ_EN_RESYNC_FAIL, R.PAIR_IRQ_EN_RESYNC_DONE, R.PAIR_IRQ_EN_HANDOVER, R.PAIR_IRQ_EN_TAKEOVER, R.PAIR_IRQ_EN_DIVERGE, R.PAIR_IRQ_EN_STATE]⟩,
   ⟨0x40110074, 1, 4, fun _ => [R.PAIR_IRQ_STATUS]⟩]
/-- Registers of the PAIR block. -/
def regsPAIR : List RegDef := regsPAIRP0 ++ regsPAIRP1
/-- Registers of the CHAIN block (part 0). -/
def regsCHAINP0 : List RegDef :=
  [⟨0x40120000, 1, 4, fun _ => [R.CHAIN_CTRL_CHN0_MODE, R.CHAIN_CTRL_EN]⟩,
   ⟨0x40120004, 1, 4, fun _ => [R.CHAIN_STATUS]⟩,
   ⟨0x40120008, 1, 4, fun _ => [R.CHAIN_IRQ_EN_MISWIRE, R.CHAIN_IRQ_EN_TRAIN_FAIL, R.CHAIN_IRQ_EN_LATE, R.CHAIN_IRQ_EN_ERR, R.CHAIN_IRQ_EN_BALE_LOST, R.CHAIN_IRQ_EN_LINK]⟩,
   ⟨0x4012000c, 1, 4, fun _ => [R.CHAIN_IRQ_STATUS]⟩,
   ⟨0x40120100, 3, 64, fun p => [R.CHAIN_P_STATUS_PEER_ID p, R.CHAIN_P_STATUS_PEER_PORT p, R.CHAIN_P_STATUS_PEER_SIDE p, R.CHAIN_P_STATUS_TSTATE p, R.CHAIN_P_STATUS_LANE_LOCK p, R.CHAIN_P_STATUS_REASON p]⟩,
   ⟨0x40120104, 3, 64, fun p => [R.CHAIN_P_TXEQ_POST p, R.CHAIN_P_TXEQ_MAIN p, R.CHAIN_P_TXEQ_PRE p]⟩,
   ⟨0x40120108, 3, 64, fun p => [R.CHAIN_P_POL_RX_INV p, R.CHAIN_P_POL_TX_INV p]⟩,
   ⟨0x4012010c, 3, 64, fun p => [R.CHAIN_P_DELAY p]⟩,
   ⟨0x40120110, 3, 64, fun p => [R.CHAIN_P_SLOTS_TX p, R.CHAIN_P_SLOTS_RX p]⟩,
   ⟨0x40120114, 3, 64, fun p => [R.CHAIN_P_BALES p]⟩,
   ⟨0x40120118, 3, 64, fun p => [R.CHAIN_P_BALE_ERR p]⟩,
   ⟨0x4012011c, 3, 64, fun p => [R.CHAIN_P_RUN_ERR p]⟩,
   ⟨0x40120120, 3, 64, fun p => [R.CHAIN_P_LATE p]⟩,
   ⟨0x40120124, 3, 64, fun p => [R.CHAIN_P_ABANDON p]⟩,
   ⟨0x40120128, 3, 64, fun p => [R.CHAIN_P_LOST p]⟩,
   ⟨0x4012012c, 3, 64, fun p => [R.CHAIN_P_TRAIN_CNT p]⟩]
/-- Registers of the CHAIN block. -/
def regsCHAIN : List RegDef := regsCHAINP0
/-- Registers of the FAB block (part 0). -/
def regsFABP0 : List RegDef :=
  [⟨0x40130000, 1, 4, fun _ => [R.FAB_CTRL_RUN_FOLLOW, R.FAB_CTRL_EN, R.FAB_CTRL_ROLE]⟩,
   ⟨0x40130004, 1, 4, fun _ => [R.FAB_ID_FABRIC_ID, R.FAB_ID_DEPUTY_EN, R.FAB_ID_DEPUTY_ID, R.FAB_ID_MASTER_ID, R.FAB_ID_NODE]⟩,
   ⟨0x40130008, 1, 4, fun _ => [R.FAB_STATUS_BEACON_FROM, R.FAB_STATUS_HOPS, R.FAB_STATUS_VERSION_WARN, R.FAB_STATUS_NO_BEACON, R.FAB_STATUS_ACTING, R.FAB_STATUS_RESUMING, R.FAB_STATUS_FENCE]⟩,
   ⟨0x4013000c, 1, 4, fun _ => [R.FAB_FW_VER]⟩,
   ⟨0x40130010, 1, 4, fun _ => [R.FAB_OFFSET]⟩,
   ⟨0x40130014, 1, 4, fun _ => [R.FAB_FENCE_REJOIN_NS, R.FAB_FENCE_FENCE_NS]⟩,
   ⟨0x40130018, 1, 4, fun _ => [R.FAB_REJOIN_TICKS]⟩,
   ⟨0x40130020, 1, 4, fun _ => [R.FAB_BCN_TICK_LO]⟩,
   ⟨0x40130024, 1, 4, fun _ => [R.FAB_BCN_TICK_HI]⟩,
   ⟨0x40130028, 1, 4, fun _ => [R.FAB_BCN_EPOCH_LO]⟩,
   ⟨0x4013002c, 1, 4, fun _ => [R.FAB_BCN_EPOCH_HI]⟩,
   ⟨0x40130030, 1, 4, fun _ => [R.FAB_BCN_HASH_LO]⟩,
   ⟨0x40130034, 1, 4, fun _ => [R.FAB_BCN_HASH_HI]⟩,
   ⟨0x40130038, 1, 4, fun _ => [R.FAB_BCN_FW]⟩,
   ⟨0x4013003c, 1, 4, fun _ => [R.FAB_BCN_TIME_NS]⟩,
   ⟨0x40130040, 1, 4, fun _ => [R.FAB_BCN_TIME_SEC]⟩,
   ⟨0x40130048, 1, 4, fun _ => [R.FAB_STOP_AT_LO]⟩,
   ⟨0x4013004c, 1, 4, fun _ => [R.FAB_STOP_AT_HI]⟩,
   ⟨0x40130054, 1, 4, fun _ => [R.FAB_STOP_STATUS_LATE, R.FAB_STOP_STATUS_ARMED]⟩,
   ⟨0x40130050, 1, 4, fun _ => [R.FAB_EVT_CNT_FENCE, R.FAB_EVT_CNT_DEPUTY, R.FAB_EVT_CNT_VERSION, R.FAB_EVT_CNT_NO_BEACON]⟩,
   ⟨0x40130058, 1, 4, fun _ => [R.FAB_IRQ_EN_EPOCH_FOLLOW, R.FAB_IRQ_EN_VERSION, R.FAB_IRQ_EN_MASTER_CHANGE, R.FAB_IRQ_EN_NO_BEACON, R.FAB_IRQ_EN_UNFENCE, R.FAB_IRQ_EN_FENCE]⟩,
   ⟨0x4013005c, 1, 4, fun _ => [R.FAB_IRQ_STATUS]⟩]
/-- Registers of the FAB block. -/
def regsFAB : List RegDef := regsFABP0
/-- Registers of the AMP block (part 0). -/
def regsAMPP0 : List RegDef :=
  [⟨0x40140000, 1, 4, fun _ => [R.AMP_CTRL_STAG_EN, R.AMP_CTRL_EN]⟩,
   ⟨0x40140004, 1, 4, fun _ => [R.AMP_STATUS_PHASE_LOCK, R.AMP_STATUS_BACKUP, R.AMP_STATUS_RUNNING]⟩,
   ⟨0x40140008, 1, 4, fun _ => [R.AMP_GRP_CTRL_EN_AUTO, R.AMP_GRP_CTRL_EN]⟩,
   ⟨0x4014000c, 1, 4, fun _ => [R.AMP_GRP_STATUS_OT, R.AMP_GRP_STATUS_EN_OUT]⟩,
   ⟨0x40140010, 1, 4, fun _ => [R.AMP_START_EN_LEAD, R.AMP_START_DIV]⟩,
   ⟨0x40140014, 1, 4, fun _ => [R.AMP_STAG_TOL, R.AMP_STAG_DIV]⟩,
   ⟨0x40140018, 1, 4, fun _ => [R.AMP_OT_RESTART]⟩,
   ⟨0x40140020, 4, 8, fun r => [R.AMP_RAIL_SCALE r]⟩,
   ⟨0x40140024, 4, 8, fun r => [R.AMP_RAIL_MEAS r]⟩,
   ⟨0x40140040, 1, 4, fun _ => [R.AMP_IRQ_EN_PHASE_LOCK, R.AMP_IRQ_EN_IDLE_RANGE, R.AMP_IRQ_EN_LIMIT, R.AMP_IRQ_EN_SENSE, R.AMP_IRQ_EN_OT, R.AMP_IRQ_EN_SHORT, R.AMP_IRQ_EN_STATE]⟩,
   ⟨0x40140044, 1, 4, fun _ => [R.AMP_IRQ_STATUS]⟩,
   ⟨0x40141000, 32, 64, fun n => [R.AMP_CH_CFG_STAG n, R.AMP_CH_CFG_SGRP n, R.AMP_CH_CFG_DROP_EN n, R.AMP_CH_CFG_RAIL n]⟩,
   ⟨0x40141004, 32, 64, fun n => [R.AMP_CH_CMD n]⟩,
   ⟨0x40141008, 32, 64, fun n => [R.AMP_CH_STATE_REASON n, R.AMP_CH_STATE_IDLE_RANGE n, R.AMP_CH_STATE_TRACK_ERR n, R.AMP_CH_STATE_STAG_LOCK n, R.AMP_CH_STATE_RETRIES n, R.AMP_CH_STATE_STATE n]⟩,
   ⟨0x4014100c, 32, 64, fun n => [R.AMP_CH_LOOP_BW n, R.AMP_CH_LOOP_DLY n]⟩,
   ⟨0x40141010, 32, 64, fun n => [R.AMP_CH_SCALE_IFS n, R.AMP_CH_SCALE_VFS n]⟩,
   ⟨0x40141014, 32, 64, fun n => [R.AMP_CH_ILIM n]⟩,
   ⟨0x40141018, 32, 64, fun n => [R.AMP_CH_LIM_RELEASE n, R.AMP_CH_LIM_HEADROOM n]⟩,
   ⟨0x4014101c, 32, 64, fun n => [R.AMP_CH_GAIN n]⟩,
   ⟨0x40141020, 32, 64, fun n => [R.AMP_CH_FIDLE n]⟩,
   ⟨0x40141024, 32, 64, fun n => [R.AMP_CH_PHASE_TARGET n, R.AMP_CH_PHASE_PHASE n]⟩,
   ⟨0x40141028, 32, 64, fun n => [R.AMP_CH_EVT_TRIPS n, R.AMP_CH_EVT_LIMIT_TICKS n]⟩,
   ⟨0x4014102c, 32, 64, fun n => [R.AMP_CH_IPEAK n]⟩]
/-- Registers of the AMP block. -/
def regsAMP : List RegDef := regsAMPP0
/-- Registers of the GRAN block (part 0). -/
def regsGRANP0 : List RegDef :=
  [⟨0x40150000, 1, 4, fun _ => [R.GRAN_PWR_B_REQ, R.GRAN_PWR_A_REQ]⟩,
   ⟨0x40150004, 1, 4, fun _ => [R.GRAN_PWR_STATUS_REFUSED, R.GRAN_PWR_STATUS_B_STATE, R.GRAN_PWR_STATUS_A_STATE]⟩,
   ⟨0x40150008, 1, 4, fun _ => [R.GRAN_ECC_CE]⟩,
   ⟨0x4015000c, 1, 4, fun _ => [R.GRAN_ECC_UE]⟩,
   ⟨0x40150010, 1, 4, fun _ => [R.GRAN_ERR_ADDR]⟩,
   ⟨0x40150014, 1, 4, fun _ => [R.GRAN_ERR_INFO_KIND, R.GRAN_ERR_INFO_PORT]⟩,
   ⟨0x40150018, 1, 4, fun _ => [R.GRAN_IRQ_EN_POWER, R.GRAN_IRQ_EN_UE, R.GRAN_IRQ_EN_CE]⟩,
   ⟨0x4015001c, 1, 4, fun _ => [R.GRAN_IRQ_STATUS]⟩]
/-- Registers of the GRAN block. -/
def regsGRAN : List RegDef := regsGRANP0
/-- Registers of the BUSM block (part 0). -/
def regsBUSMP0 : List RegDef :=
  [⟨0x40160000, 1, 4, fun _ => [R.BUSM_ERR_ADDR]⟩,
   ⟨0x40160004, 1, 4, fun _ => [R.BUSM_ERR_INFO_KIND, R.BUSM_ERR_INFO_WRITE, R.BUSM_ERR_INFO_MASTER, R.BUSM_ERR_INFO_ADDR_HI]⟩,
   ⟨0x40160008, 1, 4, fun _ => [R.BUSM_ERR_CNT]⟩,
   ⟨0x4016000c, 1, 4, fun _ => [R.BUSM_IRQ_EN]⟩,
   ⟨0x40160010, 1, 4, fun _ => [R.BUSM_IRQ_STATUS]⟩,
   ⟨0x40160100, 11, 4, fun m => [R.BUSM_OUTST m]⟩]
/-- Registers of the BUSM block. -/
def regsBUSM : List RegDef := regsBUSMP0
/-- Registers of the DDR block (part 0). -/
def regsDDRP0 : List RegDef :=
  [⟨0x40170000, 1, 4, fun _ => [R.DDR_CFG_RATE, R.DDR_CFG_RANKS, R.DDR_CFG_SIZE]⟩,
   ⟨0x40170004, 1, 4, fun _ => [R.DDR_STATUS_REFRATE, R.DDR_STATUS_TRAINED]⟩,
   ⟨0x40170008, 1, 4, fun _ => [R.DDR_ECC_CE]⟩,
   ⟨0x4017000c, 1, 4, fun _ => [R.DDR_ECC_UE]⟩,
   ⟨0x40170010, 1, 4, fun _ => [R.DDR_ERR_ADDR_LO]⟩,
   ⟨0x40170014, 1, 4, fun _ => [R.DDR_ERR_ADDR_HI]⟩,
   ⟨0x40170018, 1, 4, fun _ => [R.DDR_IRQ_EN_TEMP, R.DDR_IRQ_EN_UE, R.DDR_IRQ_EN_CE]⟩,
   ⟨0x4017001c, 1, 4, fun _ => [R.DDR_IRQ_STATUS]⟩]
/-- Registers of the DDR block. -/
def regsDDR : List RegDef := regsDDRP0
/-- Registers of the SILO block (part 0). -/
def regsSILOP0 : List RegDef :=
  [⟨0x40180000, 1, 4, fun _ => [R.SILO_CTRL_TIMED, R.SILO_CTRL_REC]⟩,
   ⟨0x40180004, 1, 4, fun _ => [R.SILO_BASE_LO]⟩,
   ⟨0x40180008, 1, 4, fun _ => [R.SILO_BASE_HI]⟩,
   ⟨0x4018000c, 1, 4, fun _ => [R.SILO_SIZE]⟩,
   ⟨0x40180010, 1, 4, fun _ => [R.SILO_FORMAT_REC_BYTES, R.SILO_FORMAT_RATE, R.SILO_FORMAT_NS]⟩,
   ⟨0x40180014, 1, 4, fun _ => [R.SILO_CAP]⟩,
   ⟨0x40180018, 1, 4, fun _ => [R.SILO_WIDX_LO]⟩,
   ⟨0x4018001c, 1, 4, fun _ => [R.SILO_WIDX_HI]⟩,
   ⟨0x40180020, 1, 4, fun _ => [R.SILO_OLDEST_LO]⟩,
   ⟨0x40180024, 1, 4, fun _ => [R.SILO_OLDEST_HI]⟩,
   ⟨0x40180028, 1, 4, fun _ => [R.SILO_CMD_AT_LO]⟩,
   ⟨0x4018002c, 1, 4, fun _ => [R.SILO_CMD_AT_HI]⟩,
   ⟨0x40180030, 1, 4, fun _ => [R.SILO_MARK_CMD_CLEAR, R.SILO_MARK_CMD_SET, R.SILO_MARK_CMD_MARK]⟩,
   ⟨0x40180034, 1, 4, fun _ => [R.SILO_MARK_STATE]⟩,
   ⟨0x40180040, 4, 8, fun m => [R.SILO_MARK_LO m]⟩,
   ⟨0x40180044, 4, 8, fun m => [R.SILO_MARK_HI m]⟩,
   ⟨0x40180060, 1, 4, fun _ => [R.SILO_RP_CTRL_MARK, R.SILO_RP_CTRL_CMD]⟩,
   ⟨0x40180064, 1, 4, fun _ => [R.SILO_RP_START_LO]⟩,
   ⟨0x40180068, 1, 4, fun _ => [R.SILO_RP_START_HI]⟩,
   ⟨0x4018006c, 1, 4, fun _ => [R.SILO_RP_LEN]⟩,
   ⟨0x40180070, 1, 4, fun _ => [R.SILO_RP_MASK_LO]⟩,
   ⟨0x40180074, 1, 4, fun _ => [R.SILO_RP_MASK_HI]⟩,
   ⟨0x40180078, 1, 4, fun _ => [R.SILO_RP_STATUS_REASON, R.SILO_RP_STATUS_STATE]⟩,
   ⟨0x4018007c, 1, 4, fun _ => [R.SILO_RP_IDX_LO]⟩]
/-- Registers of the SILO block (part 1). -/
def regsSILOP1 : List RegDef :=
  [⟨0x40180080, 1, 4, fun _ => [R.SILO_RP_IDX_HI]⟩,
   ⟨0x40180084, 1, 4, fun _ => [R.SILO_HELD_CNT]⟩,
   ⟨0x40180088, 1, 4, fun _ => [R.SILO_LATE_CNT]⟩,
   ⟨0x40180090, 1, 4, fun _ => [R.SILO_IRQ_EN_WRITE_LATE, R.SILO_IRQ_EN_REFUSED, R.SILO_IRQ_EN_REPLAY_OVERRUN, R.SILO_IRQ_EN_REPLAY_END, R.SILO_IRQ_EN_MARK_LOST]⟩,
   ⟨0x40180094, 1, 4, fun _ => [R.SILO_IRQ_STATUS]⟩]
/-- Registers of the SILO block. -/
def regsSILO : List RegDef := regsSILOP0 ++ regsSILOP1
/-- Registers of the GLEAN block (part 0). -/
def regsGLEANP0 : List RegDef :=
  [⟨0x40190000, 1, 4, fun _ => [R.GLEAN_CTRL_MARCH_EN, R.GLEAN_CTRL_DDR_SCRUB, R.GLEAN_CTRL_GRAN_SCRUB]⟩,
   ⟨0x40190004, 1, 4, fun _ => [R.GLEAN_SCRUB_DIV]⟩,
   ⟨0x40190008, 1, 4, fun _ => [R.GLEAN_DDR_DIV]⟩,
   ⟨0x4019000c, 1, 4, fun _ => [R.GLEAN_MARCH_INT]⟩,
   ⟨0x40190010, 1, 4, fun _ => [R.GLEAN_STATUS_SEGMENT, R.GLEAN_STATUS_REPAIRED, R.GLEAN_STATUS_PHASE]⟩,
   ⟨0x40190014, 1, 4, fun _ => [R.GLEAN_FAIL_ADDR]⟩,
   ⟨0x40190018, 1, 4, fun _ => [R.GLEAN_CE_CNT]⟩,
   ⟨0x4019001c, 1, 4, fun _ => [R.GLEAN_PASS_CNT]⟩,
   ⟨0x40190020, 1, 4, fun _ => [R.GLEAN_IRQ_EN_PASS, R.GLEAN_IRQ_EN_UE, R.GLEAN_IRQ_EN_FAIL]⟩,
   ⟨0x40190024, 1, 4, fun _ => [R.GLEAN_IRQ_STATUS]⟩]
/-- Registers of the GLEAN block. -/
def regsGLEAN : List RegDef := regsGLEANP0
/-- Registers of the FCU block (part 0). -/
def regsFCUP0 : List RegDef :=
  [⟨0x401a0000, 1, 4, fun _ => [R.FCU_CTRL]⟩,
   ⟨0x401a0004, 1, 4, fun _ => [R.FCU_STATUS_SHADOWING, R.FCU_STATUS_ERR_N, R.FCU_STATUS_HOLDING, R.FCU_STATUS_SAFE, R.FCU_STATUS_FIRST_VALID]⟩,
   ⟨0x401a0008, 1, 4, fun _ => [R.FCU_CMD]⟩,
   ⟨0x401a000c, 1, 4, fun _ => [R.FCU_ERR_HOLD]⟩,
   ⟨0x401a0010, 1, 4, fun _ => [R.FCU_ERR_PULSE]⟩,
   ⟨0x401a0014, 1, 4, fun _ => [R.FCU_SHADOW_TICKS]⟩,
   ⟨0x401a0020, 4, 4, fun k => [R.FCU_STICKY k]⟩,
   ⟨0x401a0030, 1, 4, fun _ => [R.FCU_FIRST_LO]⟩,
   ⟨0x401a0034, 1, 4, fun _ => [R.FCU_FIRST_HI_VALID, R.FCU_FIRST_HI_INJ, R.FCU_FIRST_HI_SEV, R.FCU_FIRST_HI_KIND, R.FCU_FIRST_HI_SOURCE, R.FCU_FIRST_HI_ADDR_HI]⟩,
   ⟨0x401a0038, 1, 4, fun _ => [R.FCU_FIRST_TICK_LO]⟩,
   ⟨0x401a003c, 1, 4, fun _ => [R.FCU_FIRST_TICK_HI]⟩,
   ⟨0x401a0040, 1, 4, fun _ => [R.FCU_LAST_LO]⟩,
   ⟨0x401a0044, 1, 4, fun _ => [R.FCU_LAST_HI_VALID, R.FCU_LAST_HI_INJ, R.FCU_LAST_HI_SEV, R.FCU_LAST_HI_KIND, R.FCU_LAST_HI_SOURCE, R.FCU_LAST_HI_ADDR_HI]⟩,
   ⟨0x401a0048, 1, 4, fun _ => [R.FCU_MSG_CNT]⟩,
   ⟨0x401a004c, 1, 4, fun _ => [R.FCU_SHADOW_CNT]⟩,
   ⟨0x401a0050, 1, 4, fun _ => [R.FCU_REACT_SEL_SOURCE, R.FCU_REACT_SEL_KIND]⟩,
   ⟨0x401a0054, 1, 4, fun _ => [R.FCU_REACT]⟩,
   ⟨0x401a0058, 1, 4, fun _ => [R.FCU_SRC_SEL]⟩,
   ⟨0x401a005c, 1, 4, fun _ => [R.FCU_SRC_INFO_COUNT, R.FCU_SRC_INFO_SEV, R.FCU_SRC_INFO_KIND]⟩,
   ⟨0x401a0060, 4, 4, fun k => [R.FCU_CONSEQ k]⟩,
   ⟨0x401a0080, 1, 4, fun _ => [R.FCU_INJECT_KEY, R.FCU_INJECT_DONE, R.FCU_INJECT_ARMED, R.FCU_INJECT_CHECKER]⟩,
   ⟨0x401a0084, 1, 4, fun _ => [R.FCU_SELF_DUAL, R.FCU_SELF_PARITY]⟩,
   ⟨0x401a0090, 1, 4, fun _ => [R.FCU_IRQ_EN_INJ_DONE, R.FCU_IRQ_EN_SHADOW, R.FCU_IRQ_EN_SAFE, R.FCU_IRQ_EN_MSG]⟩,
   ⟨0x401a0094, 1, 4, fun _ => [R.FCU_IRQ_STATUS]⟩]
/-- Registers of the FCU block. -/
def regsFCU : List RegDef := regsFCUP0
/-- Registers of the GRNG block (part 0). -/
def regsGRNGP0 : List RegDef :=
  [⟨0x401b0000, 1, 4, fun _ => [R.GRNG_CTRL_MGMT_CMD, R.GRNG_CTRL_RESTART]⟩,
   ⟨0x401b0004, 1, 4, fun _ => [R.GRNG_STATUS_ROLLED_BACK, R.GRNG_STATUS_SLOT, R.GRNG_STATUS_TRIAL, R.GRNG_STATUS_RUN]⟩,
   ⟨0x401b0008, 1, 4, fun _ => [R.GRNG_FW_VER]⟩,
   ⟨0x401b000c, 1, 4, fun _ => [R.GRNG_WDOG_EN, R.GRNG_WDOG_ACTION, R.GRNG_WDOG_TIMEOUT]⟩,
   ⟨0x401b0010, 1, 4, fun _ => [R.GRNG_WDOG_KICK]⟩,
   ⟨0x401b0014, 1, 4, fun _ => [R.GRNG_WDOG_LEFT]⟩,
   ⟨0x401b0018, 1, 4, fun _ => [R.GRNG_LOG_HEAD]⟩,
   ⟨0x401b001c, 1, 4, fun _ => [R.GRNG_LOG_DROP]⟩,
   ⟨0x401b0020, 1, 4, fun _ => [R.GRNG_ODMA_SRC_LO]⟩,
   ⟨0x401b0024, 1, 4, fun _ => [R.GRNG_ODMA_SRC_HI]⟩,
   ⟨0x401b0028, 1, 4, fun _ => [R.GRNG_ODMA_DST_LO]⟩,
   ⟨0x401b002c, 1, 4, fun _ => [R.GRNG_ODMA_DST_HI]⟩,
   ⟨0x401b0030, 1, 4, fun _ => [R.GRNG_ODMA_LEN]⟩,
   ⟨0x401b0034, 1, 4, fun _ => [R.GRNG_ODMA_CTRL_ERR, R.GRNG_ODMA_CTRL_DONE, R.GRNG_ODMA_CTRL_START]⟩,
   ⟨0x401b0040, 1, 4, fun _ => [R.GRNG_IRQ_PEND]⟩,
   ⟨0x401b0044, 1, 4, fun _ => [R.GRNG_IRQ_MASK]⟩,
   ⟨0x401b0048, 1, 4, fun _ => [R.GRNG_RESTART_CNT]⟩]
/-- Registers of the GRNG block. -/
def regsGRNG : List RegDef := regsGRNGP0
/-- Registers of the PCIE block (part 0). -/
def regsPCIEP0 : List RegDef :=
  [⟨0x401c0000, 1, 4, fun _ => [R.PCIE_LINK_LTSSM, R.PCIE_LINK_WIDTH, R.PCIE_LINK_SPEED, R.PCIE_LINK_UP]⟩,
   ⟨0x401c0004, 1, 4, fun _ => [R.PCIE_IDS_DEVICE, R.PCIE_IDS_VENDOR]⟩,
   ⟨0x401c0008, 1, 4, fun _ => [R.PCIE_BAR4_WIN]⟩,
   ⟨0x401c000c, 1, 4, fun _ => [R.PCIE_UR_CNT]⟩,
   ⟨0x401c0010, 1, 4, fun _ => [R.PCIE_DB_H2G]⟩,
   ⟨0x401c0014, 1, 4, fun _ => [R.PCIE_DB_H2G_SET]⟩,
   ⟨0x401c0018, 1, 4, fun _ => [R.PCIE_DB_G2H]⟩,
   ⟨0x401c001c, 1, 4, fun _ => [R.PCIE_DB_G2H_SET]⟩,
   ⟨0x401c0100, 24, 4, fun s => [R.PCIE_VEC_MAP_EN s, R.PCIE_VEC_MAP_VECTOR s]⟩, ⟨0x401c0180, 32, 4, fun s => [R.PCIE_VEC_MAP_EN (32 + s), R.PCIE_VEC_MAP_VECTOR (32 + s)]⟩,
   ⟨0x401c0400, 64, 4, fun w => [R.PCIE_MBX_H2G w]⟩,
   ⟨0x401c0500, 64, 4, fun w => [R.PCIE_MBX_G2H w]⟩]
/-- Registers of the PCIE block. -/
def regsPCIE : List RegDef := regsPCIEP0
/-- Registers of the LCS block (part 0). -/
def regsLCSP0 : List RegDef :=
  [⟨0x401d0000, 1, 4, fun _ => [R.LCS_STATE_PENDING, R.LCS_STATE_STATE]⟩,
   ⟨0x401d0004, 1, 4, fun _ => [R.LCS_CTRL]⟩,
   ⟨0x401d0008, 1, 4, fun _ => [R.LCS_UID_LO]⟩,
   ⟨0x401d000c, 1, 4, fun _ => [R.LCS_UID_HI]⟩,
   ⟨0x401d0010, 1, 4, fun _ => [R.LCS_SIGREQ_IMG, R.LCS_SIGREQ_FW]⟩,
   ⟨0x401d0014, 1, 4, fun _ => [R.LCS_KEYVALID]⟩,
   ⟨0x401d0020, 8, 4, fun n => [R.LCS_CNT n]⟩,
   ⟨0x401d0044, 1, 4, fun _ => [R.LCS_LC_STATUS]⟩,
   ⟨0x401d0048, 1, 4, fun _ => [R.LCS_VERIFY_FAILS]⟩]
/-- Registers of the LCS block. -/
def regsLCS : List RegDef := regsLCSP0
/-- Registers of the SENS block (part 0). -/
def regsSENSP0 : List RegDef :=
  [⟨0x401e0000, 1, 4, fun _ => [R.SENS_T_LIM_CRIT, R.SENS_T_LIM_HIGH]⟩,
   ⟨0x401e0004, 1, 4, fun _ => [R.SENS_IRQ_EN_FAILED, R.SENS_IRQ_EN_REJECT, R.SENS_IRQ_EN_LIMIT]⟩,
   ⟨0x401e0008, 1, 4, fun _ => [R.SENS_IRQ_STATUS]⟩,
   ⟨0x401e0010, 2, 4, fun n => [R.SENS_I_SCALE n]⟩,
   ⟨0x401e0100, 34, 16, fun n => [R.SENS_S_VALUE n]⟩,
   ⟨0x401e0104, 34, 16, fun n => [R.SENS_S_LIM_HI n, R.SENS_S_LIM_LO n]⟩,
   ⟨0x401e0108, 34, 16, fun n => [R.SENS_S_STATUS_REJ_CNT n, R.SENS_S_STATUS_FAILED n, R.SENS_S_STATUS_HIGH n, R.SENS_S_STATUS_LOW n, R.SENS_S_STATUS_VALID n]⟩]
/-- Registers of the SENS block. -/
def regsSENS : List RegDef := regsSENSP0

/-- The registers of the block that word address `a` lies in (R7, Table 0-6). -/
def regsOfBlock (a : Nat) : List RegDef :=
  match a / 0x10000 with
  | 0x4000 => regsSYS
  | 0x4001 => regsPWR
  | 0x4002 => regsRST
  | 0x4003 => regsCLK
  | 0x4004 => regsTICK
  | 0x4005 => regsIATC
  | 0x4006 => regsMARV
  | 0x4007 => (if a % 0x10000 < 0x8000 then regsIMG else regsBIND)
  | 0x4008 => regsSAP
  | 0x4009 => regsHOP
  | 0x400a => (regsNETbase 0 ++ regsNETwake 0)
  | 0x400b => regsNETbase 1
  | 0x400c => regsNETbase 2
  | 0x400d => regsNETbase 3
  | 0x400e => regsMGMT 4
  | 0x400f => regsSTRM
  | 0x4010 => regsTIME
  | 0x4011 => regsPAIR
  | 0x4012 => regsCHAIN
  | 0x4013 => regsFAB
  | 0x4014 => regsAMP
  | 0x4015 => regsGRAN
  | 0x4016 => regsBUSM
  | 0x4017 => regsDDR
  | 0x4018 => regsSILO
  | 0x4019 => regsGLEAN
  | 0x401a => regsFCU
  | 0x401b => regsGRNG
  | 0x401c => regsPCIE
  | 0x401d => regsLCS
  | 0x401e => regsSENS
  | _ => []

/-- Does word address `a` name an entry of this register array? -/
def RegDef.hits (d : RegDef) (a : Nat) : Bool :=
  decide (d.base ≤ a) && decide ((a - d.base) % d.stride = 0) && decide ((a - d.base) / d.stride < d.count)

/-- The fields of the register at word address `a`; none at an offset that holds no register (R8). -/
def regFieldsAt (a : Nat) : List Fld :=
  match (regsOfBlock a).find? (fun d => d.hits a) with
  | some d => d.fields ((a - d.base) / d.stride)
  | none => []

end Sys2Proof.Machine
end

