-- ==== Sys2Proof/Machine/State.lean ====
section
/-!
DEFINITION. The state of the engine: every register field (one store keyed by field), every memory, every queue, table and
sequencer the spec gives it, and the queue of waiting commands. Plain data; `State.reset` is the engine after reset.
-/

namespace Sys2Proof.Machine

/-- Why a run stops. This model raises no fault: every behaviour that the spec describes is an effect, and what the spec
calls unpredictable without an effect is a refusal. The one constructor is never raised (safe). (DESIGN CHOICE, log 7, safe) -/
inductive Fault where
  /-- Never raised (safe). -/
  | none
  deriving DecidableEq, Repr

/-- Why a command is refused. -/
inductive Refusal where
  /-- An arm without a meaning: raised by no arm of this model (safe). -/
  | notModelled (mnemonic : String)
  /-- The spec lists this use among the host errors whose result is unpredictable (R378) and gives it no effect: raised by the
  register and host access meanings, with the number of the rule that lists it (safe). -/
  | unpredictable (rule : Nat)
  deriving DecidableEq, Repr

/-- The ordering code of the part (R1): VY1024-AI has amplifier control, VY1024-NI has not. (DESIGN CHOICE, log 10, safe) -/
inductive Part where
  | ai | ni
  deriving DecidableEq, Repr

/-- The pins the model keeps: straps as sampled (R431), levels the engine drives, and inputs it samples. (DEDUCED, log 65, safe) -/
structure Pins where
  /-- BOOT_MODE[2:0] as sampled at reset. -/
  bootMode   : Nat
  /-- PAIR_SIDE as sampled at reset: 0 side A, 1 side B (R278). -/
  pairSide   : Nat
  /-- This engine drives PAIR_CLAIM_N low (R279). -/
  claimDrive : Bool
  /-- PAIR_OWN (R279). -/
  pairOwn    : Bool
  /-- AMP_EN[7:0] as driven (R336). -/
  ampEn      : Nat
  /-- Bit n: AMP_PWMA[n]/AMP_PWMB[n] switch; 0: both low (R335). -/
  ampPwm     : Nat
  /-- AMP_SDCLK runs: the AMP domain is on; else it is driven low (R2, Table 18-2). -/
  ampSdclk   : Bool
  /-- PSEL_MAIN_N low: main feed on (R418). -/
  pselMain   : Bool
  /-- PSEL_BACK_N low: backup feed on (R418). -/
  pselBack   : Bool
  deriving DecidableEq, Repr

/-- How a bus or host access completed. -/
inductive RespStatus where
  /-- Normal completion. -/
  | ok
  /-- Decode error from the default target (R6). -/
  | decode
  /-- Error response of the target: ECC or power (R348, R351, R365). -/
  | error
  /-- Completion poisoned, data 0 (R368). -/
  | poisoned
  /-- Unsupported Request (R367, R368). -/
  | unsupported
  /-- Completer Abort (R368). -/
  | abort
  /-- The master had 32 transactions in flight and stalls at issue (R360). -/
  | stalled
  deriving DecidableEq, Repr

/-- The answer to the last access a master made. -/
structure Resp where
  status : RespStatus
  data   : Nat
  deriving DecidableEq, Repr
/-- The tick sequencer beside its registers (R15–R38). -/
structure TickSt where
  /-- The current tick number, 64 bits. -/
  num       : Nat
  /-- NUM_HI as latched by the last read of NUM_LO (R37). -/
  hiLatch   : Nat
  /-- RUN was set and the first boundary has not fallen. -/
  starting  : Bool
  /-- RUN was cleared: the current tick is the last (R38). -/
  stopping  : Bool
  /-- The base in force: local when true (TBASE as taken at RUN, R18). -/
  localBase : Bool
  /-- SEED was written in the tick in which RUN was set (R39); it was written since the last boundary. -/
  seedLate  : Bool
  seedNew   : Bool
  /-- The tick that IRQ_AT is armed for (R37). -/
  atArmed   : Option Nat
  /-- The window of the current tick has started. -/
  inWindow  : Bool
  /-- The window of the current tick has ended (R25). -/
  ended     : Bool
  /-- The digest of the current tick is closed (R108). -/
  closed    : Bool
  /-- The digests of the last closed ticks, newest first: tick, digest, and whether the pair unit may compare it (R285). -/
  past      : List (Nat × Nat × Bool)
  /-- CRC-32C register of the digest in progress: the bytes scattered in this tick so far go through it (R108). -/
  crc       : Nat
  deriving DecidableEq, Repr
/-- The registers of one lane (Table 2-2). -/
structure Lane where
  f : FMap W24
  a : FMap Acc
  deriving DecidableEq, Repr

/-- One active loop: first instruction of the body, its last instruction LA, passes left LC (R88). -/
structure Loop where
  start : BitVec 14
  la    : BitVec 14
  lc    : BitVec 16
  deriving DecidableEq, Repr

/-- What a long operation does (Table 2-6). -/
inductive LKind where
  | gld | gst | gadd | gswp | hpush | hpop
  deriving DecidableEq, Repr

/-- An issued long operation: what it needs to take effect later (R63–R66). -/
structure LongOp where
  kind  : LKind
  /-- 32-bit form. -/
  wide  : Bool
  /-- FORM bits: 0 lane pair, 1 broadcast, 2 lane 0, 3 lane 1. -/
  form  : Nat
  /-- REG code of R94: 0–3 F0–F3, 4–7 A–D. -/
  reg   : Nat
  /-- First Granary word (container) address, or the hopper. -/
  addr  : Nat
  /-- Operand containers read at issue, for lane 0 and lane 1. -/
  v0    : Word
  v1    : Word
  deriving DecidableEq, Repr

/-- One Iator core beside its memories, which lie in the bus address space, and its IATC registers. -/
structure Core where
  lane0  : Lane
  lane1  : Lane
  pt     : FMap (BitVec 15)
  off    : FMap (BitVec 16)
  md     : FMap (BitVec 15)
  ga     : FMap (BitVec 23)
  /-- Active loops, innermost first: its head gives LC and LA, its length LOOPD. -/
  loops  : List Loop
  /-- Return addresses, innermost first: its length gives CALLD. -/
  calls  : List (BitVec 14)
  /-- CSR bits 9:0. -/
  csr    : BitVec 10
  pc     : BitVec 14
  /-- Long operations outstanding, in issue order. -/
  long   : List LongOp
  /-- Cycles counted since the window start, and the stalls among them (R62). -/
  cycles : Nat
  stalls : Nat
  /-- Address registers (Table 3-5 codes) the previous instruction wrote (R56). -/
  wrote  : List Nat
  /-- The loop whose body the loop buffer holds: start and LA; `filled` once the first pass is over (R60). -/
  buf    : Option (Nat × Nat)
  filled : Bool
  /-- TEND has been executed; `done` when it has completed (R61). -/
  tend   : Bool
  done   : Bool
  /-- Long operations that have completed since the last instruction completed: the ones the next can have waited for (R64, R66). -/
  freed  : List LongOp
  /-- The instruction at the program counter has stalled on binding (R70). -/
  stalled : Bool
  deriving DecidableEq, Repr

/-- A lane whose registers are all 0. -/
def Lane.zero : Lane := ⟨[], []⟩
/-- A core's registers at the start of a tick (R43), and at reset. -/
def Core.zero : Core := ⟨Lane.zero, Lane.zero, [], [], [], [], [], [], 0, 0, [], 0, 0, [], none, false, false, false, [], false⟩
/-- A Marver command: its two words (R159). -/
structure MCmd where
  w0 : Nat
  w1 : Nat
  deriving DecidableEq, Repr
/-- What an image gives Marver: the command list, the groups its MARV_PAIR section provides, and their SLEW values (R154). -/
structure MarvList where
  cmds   : List MCmd
  groups : Nat
  slews  : FMap Nat
  deriving DecidableEq, Repr

/-- Marver beside its memories and registers. Accumulators and partial sums are keyed driver × 16 + sample. -/
structure MarvSt where
  /-- The command list in force, and the slot whose banks it uses (they change at T+1, R164). -/
  cmds    : List MCmd
  slot    : Nat
  /-- The next command of the tick; `none` while no list runs. -/
  pos     : Option Nat
  cycles  : Nat
  /-- Sources the last LOAD opened. -/
  opened  : Option (Nat × Nat)
  acc     : FMap Acc
  part    : FMap Acc
  /-- Feeds delivered in this tick, by driver. -/
  feeds   : FMap (List W24)
  /-- Tiles stopped by an uncorrectable row (mask, R167). -/
  stopped : Nat
  /-- The list of this tick has ended; its feeds may be scattered. -/
  ended   : Bool
  late    : Bool
  /-- A SWEEP has run in this list. -/
  swept   : Bool
  /-- SLEW values in effect, by group. -/
  slew    : FMap Nat
  /-- Armed group switch: n and mask (R162). -/
  gsw     : Option (Nat × Nat)
  /-- Groups whose banks are being copied after a switch (R162). -/
  copying : Nat
  /-- Update copy: address, length and byte offset of the next record (R163). -/
  upd     : Option (Nat × Nat × Nat)
  /-- Sources scattered in this tick, and the last sample of each source. -/
  wrote   : List Nat
  /-- At T the running epoch equalled PRED_EPOCH (R164). -/
  keep    : Bool
  deriving DecidableEq, Repr
/-- One entry of an image's SAP_MAP section (R177). -/
structure SapMapEnt where
  port   : Nat
  pack   : Nat
  rxMask : Nat
  txMask : Nat
  deriving DecidableEq, Repr
/-- A transmit entry of the stream map (Table 9-2). -/
structure TxEnt where
  stream : Nat
  format : Nat
  chans  : Nat
  ptime  : Nat
  ports  : Nat
  queue  : Nat
  flags  : Nat
  tci    : Nat
  mac    : Nat
  id     : Nat
  srcIp  : Nat
  dstIp  : Nat
  udpSrc : Nat
  udpDst : Nat
  ttl    : Nat
  dscp   : Nat
  pt     : Nat
  rtpOfs : Nat
  deriving DecidableEq, Repr
/-- A receive entry (Table 9-3). -/
structure RxEnt where
  stream : Nat
  format : Nat
  chans  : Nat
  pres   : Nat
  elim   : Bool
  pt     : Nat
  rtpOfs : Nat
  deriving DecidableEq, Repr
/-- A stream-ID entry with its words (Table 9-4). -/
structure SidEnt where
  port  : Nat
  index : Nat
  w0    : Nat
  w1    : Nat
  w2    : Nat
  w3    : Nat
  deriving DecidableEq, Repr
/-- A STRM_MAP section (R225). -/
structure StrmMap where
  tx  : List TxEnt
  rx  : List RxEnt
  sid : List SidEnt
  deriving DecidableEq, Repr
def StrmMap.empty : StrmMap := ⟨[], [], []⟩
/-- A CHAIN_MAP section (R316): actions by slot, unlisted slots PASS (0); 1 INSERT, 2 STRIP. -/
structure ChainMap where
  spur      : Bool
  spurTx    : Nat
  spurRx    : Nat
  ringSlots : Nat
  action    : FMap Nat
  deriving DecidableEq, Repr
def ChainMap.empty : ChainMap := ⟨false, 0, 0, 0, []⟩
/-- An entry of an AMP_MAP section (R330): the channel and its LOOKAHEAD flag. -/
structure AmpMapEnt where
  chan : Nat
  look : Bool
  deriving DecidableEq, Repr
/-- A CORE_DECL section (R106). Ranges are first Granary word and length. -/
structure CoreDecl where
  entry   : Nat
  decl    : Nat
  carry0  : Nat
  carry1  : Nat
  hoppers : Nat
  ranges  : List (Nat × Nat)
  deriving DecidableEq, Repr
def CoreDecl.none : CoreDecl := ⟨0, 0, 0, 0, 0, []⟩

/-- An entry of the carry map (R115). -/
structure CarryEnt where
  newCore  : Nat
  newSpace : Nat
  oldCore  : Nat
  oldSpace : Nat
  newBase  : Nat
  oldBase  : Nat
  len      : Nat
  deriving DecidableEq, Repr

/-- A gather or scatter descriptor, a latency entry or a ring change: its four words (R126, R107, Table 5-7). -/
structure Desc where
  w0 : Nat
  w1 : Nat
  w2 : Nat
  w3 : Nat
  deriving DecidableEq, Repr

/-- A BIND_RING entry (R134). -/
structure RingEnt where
  addr : Nat
  cap  : Nat
  len  : Nat
  zero : Bool
  deriving DecidableEq, Repr

/-- An accepted tick image: what the loader keeps of it beside the words it writes into memories (R102–R108). -/
structure Image where
  epoch     : Nat
  hash      : Nat
  rate      : Nat
  /-- 0: A. 1: B. 2: FULL. -/
  placement : Nat
  flags     : Nat
  marvDecl  : Nat
  bindDecl  : Nat
  declMax   : Nat
  coreMask  : Nat
  patchBase : Nat
  patchSize : Nat
  cores     : FMap CoreDecl
  predEpoch : Option Nat
  carry     : List CarryEnt
  gather    : List Desc
  scatter   : List Desc
  rings     : List RingEnt
  latency   : List Desc
  settle    : Nat
  omitted   : List Nat
  /-- The command list, when the image has a MARV_CMD section. -/
  marv      : Option MarvList
  sap       : List SapMapEnt
  strm      : StrmMap
  chain     : ChainMap
  amp       : List AmpMapEnt
  silo      : Option (Nat × Nat)
  deriving DecidableEq, Repr

/-- The image loader beside its registers. -/
structure ImgSt where
  /-- The images in slot A and slot B (R103). -/
  slotA   : Option Image
  slotB   : Option Image
  /-- A load in progress: slot, address, length (R109). -/
  loading : Option (Nat × Nat × Nat)
  /-- The running slot; `none` while no image runs. -/
  running : Option Nat
  /-- The armed switch: slot and T (R114). -/
  armed   : Option (Nat × Nat)
  /-- Boundary T−1 of the armed switch has passed: 1. Boundaries passed since T: 1 after T, 2 after T+1 (0: no switch is under way). -/
  stage   : Nat
  post    : Nat
  /-- The point fell at T: the supply follows at T+2. -/
  fell    : Bool
  /-- The commanded supply rise is confirmed, or none was needed (R114). -/
  supply  : Bool
  /-- The point the switch moves to. -/
  newOp   : Nat
  /-- The slot that became EMPTY-to-be at T (R114). -/
  oldSlot : Option Nat
  /-- An armed patch: n, whether its check has finished, and the sheaf numbers still to be written (R118–R120). -/
  patch   : Option Nat
  checked : Bool
  stepping : Bool
  /-- The slot whose image became READY last: the one that a switch takes when both are READY. -/
  lastLoad : Nat
  /-- Rate of the last image that ran (R143). -/
  lastRate : Option Nat
  deriving DecidableEq, Repr
/-- One delay ring of the running image (R134–R137). -/
structure Ring where
  addr : Nat
  cap  : Nat
  len  : Nat
  zero : Bool
  w    : Nat
  /-- Watermark Z. -/
  z    : Nat
  fill : Bool
  refused : Bool
  clamp   : Bool
  /-- Position at which the last tick's block began. -/
  blockW  : Nat
  /-- Position at which this tick's block began, once it has been written. -/
  cur     : Option Nat
  deriving DecidableEq, Repr

/-- The Binder beside its registers: lists of the running image in two banks, and progress through the tick (R128, R131). -/
structure BindSt where
  gather   : List Desc
  scatter  : List Desc
  latency  : List Desc
  shGather  : List Desc
  shScatter : List Desc
  shLatency : List Desc
  shRings   : List Desc
  /-- Armed commit: n, and its check has passed. -/
  rtAt     : Option Nat
  rtOk     : Bool
  rings    : FMap Ring
  /-- `BIND.DRING` by ring: the length and ZERO_ON_GROW most recently written or loaded, as the register's word (ST). -/
  dring    : FMap Nat
  /-- A length and ZERO_ON_GROW written to `BIND.DRING` and waiting for the boundary, for the ring selected there (ST, R149). -/
  stage    : Option (Nat × Bool)
  /-- Gather descriptors run in this tick. -/
  gatherAt : Nat
  /-- Scatter descriptors passed in this tick. -/
  scatterAt : Nat
  /-- Cores' sheaves bound in this tick, as core × 4096 + sheaf. -/
  bound    : List Nat
  /-- FABRIC cycles of this tick's lists so far. -/
  cycles   : Nat
  deriving DecidableEq, Repr

/-- A silence detector beside its registers (R144, R145). -/
structure Sil where
  /-- Consecutive ticks without signal. -/
  silent : Nat
  /-- Ticks in HALF, and ticks since the wake started. -/
  half   : Nat
  waking : Nat
  /-- Boundaries until a wake, or a return to ACTIVE, that signal asked for takes effect (0: none). -/
  pend   : Nat
  /-- EN was cleared: WAKING leads to OFF. -/
  ending : Bool
  /-- Signal was seen in the block scattered in this tick. -/
  seen   : Bool
  /-- Blocks of the 12-tick look-ahead line, oldest first. -/
  line   : List (List Word)
  deriving DecidableEq, Repr
def Sil.zero : Sil := ⟨0, 0, 0, 0, false, false, []⟩

/-- A command of the Silo that waits for its boundary (R142): mark commands and replay commands as written. -/
structure SiloCmd where
  /-- `none`: the next boundary; a tick number with TIMED. -/
  atTick : Option Nat
  replay : Bool
  word   : Nat
  deriving DecidableEq, Repr

/-- The Silo beside its registers (R138–R143). -/
structure SiloSt where
  /-- Recording in force (REC as of the last boundary). -/
  on       : Bool
  /-- Index at which the ring in force started. -/
  first    : Nat
  cmds     : List SiloCmd
  /-- Marks whose SET takes effect at this tick's record. -/
  sets     : List Nat
  /-- The block scattered to the record channels in the current tick: its samples by channel × 16 + sample, and the channels. -/
  block    : FMap Word
  chans    : List Nat
  /-- Late records: index and bytes (R139). -/
  late     : List (Nat × List Byte)
  /-- Samples of the record that the replay read in this tick, by channel × 16 + sample, and whether it read one. -/
  next     : FMap Word
  /-- The block that the replay channels deliver in the current tick, and what they deliver: 0 zero, 1 the block, 2 held-last. -/
  out      : FMap Word
  mode     : Nat
  /-- Records left to replay when RP_LEN is not 0. -/
  left     : Nat
  /-- The record of this tick is written; the replay of this tick is read. -/
  wrote    : Bool
  read     : Bool
  /-- Channels of the replay map in force, which changes with the receive maps (R114). -/
  rpMap    : Nat
  deriving DecidableEq, Repr
/-- A serial audio port beside its registers (R182–R190). -/
structure SapPort where
  /-- Boundaries until an armed port without a group starts (0: none, R183). -/
  startIn  : Nat
  /-- STOP takes effect at the next boundary. -/
  stopNext : Bool
  /-- Packing in force in each direction. -/
  rxPack   : Nat
  txPack   : Nat
  /-- The owed count has passed 2N: the side resynchronises at the next boundary (R187). -/
  txResync : Bool
  rxResync : Bool
  /-- Boundaries until transmit plays, and until the Binder gathers, again. -/
  txWait   : Nat
  rxWait   : Nat
  /-- The last frame played, and the last frame stored, by slot. -/
  lastTx   : FMap Word
  lastRx   : FMap Word
  /-- Consecutive frame errors (R189). -/
  errRun   : Nat
  /-- The block that the Binder took in this tick: its frames as containers by slot × 16 + sample, and whether it was taken. -/
  taken    : Bool
  block    : FMap Word
  /-- Frames of the taken block that were present; later ones are held-last. -/
  present  : Nat
  /-- The block being scattered in this tick, by slot × 16 + sample, the slots scattered, and whether it is written. -/
  out      : FMap Word
  outSlots : List Nat
  written  : Bool
  /-- The slots that the frame on TXD selects, and those of the frame before it (R173, R178). -/
  lineMask : Nat
  lastMask : Nat
  /-- A slave port that started has yet to meet its frame 0 (R184). -/
  rxFirst  : Bool
  txFirst  : Bool
  /-- The tick at whose boundary the receive map last changed, and the mask and packing until then, for a frame that began before it (R190). -/
  rxOld    : Option (Nat × Nat × Nat)
  /-- The slave bit clock as last measured, in 16 Hz units; the register shows it from the next boundary (R193). -/
  meas     : Nat
  deriving DecidableEq, Repr
def SapPort.zero : SapPort :=
  ⟨0, false, 0, 0, false, false, 0, 0, [], [], 0, false, [], 0, [], [], false, 0, 0, false, false, none, 0⟩
/-- What a pin of a serial port does: the board drives it, or the engine drives it low or high, toggles it, or leaves it high-impedance. -/
inductive SapPin where
  | input | low | high | toggling | highZ
  deriving DecidableEq, Repr

/-- The serial audio ports beside their registers. -/
structure SapSt where
  ports    : FMap SapPort
  /-- Tick starts by group, as n + 1 (R185). -/
  tickArm  : FMap Nat
  /-- Groups that a pin edge starts at the next boundary, and at the one after. -/
  pinNow   : Nat
  pinNext  : Nat
  /-- Transmit maps that wait for boundary T+2 (R190). -/
  txPend   : List (Nat × List SapMapEnt)
  deriving DecidableEq, Repr
/-- A received frame on its way to the stream engine, the time unit or the pair unit, with its stamps in both domains (2^-30 ns). -/
structure RxFrame where
  port   : Nat
  stream : Nat
  bytes  : List Byte
  at0    : Nat
  at1    : Nat
  deriving DecidableEq, Repr

/-- A frame in an egress forwarding buffer: its level, its bytes, and its ingress stamps. -/
structure FwdFrame where
  level : Nat
  bytes : List Byte
  at0   : Nat
  at1   : Nat
  deriving DecidableEq, Repr

/-- A frame that a port is sending: its queue (8: forwarded), descriptor, bytes, completion status, and start stamp (2^-30 ns). -/
structure Flight where
  queue  : Nat
  desc   : Nat
  bytes  : List Byte
  status : Nat
  start  : Nat
  deriving DecidableEq, Repr

/-- A network port beside its registers (R195–R223); port 4 is MGMT. -/
structure NetPort where
  /-- Forwarding buffer of this port as egress, oldest first (R206). -/
  fwd     : List FwdFrame
  /-- Bit l: the forwarded frame was the last one sent at level l. -/
  lastFwd : Nat
  /-- Credits of the shapers in units of 10^-7 bit. -/
  credit0 : Int
  credit1 : Int
  flight  : Option Flight
  /-- A PAUSE that begins when the frame in flight ends. -/
  pauseNext : Option Nat
  /-- Frames that the stream engine or the pair unit placed, by the ADDR of their descriptors (R233, R283). -/
  bufs    : FMap (List Byte)
  /-- Nanoseconds for which the frame in flight has been leaving (R211). -/
  sent    : Nat
  /-- What is left of a PAUSE, in tenths of a nanosecond (R215). -/
  pauseTime : Nat
  /-- The PAUSE and ASM_DIR bits that auto-negotiation advertises (R196). -/
  advert  : Bool
  /-- Wake patterns (R216): word w of pattern p at p × 64 + w. -/
  wake    : FMap Nat
  deriving DecidableEq, Repr
def NetPort.zero : NetPort := ⟨[], 0, 0, 0, none, none, [], 0, 0, false, []⟩

/-- A change of the pair unit's withholding: the counters of both domains at its boundary, and what held before it (R282). -/
structure Gate where
  at0 : Nat
  at1 : Nat
  was : Bool
  deriving DecidableEq, Repr

/-- The network ports. -/
structure NetSt where
  ports : FMap NetPort
  /-- Bits 63:32 of an octet counter as latched by the last read of its LO register: port × 2 + 1 for transmit (R218). -/
  octHi : FMap Nat
  /-- Changes of withholding, newest first (R282). -/
  gates : List Gate
  deriving DecidableEq, Repr

/-- A receive stream beside its registers (R234–R240). -/
structure RxStream where
  /-- Ticks since the last valid frame. -/
  idle    : Nat
  /-- Filled positions: (block × 64 + channel) × 16 + sample ↦ container + 1. -/
  fill    : FMap Nat
  /-- Recovery: take any sequence number; the last one; bit i: history position i is filled. -/
  takeAny : Bool
  seq     : Nat
  hist    : Nat
  /-- Ticks since the recovery last passed a frame (R240). -/
  quiet   : Nat
  deriving DecidableEq, Repr
def RxStream.zero : RxStream := ⟨0, [], true, 0, 0, 0⟩

/-- The stream engine beside its registers. -/
structure StrmSt where
  /-- Entries in force: transmit, receive and stream-ID. -/
  txMap  : List TxEnt
  rxMap  : List RxEnt
  sid    : List SidEnt
  /-- A transmit map that waits for its boundary (R241). -/
  txPend : List (Nat × List TxEnt)
  rx     : FMap RxStream
  /-- Frames that Winnow gave to the stream engine. -/
  inbox  : List RxFrame
  /-- Samples to transmit by grid sample count: (stream × 64 + channel) × 512 + count mod 512. -/
  txBuf  : FMap Word
  /-- First grid sample count of each transmit stream, plus 1. -/
  txFrom : FMap Nat
  /-- The block of the current tick, by transmit channel × 16 + sample, and the transmit channels that were scattered. -/
  block  : FMap Word
  wrote  : List Nat
  /-- Ports that a stream's frame of this tick is still to be queued on. -/
  todo   : FMap Nat
  /-- The last signed difference of each CRF receive stream, as its 32 bits (R232). -/
  crf    : FMap Nat
  deriving DecidableEq, Repr

/-- The time unit beside its registers (R242–R248). -/
structure PtpSt where
  /-- The two counters in units of 2^-30 ns. -/
  cnt    : FMap Nat
  /-- Stamps of the last boundary and of the one before it, by instance. -/
  bnd    : FMap Nat
  bndPrev : FMap Nat
  /-- Predictions of the next boundary and of those before it, newest first: by instance the time and the tick length (R229). -/
  preds  : List ((Int × Int) × (Int × Int))
  /-- The mr bit of AAF frames (R230). -/
  mr     : Bool
  /-- Slew residual in units of 2^-30/3 ns. -/
  resid  : Int
  /-- Frames that Winnow gave to the time unit. -/
  inbox  : List RxFrame
  deriving DecidableEq, Repr
/-- The clock unit beside its registers (R253–R277). -/
structure ClkSt where
  /-- Seconds within the accept window, by QUALIFYING reference. -/
  qual     : FMap Nat
  /-- DPLL state before SWITCHING, and compared edges measured in it (R266). -/
  prev     : Nat
  swEdges  : Nat
  /-- An ALIGN waits for the end of the switch (R275); the running or waiting ALIGN is that of a domain switch (R269). -/
  nextAlign : Bool
  auto     : Bool
  /-- Consecutive compared edges beyond UNLOCK_NS. -/
  unlock   : Nat
  /-- The acquisition in progress started in HOLDOVER. -/
  fromHold : Bool
  /-- A 60 s mean exists (R271). -/
  model    : Bool
  /-- Minutes in LOCKED without a break. -/
  minutes  : Nat
  /-- Learning points: mean word and mean temperature, and for ageing also the minute. -/
  ktPts    : List (Int × Int)
  agePts   : List (Nat × Int × Int)
  /-- Output dividers: aligned since reset, ticks to the next PPS pulse, and a pulse at the last boundary (R270). -/
  aligned  : Bool
  ppsLeft  : Nat
  ppsPulse : Bool
  /-- Ticks for which PPS_OUT stays high. -/
  ppsHigh  : Nat
  /-- Where the boundaries fall in the period of the WCLK_OUT divider, in AUDIO periods after its rising edge. -/
  wclkAt   : Nat
  /-- The tick that an output alignment is armed for. -/
  outAt    : Nat
  /-- Edges since the last compared one, by reference (R253). -/
  edges    : FMap Nat
  /-- The loop filter's integrator, in units of 10^-10 of the control word's (R258). -/
  integ    : Int
  /-- Compared edges since the phase error last exceeded LOCK_NS (R260). -/
  calm     : Nat
  /-- Where the nearest tick boundary lay after the last compared edge, in ps (R267). -/
  phase    : Int
  /-- What the running ALIGN has left below 1 ps, in twelfths. -/
  alignRem : Nat
  /-- References whose wait restarts when the switch is complete (R265). -/
  swWait   : List Nat
  /-- The selected PTP reference is that of a domain switch, whatever the ranks (R269). -/
  domHeld  : Bool
  /-- Sums of the words and temperatures of the compared edges in LOCKED since the last 60 s mean, and their number (R271). -/
  sumWord  : Int
  sumTemp  : Int
  sumN     : Nat
  /-- References that have failed by ACTIVITY since time last passed (R275). -/
  quiet    : List Nat
  /-- Nanoseconds since a PLL without lock was enabled or lost it (R274). -/
  pllAge   : FMap Nat
  deriving DecidableEq, Repr
/-- A run of a bale (Table 12-3): first slot, slot count, origin, and its containers slot by slot. -/
structure Run where
  first   : Nat
  count   : Nat
  origin  : Nat
  samples : List Word
  deriving DecidableEq, Repr

/-- A chain port beside its registers (R305–R316). -/
structure ChainPort where
  /-- Consecutive valid LINK blocks in HANDSHAKE. -/
  linkGood : Nat
  /-- TICK of the last valid MARK received, and ticks since. -/
  mark     : Nat
  markMiss : Nat
  /-- Round trips in ps of the last 64 MARKs, HOLD taken off, newest first (R310). -/
  delays   : List Int
  /-- The bale being received: header seen and good, errored, runs received, slots by slot × 16 + sample (container + 1), trailer seen, valid. -/
  rxHead   : Bool
  rxErr    : Bool
  rxRuns   : Nat
  rxSlots  : FMap Nat
  rxSlotCount : Nat
  rxTrail  : Bool
  rxValid  : Bool
  /-- Ticks without a bale, and whether BALE_LOST is in force. -/
  miss     : Nat
  lost     : Bool
  /-- The block of the last closed tick, when its bale was valid. -/
  block    : FMap Nat
  /-- The bale being sent: slots scattered in this tick, first slots of the inserted runs sent, runs and slots sent, trailer sent. -/
  tx       : FMap Nat
  sentRuns : List Nat
  txRuns   : Nat
  txSlotCount : Nat
  txTrail  : Bool
  /-- Received runs waiting to be forwarded. -/
  fwd      : List Run
  /-- Bytes sent since the last boundary: control blocks and bale parts, oldest first. -/
  out      : List (List Byte)
  deriving DecidableEq, Repr
def ChainPort.zero : ChainPort := ⟨0, 0, 0, [], false, false, 0, [], 0, false, false, 0, false, [], [], [], 0, 0, false, [], []⟩

/-- The chain ports and the chain map in force for receiving and for sending. -/
structure ChainSt where
  ports : FMap ChainPort
  rxMap : ChainMap
  txMap : ChainMap
  /-- A transmit map that waits for its boundary. -/
  txPend : List (Nat × ChainMap)
  deriving DecidableEq, Repr

/-- The fabric unit beside its registers (R318–R324). -/
structure FabSt where
  /-- Fenced since the last boundary (R323). -/
  fenceOn   : Bool
  /-- Ticks since a valid beacon, and since one with ACTING = 0. -/
  sinceAny  : Nat
  sinceReal : Nat
  /-- The beacon that this tick uses: acting, hops, port; and, until the tick ends, its body with the master's boundary (R320). -/
  used      : Option (Bool × Nat × Nat)
  cand      : Option (List Byte × Int)
  /-- A beacon has been in use before. -/
  had       : Bool
  /-- Consecutive ticks within REJOIN_NS, and the beacon used last lay within it. -/
  rejoin    : Nat
  near      : Bool
  /-- Consecutive ticks without a fence bit while RESUMING. -/
  resume    : Nat
  /-- Ticks since EN or RUN was set. -/
  started   : Nat
  /-- The number that the next boundary takes (R322). -/
  realign   : Option Nat
  /-- The last tick of a stop that a follower follows (R324). -/
  stopAt    : Option Nat
  /-- An acting deputy stops its beacons at the next boundary. -/
  actStop   : Bool
  deriving DecidableEq, Repr
/-- An amplifier channel beside its registers (R329–R345). -/
structure AmpCh where
  /-- Boundaries until a commanded start (0: none). -/
  startIn   : Nat
  stopNext  : Bool
  /-- Boundaries until in-step release may follow a half-duty start. -/
  startLeft : Nat
  /-- Time until the first edge of a half-duty start, in millionths of an AMP cycle (R337). -/
  lead      : Nat
  /-- Boundaries until a retry may follow a trip. -/
  retryLeft : Nat
  /-- Ticks in ACTIVE without a trip. -/
  okTicks   : Nat
  /-- The channel waits for the over-temperature restart of its group. -/
  ot        : Bool
  /-- The channel's trip drops AMP_EN of its group until its retry (R341). -/
  drop      : Bool
  /-- The channel whose trip put this one in RETRY_WAIT. -/
  leader    : Option Nat
  /-- Consecutive ticks with a voltage error above 10 % of VFS (R339). -/
  track     : Nat
  /-- The block scattered in this tick, the block scattered in the tick before, and the limited block that plays in this tick. -/
  out       : Option (List Word)
  prev      : List Word
  play      : List Word
  deriving DecidableEq, Repr
def AmpCh.zero : AmpCh := ⟨0, false, 0, 0, 0, 0, false, false, none, 0, none, [], []⟩

/-- The amplifier block beside its registers. -/
structure AmpSt where
  chans  : FMap AmpCh
  /-- The AMP_MAP in force, and maps that wait for their boundary. -/
  map    : List AmpMapEnt
  txPend : List (Nat × List AmpMapEnt)
  /-- Phase of the stagger reference at the last boundary, AMP cycles (R338). -/
  stagRef : Nat
  deriving DecidableEq, Repr
/-- A heartbeat path (R284): ticks since a valid heartbeat, consecutive ticks with one, and whether one arrived in this tick. -/
structure HbPath where
  miss : Nat
  good : Nat
  got  : Bool
  deriving DecidableEq, Repr

/-- The last valid heartbeat of the partner. -/
structure Beat where
  state  : Nat
  claim  : Bool
  synced : Bool
  fenced : Bool
  twin   : Bool
  tick   : Nat
  digest : Nat
  settle : Nat
  epoch  : Nat
  req    : Nat
  reqTick : Nat
  deriving DecidableEq, Repr

/-- A live input block that the replay buffer holds: its tick, and the gathered containers of each descriptor (R294, R297). -/
structure Captured where
  tick   : Nat
  blocks : List (List (List Word))
  deriving DecidableEq, Repr

/-- The pair unit beside its registers (R278–R303). -/
structure PairSt where
  pathA  : HbPath
  pathB  : HbPath
  beat   : Option Beat
  /-- Ticks since a valid heartbeat with CLAIM = 1. -/
  noClaim : Nat
  /-- Consecutive samples with the line high and no claim seen (R288). -/
  startTicks : Nat
  /-- The claim changes at the next boundary: taken, or released. -/
  claimNext : Bool
  relNext   : Bool
  /-- The claim taken next is a takeover (R289). -/
  takeover  : Bool
  /-- State to return to from ISOLATED or FENCED. -/
  back   : Nat
  /-- A resync: asked for, agreed for T (0: none), as the side that sends, and a transfer has started. -/
  asked  : Bool
  resyncT : Nat
  sender : Bool
  transfer : Bool
  /-- Consecutive failed resyncs, and boundaries until the next request. -/
  fails  : Nat
  retry  : Nat
  /-- The next request of R294 was commanded: CMD_STATUS follows it. -/
  commanded : Bool
  /-- Segments of the shadow to send, and segments received. -/
  toSend : List ShadowSeg
  staged : List ShadowSeg
  /-- Buffered input blocks, oldest first, the block recorded now, and the tick that the replay computes. -/
  buffer : List Captured
  recording : Bool
  replaying : Bool
  /-- A replayed tick is in progress: its tick number. -/
  replayTick : Option Nat
  /-- A handover: the tick H, whether this engine initiated it, and whether it is acknowledged. -/
  hand   : Option Nat
  initiator : Bool
  acked  : Bool
  /-- The claim is to be released 1 µs after H. -/
  handRel : Bool
  /-- Boundaries until a failed revert is tried again. -/
  wtrRetry : Nat
  /-- Consecutive compared ticks that matched, in STANDBY_DEGRADED (R287). -/
  matched : Nat
  /-- Requests for the next heartbeats: code and tick. -/
  req    : Nat
  reqTick : Nat
  /-- Path-B heartbeats from Winnow. -/
  inbox  : List RxFrame
  /-- Path-B heartbeats that count if path A delivers none for their tick (R284). -/
  pendB  : List Beat
  /-- The claim line has been sampled low since start-up began; the tick whose boundary released this engine's claim, plus 1. -/
  lineSeen : Bool
  relTick : Nat
  /-- Silo index of the first record after tick T (R296). -/
  siloT  : Nat
  /-- Shadow segments sent since the last boundary. -/
  shadowOut : List ShadowSeg
  /-- The shadow is loaded and every buffered tick replayed: digests decide the resync (Table 11-4). -/
  loaded : Bool
  /-- One more than the last tick whose digests were compared, and the last ticks whose heartbeat path A delivered (R284, R285). -/
  compared : Nat
  usedA  : List Nat
  deriving DecidableEq, Repr
/-- The pair unit beside its registers, at reset. (DESIGN CHOICE, log 6, unsafe) -/
def PairSt.zero : PairSt :=
  ⟨⟨3, 0, false⟩, ⟨3, 0, false⟩, none, 3, 0, false, false, false, 1, false, 0, false, false, 0, 0, false, [], [], [], false, false, none, none, false, false, false, 0, 0, 0, 0, [], [], false, 0, 0, [], false, 0, []⟩
/-- One hopper beside its registers: its entries, oldest first (a DESC entry is its four words as one number, word 0 lowest),
the last value popped, the words of a descriptor written so far, and the words of a popped descriptor still to be read. -/
structure Hop where
  entries : List Nat
  last    : Nat
  pushBuf : List Nat
  popBuf  : List Nat
  deriving DecidableEq, Repr
def Hop.empty : Hop := ⟨[], 0, [], []⟩

/-- Granary, Gleaner, matrix and LPDDR5 controller beside their registers. -/
structure MemSt where
  /-- Container (4-byte) or line addresses whose stored word has an uncorrectable error: 8-byte Granary words and Marver
  rows by their bus address, LPDDR5 lines by theirs. -/
  bad       : List Nat
  /-- Scrub positions (R352): next Granary word, next LPDDR5 line. -/
  scrubGran : Nat
  scrubDdr  : Nat
  /-- The next march segment (R353). -/
  marchNext : Nat
  /-- Bit h: half h was OFF since it was last ON, so a wake wipes it. -/
  lost      : Nat
  /-- Master each target served last, by target number (R361). -/
  parked    : FMap Nat
  /-- The answers of the last GRANARY_ACCESS on port A and port B, the last LPDDR5 access and the last bus transaction. -/
  respA     : Resp
  respB     : Resp
  respDdr   : Resp
  respBus   : Resp
  /-- Transactions in flight, oldest first: master, address, write (R360). -/
  inflight  : List (Nat × Nat × Bool)
  /-- `DDR.CFG` has been written since reset (access code LK). -/
  ddrLocked : Bool
  deriving DecidableEq, Repr

/-- The PCI Express endpoint beside its registers (R366–R370). -/
structure PcieSt where
  /-- MSI-X table: 256 words by index, 4 per vector: address low, address high, data, control (bit 0 masks). -/
  msix    : FMap Nat
  /-- Pending-bit array. -/
  pba     : Nat
  /-- Vectors whose OR of enabled sources is high. -/
  level   : Nat
  /-- Messages sent: host address and data, oldest first. -/
  sent    : List (Nat × Nat)
  /-- Completion of the last host request. -/
  resp    : Resp
  deriving DecidableEq, Repr
/-- An open shadow window: its consequence set as a 128-bit mask, and boundaries left (R389). -/
structure Shadow where
  set  : Nat
  left : Nat
  deriving DecidableEq, Repr

/-- A reaction waiting for the end of the command that reported the fault (R384). -/
structure React where
  code : Nat
  src  : Nat
  addr : Nat
  deriving DecidableEq, Repr

/-- The fault collector beside its registers. -/
structure FcuSt where
  /-- Reactions written by software, by source × 32 + kind (code + 1; an unlisted pair has its reset reaction). -/
  react   : FMap Nat
  /-- Consequence sets by source, 128-bit masks. -/
  conseq  : FMap Nat
  /-- Last kind, last severity and message count by source (R382). -/
  kind    : FMap Nat
  sev     : FMap Nat
  count   : FMap Nat
  windows : List Shadow
  /-- Reactions reported by the command in progress. -/
  todo    : List React
  /-- FIRST, or LAST, was recorded by the command in progress, so a tie rule applies (R383). -/
  firstNew : Bool
  lastNew  : Bool
  /-- HOLD taken, or its release asked for, from the next boundary (R386). -/
  holdNext : Bool
  relNext  : Bool
  /-- An ERR_N pulse runs (R391). -/
  pulse   : Bool
  deriving DecidableEq, Repr
/-- A log record that waits in Grange SRAM (Table 16-3): tick, time of the selected domain, type and payload. -/
structure LogRec where
  tick : Nat
  sec  : Nat
  ns   : Nat
  type : Nat
  pay  : List Byte
  deriving DecidableEq, Repr

/-- A firmware slot of the NOR: the fields of its package header that the boot uses; `ok` when it holds a complete package. -/
structure FwSlot where
  ok     : Bool
  bytes  : List Byte
  deriving DecidableEq, Repr
def FwSlot.none : FwSlot := ⟨false, []⟩

/-- The Grange beside its registers and memories (R398–R411). -/
structure GrngSt where
  logBuf  : List LogRec
  /-- Records dropped since the last DROPPED record. -/
  dropped : Nat
  /-- The non-maskable fault interrupt of the collector is raised (R387). -/
  nmi     : Bool
  /-- The external NOR: firmware slots A (0) and B (1), the active slot, and its other bytes by offset. -/
  slots   : FMap FwSlot
  active  : Nat
  nor     : FMap Byte
  /-- The NOR answers at boot (R431). -/
  norHere : Bool
  /-- The ROM waits for a package from the host (R401). -/
  waitHost : Bool
  /-- A stage in progress: target word, package, and the command's TAG with whether it came over MGMT. -/
  staging : Option (Nat × List Byte × Nat × Bool)
  /-- Slot that a stage has filled and that UPD_ACTIVATE starts. -/
  staged  : Option Nat
  /-- Working configuration copy: length and bytes. -/
  workLen : Nat
  work    : FMap Byte
  /-- The last answer sent to MGMT: its words. -/
  mgmtAns : List Nat
  /-- The outbound DMA: host address and bytes written, oldest first. -/
  hostOut : List (Nat × List Byte)
  /-- The ROM has run since the last reset (R432), and the firmware slot it took. -/
  booted  : Bool
  bootSlot : Nat
  /-- Payloads of UPDATE records that the next boot writes: a slot whose programming a reset cut off, a roll-back by reset. -/
  owed    : List (List Byte)
  deriving DecidableEq, Repr

/-- The secure area: key slots, and the target of a transition (R409). -/
structure LcsSt where
  keys   : FMap (List Byte)
  target : Nat
  /-- A write of DDR_WIPE_ON_RESET that the MRAM may not have completed (R412): the old value, and the PTP cycles since. -/
  wiping : Option (Nat × Nat)
  deriving DecidableEq, Repr

/-- A sensor beside its registers (R402): the last samples, newest first, consecutive rejections, consecutive plausible readings, and
whether a reading has been accepted since reset. -/
structure SensSt where
  samples : List Int
  rejects : Nat
  goods   : Nat
  had     : Bool
  deriving DecidableEq, Repr
def SensSt.zero : SensSt := ⟨[], 0, 0, false⟩

/-- Supplies and domains beside their registers (R419–R426). -/
structure PwrSt where
  /-- A feed switch between its two pin changes: the incoming feed. -/
  incoming : Option Nat
  /-- FORCE was written during a switch and applies after it. -/
  forceNext : Bool
  /-- Domains and Granary halves as they were before standby. -/
  savedDom : Nat
  savedA   : Nat
  savedB   : Nat
  /-- A PMBus change in progress: target in mV, and whether it raises the supply. -/
  vout     : Option (Nat × Bool)
  /-- Blocks that may still be in reset (R429): FCU source + 128 × hopper, and the PTP cycles since the reset began. -/
  resets   : FMap Nat
  deriving DecidableEq, Repr

/-- The public instructions of the TAP (R447). -/
structure JtagSt where
  ir : TapInstr
  deriving DecidableEq, Repr
/-- The engine. (DESIGN CHOICE, log 2, safe) -/
structure State where
  part    : Part
  pins    : Pins
  /-- Every register field, keyed by its address and lowest bit; an unlisted field holds its reset value. -/
  regs    : FMap Nat
  /-- Every memory of the bus address space by byte address; an unlisted byte is 0. -/
  mem     : FMap Byte
  mem14   : MemSt
  /-- The next free value (the model's own counter: no part of the engine). -/
  free    : Nat
  tick    : TickSt
  cores   : FMap Core
  hops    : FMap Hop
  img     : ImgSt
  bind    : BindSt
  sil     : FMap Sil
  silo    : SiloSt
  marv    : MarvSt
  sap     : SapSt
  net     : NetSt
  strm    : StrmSt
  ptp     : PtpSt
  clk     : ClkSt
  pair    : PairSt
  chain   : ChainSt
  fab     : FabSt
  amp     : AmpSt
  pcie    : PcieSt
  fcu     : FcuSt
  grng    : GrngSt
  lcs     : LcsSt
  sens    : FMap SensSt
  pwr     : PwrSt
  jtag    : JtagSt
  /-- The last delivered sample of every channel (R30), keyed by direction, reference type and index. -/
  held    : FMap Word
  /-- The waiting commands, first in, first out. -/
  pending : List Instr
  deriving DecidableEq, Repr

def Pins.reset : Pins := ⟨0, 0, false, false, 0, 0, false, true, false⟩
def Resp.zero : Resp := ⟨.ok, 0⟩
/-- The tick sequencer beside its registers, at reset. (DESIGN CHOICE, log 6, unsafe) -/
def TickSt.reset : TickSt := ⟨0, 0, false, false, false, false, false, none, false, false, false, [], 0xFFFFFFFF⟩
def ImgSt.reset : ImgSt := ⟨none, none, none, none, none, 0, 0, false, false, 7, none, none, false, false, 0, none⟩
def BindSt.reset : BindSt := ⟨[], [], [], [], [], [], [], none, false, [], [], none, 0, 0, [], 0⟩
def SiloSt.reset : SiloSt := ⟨false, 0, [], [], [], [], [], [], [], 0, 0, false, false, 0⟩
def MarvSt.reset : MarvSt := ⟨[], 0, none, 0, none, [], [], [], 0, false, false, false, [], none, 0, none, [], false⟩
def SapSt.reset : SapSt := ⟨[], [], 0, 0, []⟩
def NetSt.reset : NetSt := ⟨[], [], []⟩
def StrmSt.reset : StrmSt := ⟨[], [], [], [], [], [], [], [], [], [], [], []⟩
def PtpSt.reset : PtpSt := ⟨[], [], [], [], false, 0, []⟩
/-- The clock unit beside its registers, at reset. (DESIGN CHOICE, log 6, unsafe) -/
def ClkSt.reset : ClkSt :=
  ⟨[], 0, 0, false, false, 0, false, false, 0, [], [], false, 0, false, 0, 0, 0, [], 0, 0, 0, 0, [], false, 0, 0, 0, [], []⟩
def ChainSt.reset : ChainSt := ⟨[], ChainMap.empty, ChainMap.empty, []⟩
def FabSt.reset : FabSt := ⟨false, 0, 0, none, none, false, 0, false, 0, 0, none, none, false⟩
def AmpSt.reset : AmpSt := ⟨[], [], [], 0⟩
def MemSt.reset : MemSt := ⟨[], 0, 0, 0, 0, [], Resp.zero, Resp.zero, Resp.zero, Resp.zero, [], false⟩
def PcieSt.reset : PcieSt := ⟨[], 0, 0, [], Resp.zero⟩
def FcuSt.reset : FcuSt := ⟨[], [], [], [], [], [], [], false, false, false, false, false⟩
def GrngSt.reset : GrngSt := ⟨[], 0, false, [], 0, [], false, false, none, none, 0, [], [], [], false, 0, []⟩
def LcsSt.reset : LcsSt := ⟨[], 0, none⟩
def PwrSt.reset : PwrSt := ⟨none, false, 0, 0, 0, none, []⟩
def JtagSt.reset : JtagSt := ⟨.idcode⟩

/-- The engine after power-on reset: every register at its reset value, every memory 0, no image, nothing waiting. (DESIGN CHOICE, log 5, unsafe; DESIGN CHOICE, log 6, unsafe) -/
def State.reset : State :=
  { part := .ai, pins := Pins.reset, regs := [], mem := [], mem14 := MemSt.reset, free := 0, tick := TickSt.reset, cores := [], hops := [],
    img := ImgSt.reset, bind := BindSt.reset, sil := [], silo := SiloSt.reset, marv := MarvSt.reset, sap := SapSt.reset, net := NetSt.reset,
    strm := StrmSt.reset, ptp := PtpSt.reset, clk := ClkSt.reset, pair := PairSt.zero, chain := ChainSt.reset, fab := FabSt.reset,
    amp := AmpSt.reset, pcie := PcieSt.reset, fcu := FcuSt.reset, grng := GrngSt.reset, lcs := LcsSt.reset, sens := [], pwr := PwrSt.reset,
    jtag := JtagSt.reset, held := [], pending := [] }

end Sys2Proof.Machine
end

