-- ==== Sys2Proof/Machine/Ops.lean ====
section
/-!
DEFINITION. The named operations that every family shares: register fields, counters, free values, memory bytes and words,
interrupt bits, fault messages. A block's exception is an interrupt line or an error flag: there is no exception entry.
-/

namespace Sys2Proof.Machine

/-! Register fields -/

/-- The value of a register field in the register store. -/
def State.fld (s : State) (f : Fld) : Nat := FMap.get f.rst s.regs f.key
/-- Set a field, cut to its width. -/
def State.setFld (s : State) (f : Fld) (v : Nat) : State := { s with regs := FMap.set f.rst s.regs f.key (v % f.size) }
/-- A one-bit field as a Bool. -/
def State.bit (s : State) (f : Fld) : Bool := decide (s.fld f ≠ 0)
/-- Set a one-bit field. -/
def State.setBit (s : State) (f : Fld) (b : Bool) : State := s.setFld f (if b then 1 else 0)
/-- Set the bits of a mask in a field. -/
def State.orFld (s : State) (f : Fld) (m : Nat) : State := s.setFld f (s.fld f ||| m)
/-- Clear the bits of a mask in a field. -/
def State.clrFld (s : State) (f : Fld) (m : Nat) : State := s.setFld f (s.fld f - (s.fld f &&& m))
/-- Set bit k of a field. -/
def State.setIrq (s : State) (f : Fld) (k : Nat) : State := s.orFld f (2 ^ k)

/-! Rounding -/

/-- A quotient by a positive integer rounded down, or up where `up` says so: for a mean or a quotient whose rounding the spec does not state. (DEDUCED, log 45, unsafe) -/
def quotient (up : Bool) (a b : Int) : Int := if up then -((-a) / b) else a / b

/-! Free values -/

/-- Take the next free value: nothing constrains it. (DESIGN CHOICE, log 2, safe) -/
def State.takeFree (s : State) : Nat × State := (Config.freeNat s.free, { s with free := s.free + 1 })

/-! Counters -/

/-- Count n events in a counter whose overflow the spec leaves open: past the top of the field the value is free. (DEDUCED, log 67, safe) -/
def State.count (s : State) (f : Fld) (n : Nat) : State :=
  if s.fld f + n < f.size then s.setFld f (s.fld f + n)
  else let (v, s1) := s.takeFree; s1.setFld f v
/-- Count n events in a counter that saturates. (DEDUCED, log 67, safe) -/
def State.countSat (s : State) (f : Fld) (n : Nat) : State := s.setFld f (Nat.min (s.fld f + n) (f.size - 1))

/-! 64-bit pairs and signed numbers -/

/-- A 64-bit value held in two 32-bit fields. -/
def State.reg64 (s : State) (lo hi : Fld) : Nat := s.fld lo + s.fld hi * 0x100000000
/-- Set a 64-bit value in two 32-bit fields. -/
def State.setReg64 (s : State) (lo hi : Fld) (v : Nat) : State := (s.setFld lo (v % 0x100000000)).setFld hi (v / 0x100000000)
/-- A number of `w` bits read as two's complement. -/
def signedOf (w v : Nat) : Int := if v % 2 ^ w < 2 ^ (w - 1) then (v % 2 ^ w : Nat) else (v % 2 ^ w : Nat) - (2 ^ w : Nat)
/-- The two's complement of an integer in `w` bits. -/
def unsignedOf (w : Nat) (i : Int) : Nat := (i % (2 ^ w : Nat)).toNat
/-- A signed field. -/
def State.sfld (s : State) (f : Fld) : Int := signedOf (f.hi + 1 - f.lo) (s.fld f)
/-- Set a signed field. -/
def State.setSFld (s : State) (f : Fld) (i : Int) : State := s.setFld f (unsignedOf (f.hi + 1 - f.lo) i)
/-- Clamp an integer. -/
def clampInt (lo hi i : Int) : Int := if i < lo then lo else if hi < i then hi else i
/-- Bits hi:lo of a number. -/
def bits (v hi lo : Nat) : Nat := v / 2 ^ lo % 2 ^ (hi + 1 - lo)
/-- Bit k of a number. -/
def bitOf (v k : Nat) : Bool := decide (v / 2 ^ k % 2 = 1)
/-- A number with bit k set or cleared. -/
def putBit (v k : Nat) (b : Bool) : Nat := if b then v ||| 2 ^ k else v - (v &&& 2 ^ k)

/-! Memory bytes -/

/-- One byte of the address space, as the memory behind that address holds it; what nothing has written reads as 0. (DESIGN CHOICE, log 5, unsafe) -/
def State.byte (s : State) (a : Nat) : Byte := FMap.get 0 s.mem a
/-- Write one byte. -/
def State.setByte (s : State) (a : Nat) (b : Byte) : State := { s with mem := FMap.set 0 s.mem a b }
/-- `n` bytes from `a` upward. (DESIGN CHOICE, log 5, unsafe) -/
def State.bytes (s : State) (a n : Nat) : List Byte := FMap.getRun 0 s.mem a n
/-- Write bytes from `a` upward. -/
def State.setBytes (s : State) (a : Nat) (bs : List Byte) : State := { s with mem := FMap.setRun 0 s.mem a bs }
/-- Little-endian value of bytes. -/
def leNat : List Byte → Nat
  | [] => 0
  | b :: r => b.toNat + 256 * leNat r
/-- The `n` little-endian bytes of a value. -/
def leBytes : Nat → Nat → List Byte
  | 0, _ => []
  | n + 1, v => BitVec.ofNat 8 v :: leBytes n (v / 256)
/-- Big-endian value of bytes (network order). -/
def beNat (l : List Byte) : Nat := l.foldl (fun acc b => acc * 256 + b.toNat) 0
/-- The `n` big-endian bytes of a value. -/
def beBytes (n v : Nat) : List Byte := (leBytes n v).reverse
/-- Little-endian value of `n` bytes at `a`. -/
def State.le (s : State) (a n : Nat) : Nat := leNat (s.bytes a n)
/-- Write `n` little-endian bytes at `a`. -/
def State.setLe (s : State) (a n v : Nat) : State := s.setBytes a (leBytes n v)
/-- Bytes of a list from offset `o`, `n` of them, as a little-endian number; bytes past the end read as 0. -/
def leAt (l : List Byte) (o n : Nat) : Nat := leNat ((l.drop o).take n)
/-- The same in big-endian order. -/
def beAt (l : List Byte) (o n : Nat) : Nat := beNat ((l.drop o).take n)

/-! The address map (Table 0-5) -/

/-- Base of the Granary. -/
def granBase : Nat := 0x10000000
/-- Bus address of word w of core n's X memory (R5). -/
def xAddr (n w : Nat) : Nat := 0x20000000 + n * 0x80000 + w * 4
/-- Bus address of word w of core n's Y memory. -/
def yAddr (n w : Nat) : Nat := 0x20020000 + n * 0x80000 + w * 4
/-- Bus address of instruction w of core n's P memory. -/
def pAddr (n w : Nat) : Nat := 0x20040000 + n * 0x80000 + w * 8
/-- A 24-bit word of core n's X (space 0) or Y (space 1) memory. -/
def State.coreWord (s : State) (n space w : Nat) : W24 :=
  BitVec.ofNat 24 (s.le (if space = 0 then xAddr n (w % 32768) else yAddr n (w % 32768)) 3)
/-- Write a 24-bit word of core n's X or Y memory. -/
def State.setCoreWord (s : State) (n space w : Nat) (v : W24) : State :=
  s.setLe (if space = 0 then xAddr n (w % 32768) else yAddr n (w % 32768)) 3 v.toNat
/-- An instruction word of core n's P memory. -/
def State.pWord (s : State) (n w : Nat) : IWord := BitVec.ofNat 48 (s.le (pAddr n (w % 16384)) 6)
/-- Write an instruction word of core n's P memory. -/
def State.setPWord (s : State) (n w : Nat) (v : IWord) : State := s.setLe (pAddr n (w % 16384)) 6 v.toNat

/-! Cores -/

def State.core (s : State) (n : Nat) : Core := FMap.get Core.zero s.cores n
def State.setCore (s : State) (n : Nat) (k : Core) : State := { s with cores := FMap.set Core.zero s.cores n k }

/-! Fault messages (R379–R384) -/

/-- Severity of a source and kind, Table 15-1; 4 for a pair the table does not list. -/
def severityOf (src kind : Nat) : Nat :=
  if src = 0 then (if kind = 1 ∨ kind = 2 then 3 else 4)
  else if src = 1 then (if 1 ≤ kind ∧ kind ≤ 3 then 2 else 4)
  else if src = 2 then (if kind = 1 then 1 else if kind = 2 then 0 else 4)
  else if src = 3 then (if kind = 1 ∨ kind = 2 then 0 else 4)
  else if src = 4 then (if kind = 1 then 0 else if kind = 2 ∨ kind = 3 then 2 else if kind = 4 then 1 else 4)
  else if src = 5 then (if kind = 1 ∨ kind = 2 then 1 else if kind = 3 then 0 else 4)
  else if src ≤ 21 then (if 1 ≤ kind ∧ kind ≤ 4 then 2 else 4)
  else if src ≤ 25 then (if kind = 1 ∨ kind = 3 then 1 else if kind = 2 then 0 else 4)
  else if src = 26 then (if kind = 1 then 1 else if kind = 2 then 0 else 4)
  else if src = 27 then (if kind = 1 ∨ kind = 2 then 1 else 4)
  else if src = 28 then (if kind = 1 then 1 else if kind = 2 then 2 else if kind = 3 then 0 else 4)
  else if src = 29 then (if 1 ≤ kind ∧ kind ≤ 3 then 1 else if kind = 4 ∨ kind = 5 then 2 else 4)
  else if src = 30 then (if kind = 1 ∨ kind = 4 ∨ kind = 5 then 2 else if kind = 2 ∨ kind = 3 ∨ kind = 6 then 1 else 4)
  else if src ≤ 33 then (if 1 ≤ kind ∧ kind ≤ 3 then 2 else 4)
  else if src = 34 then (if kind = 1 ∨ kind = 3 then 2 else if kind = 2 then 0 else if kind = 4 then 1 else 4)
  else if src ≤ 42 then (if 1 ≤ kind ∧ kind ≤ 4 then 2 else if kind = 5 then 0 else 4)
  else if src = 43 then (if kind = 1 then 2 else 4)
  else if src = 44 then (if kind = 1 then 0 else if kind = 2 ∨ kind = 3 then 2 else 4)
  else if src = 45 then (if kind = 1 then 2 else 4)
  else if src = 46 then (if 1 ≤ kind ∧ kind ≤ 3 then 0 else 4)
  else if src = 47 then (if (1 ≤ kind ∧ kind ≤ 11) ∨ kind = 16 ∨ kind = 17 then 2 else 4)
  else if src = 48 then (if kind = 1 then 0 else if kind = 2 then 2 else if kind = 3 then 3 else 4)
  else if src = 49 then (if kind = 1 ∨ kind = 2 then 1 else 4)
  else if src = 50 then (if 1 ≤ kind ∧ kind ≤ 3 then 2 else 4)
  else if src = 51 then (if kind = 1 then 1 else if kind = 2 then 3 else 4)
  else if src = 52 then (if kind = 1 ∨ kind = 3 then 2 else if kind = 2 then 3 else if kind = 4 then 1 else 4)
  else if src = 53 then (if kind = 1 ∨ kind = 2 then 0 else if kind = 3 ∨ kind = 4 then 2 else 4)
  else if 64 ≤ src ∧ src ≤ 127 then (if kind = 1 ∨ kind = 3 then 2 else if kind = 2 then 1 else 4)
  else 4

/-- The reaction of a source and kind: software's, or the reset reaction by severity (R384). -/
def State.reactionOf (s : State) (src kind : Nat) : Nat :=
  let sev := severityOf src kind
  if sev = 4 then 0 else if sev = 3 then 4
  else
    let w := FMap.get 0 s.fcu.react (src * 32 + kind)
    if w = 0 then (if sev = 0 then 0 else 1) else w - 1

/-- Is a source covered by an open shadow window (R389)? -/
def State.shadowed (s : State) (src : Nat) : Bool := s.fcu.windows.any (fun w => decide (w.left ≠ 0) && bitOf w.set src)

/-- The sticky register of a source. -/
def stickyOf (src : Nat) : Fld := R.FCU_STICKY (src / 32)

/-- Write the FIRST record (R383). -/
def State.putFirst (s : State) (src kind sev addr : Nat) (inj : Bool) : State :=
  (((((((s.setFld R.FCU_FIRST_LO (addr % 0x100000000)).setFld R.FCU_FIRST_HI_ADDR_HI (addr / 0x100000000)).setFld
    R.FCU_FIRST_HI_SOURCE src).setFld R.FCU_FIRST_HI_KIND kind).setFld R.FCU_FIRST_HI_SEV sev).setBit
    R.FCU_FIRST_HI_INJ inj).setFld R.FCU_FIRST_HI_VALID 1).setReg64
    R.FCU_FIRST_TICK_LO R.FCU_FIRST_TICK_HI s.tick.num
/-- Write the LAST record (R383). -/
def State.putLast (s : State) (src kind sev addr : Nat) (inj : Bool) : State :=
  ((((((s.setFld R.FCU_LAST_LO (addr % 0x100000000)).setFld R.FCU_LAST_HI_ADDR_HI (addr / 0x100000000)).setFld
    R.FCU_LAST_HI_SOURCE src).setFld R.FCU_LAST_HI_KIND kind).setFld R.FCU_LAST_HI_SEV sev).setBit
    R.FCU_LAST_HI_INJ inj).setFld R.FCU_LAST_HI_VALID 1

/-- Offer a record to the Grange's log (R394, R404): buffered with the tick number and the selected domain's time, or dropped and counted
when 256 wait. -/
def State.logOffer (s : State) (type : Nat) (pay : List Byte) : State :=
  if s.grng.logBuf.length < 256 then
    let ns := FMap.get 0 s.ptp.cnt (s.fld R.TIME_STATUS_SEL_CUR) / 0x40000000
    { s with grng := { s.grng with logBuf := s.grng.logBuf ++ [⟨s.tick.num, ns / 1000000000, ns % 1000000000, type, pay⟩] } }
  else { s with grng := { s.grng with dropped := s.grng.dropped + 1 } }.count R.GRNG_LOG_DROP 1

/-- The high word of a message as `FCU.LAST_HI` holds it. -/
def faultWord (src kind sev addr : Nat) (inj : Bool) : Nat :=
  0x80000000 + (if inj then 0x40000000 else 0) + sev * 0x10000000 + kind * 0x800000 + src * 0x10000 + addr / 0x100000000 % 16
/-- Record a message in STICKY, SRC_INFO, LAST and the log (R382, R383, R394); `kind` is 31 for a shadowed one. Within one command
the message that the tie rule ranks lowest stays in LAST. -/
def State.fcuRecord (s : State) (src kind sev addr : Nat) (inj : Bool) : State :=
  let s1 := s.setIrq (stickyOf src) (src % 32)
  let s2 := (s1.count R.FCU_MSG_CNT 1)
  let s3 := { s2 with fcu := { s2.fcu with
      kind := FMap.set 0 s2.fcu.kind src kind, sev := FMap.set 0 s2.fcu.sev src sev,
      count := FMap.set 0 s2.fcu.count src (Nat.min (FMap.get 0 s2.fcu.count src + 1) 0xFFFF) } }
  let keepLast := s3.fcu.lastNew &&
    (decide (s3.fld R.FCU_LAST_HI_SEV < sev) ||
     (decide (s3.fld R.FCU_LAST_HI_SEV = sev) && decide (src < s3.fld R.FCU_LAST_HI_SOURCE)))
  let s4 := if keepLast then s3 else s3.putLast src kind sev addr inj
  let s5 := { s4 with fcu := { s4.fcu with lastNew := true } }
  s5.logOffer 1 (leBytes 4 (addr % 0x100000000) ++ leBytes 4 (faultWord src kind sev addr inj))

/-- Does a message replace or take the FIRST record (R383)? -/
def State.takesFirst (s : State) (src sev : Nat) : Bool :=
  !s.bit R.FCU_FIRST_HI_VALID ||
  (s.fcu.firstNew && (decide (s.fld R.FCU_FIRST_HI_SEV < sev) ||
    (decide (s.fld R.FCU_FIRST_HI_SEV = sev) && decide (src < s.fld R.FCU_FIRST_HI_SOURCE))))

/-- A fault message reaches the collector (R379–R394). Its reaction beyond the interrupt waits in `fcu.todo` for the end of the
command, within whose time the collector's 4 cycles fall. (DEDUCED, log 52, unsafe) -/
def State.fcuInj (s : State) (src kind addr : Nat) (inj : Bool) : State :=
  let sev := severityOf src kind
  if sev = 4 then s
  else if s.shadowed src && decide (sev ≠ 3) then
    ((s.fcuRecord src 31 sev addr inj).count R.FCU_SHADOW_CNT 1).setIrq R.FCU_IRQ_STATUS 2
  else
    let s1 := s.fcuRecord src kind sev addr inj
    let s2 := if s1.takesFirst src sev then
        let t := s1.putFirst src kind sev addr inj
        { t with fcu := { t.fcu with firstNew := true } }
      else s1
    let r := s2.reactionOf src kind
    let s3 := if r = 0 then s2 else s2.setIrq R.FCU_IRQ_STATUS 0
    let s4 := if r ≥ 2 then { s3 with fcu := { s3.fcu with todo := s3.fcu.todo ++ [⟨r, src, addr⟩] } } else s3
    if r ≠ 0 ∧ 2 ≤ sev then
      let s5 := { s4 with fcu := { s4.fcu with pulse := true } }
      if s5.bit R.FCU_CTRL then s5.setFld R.FCU_ERR_HOLD 1 else s5
    else s4

/-- A fault message that injection did not cause. -/
def State.fcu' (s : State) (src kind addr : Nat) : State := s.fcuInj src kind addr false

/-- Is checker c armed (R392)? (DEDUCED, log 53, unsafe) -/
def State.injArmed (s : State) (c : Nat) : Bool := s.bit R.FCU_INJECT_ARMED && decide (s.fld R.FCU_INJECT_CHECKER = c)
/-- The armed checker has made its check: ARMED clears, DONE sets (R392). (DEDUCED, log 53, unsafe) -/
def State.injDone (s : State) : State := ((s.setFld R.FCU_INJECT_ARMED 0).setFld R.FCU_INJECT_DONE 1).setIrq R.FCU_IRQ_STATUS 3

/-! Fencing and holding (R323, R386) -/

/-- An engine that the fabric unit has fenced, from a boundary on (R32, R323). -/
def State.fenced (s : State) : Bool := s.fab.fenceOn
/-- Outputs are held-last: output hold or safe state (R386, R387). -/
def State.outHeld (s : State) : Bool := s.bit R.FCU_STATUS_HOLDING || s.bit R.FCU_STATUS_SAFE

/-! Armed actions (R19) -/

/-- Has an action armed for tick n come due at the boundary whose number is t? -/
def due (armed : Bool) (n t : Nat) : Bool := armed && decide (n ≤ t)

/-- Samples per tick of a RATE code: 4, 8 or 16 (R15). -/
def samplesOf (rate : Nat) : Nat := if rate = 0 then 4 else if rate = 1 then 8 else 16

/-- Is power domain d on (`PWR.DOM_STATUS`, R418)? -/
def State.domOn (s : State) (d : Nat) : Bool := bitOf (s.fld R.PWR_DOM_STATUS_ON) d

end Sys2Proof.Machine
end

