-- ==== Sys2Proof/Machine/BindRef.lean ====
section
/-!
DEFINITION. The running image and the fields of Binder descriptors (R125–R128): which words a descriptor covers, for which cores and
sheaves.
-/

namespace Sys2Proof.Machine

/-- The image in a slot (0: A, 1: B). -/
def State.slotImage (s : State) (slot : Nat) : Option Image := if slot = 0 then s.img.slotA else s.img.slotB
/-- The running image (R103). -/
def State.image (s : State) : Option Image :=
  match s.img.running with
  | some sl => s.slotImage sl
  | none => none
/-- Samples per tick of the running image; of a 96 kHz image while none runs (`TICK.STATUS.RATE` resets to 1). -/
def State.nsmp (s : State) : Nat := samplesOf (s.fld R.TICK_STATUS_RATE)
/-- Does core n have a program in this image? -/
def Image.has (i : Image) (n : Nat) : Bool := bitOf i.coreMask n
/-- Does core n have a program in the running image? -/
def State.hasProgram (s : State) (n : Nat) : Bool :=
  match s.image with
  | some i => i.has n
  | none => false
/-- The declaration of core n in the running image. -/
def State.decl (s : State) (n : Nat) : CoreDecl :=
  match s.image with
  | some i => FMap.get CoreDecl.none i.cores n
  | none => CoreDecl.none

/-! Descriptor fields (Table 5-2) -/

def refType (r : Nat) : Nat := bits r 31 28
def refIndex (r : Nat) : Nat := bits r 27 0
def Desc.cast (d : Desc) : Nat := bits d.w1 31 30
def Desc.origin (d : Desc) : Nat := bits d.w1 31 30
def Desc.core (d : Desc) : Nat := bits d.w1 29 24
def Desc.space (d : Desc) : Nat := bits d.w1 23 23
def Desc.addr (d : Desc) : Nat := bits d.w1 14 0
def Desc.driver (d : Desc) : Nat := bits d.w1 7 0
def Desc.sheaf (d : Desc) : Nat := bits d.w2 31 21
def Desc.stride (d : Desc) : Nat := bits d.w2 20 13
def Desc.count (d : Desc) : Nat := bits d.w2 12 7
def Desc.layout (d : Desc) : Nat := bits d.w2 6 5
def Desc.last (d : Desc) : Bool := bitOf d.w2 0
def Desc.delay (d : Desc) : Nat := bits d.w3 23 0
/-- Channel c's reference index. -/
def Desc.index (d : Desc) (c : Nat) : Nat := refIndex d.w0 + c * d.stride

/-- The window word of channel c, sample n (Table 5-3). -/
def windowWord (d : Desc) (nsmp c n : Nat) : Nat :=
  if d.layout = 0 then d.addr + 2 * nsmp * (c / 2) + 2 * n + c % 2
  else if d.layout = 1 then d.addr + nsmp * c + n
  else d.addr + d.count * n + c
/-- Every window word of a descriptor, channel by channel. -/
def windowWords (d : Desc) (nsmp : Nat) : List Nat :=
  (List.range d.count).flatMap (fun c => (List.range nsmp).map (fun n => windowWord d nsmp c n))

/-- The cores a gather descriptor writes, ascending: the set of CAST, cut to cores with a program when it is a set (R128). -/
def castCores (d : Desc) (has : Nat → Bool) : List Nat :=
  if d.cast = 0 then [d.core]
  else if d.cast = 1 then ((List.range 16).map (fun i => d.core / 16 * 16 + i)).filter has
  else (List.range 64).filter has
/-- The cores of a gather descriptor with the sheaf each takes (R128). -/
def castSheaves (d : Desc) (has : Nat → Bool) : List (Nat × Nat) :=
  (castCores d has).zipIdx.map (fun p => (p.1, d.sheaf + p.2))

/-- Key of a core's sheaf in the bound list. -/
def sheafKey (core sheaf : Nat) : Nat := core * 4096 + sheaf
/-- Does a word of core n lie in the input window of a sheaf that is not yet bound (R70)? -/
def State.unbound (s : State) (n space w : Nat) : Bool :=
  s.bind.gather.any (fun d =>
    decide (d.space = space) &&
    (castSheaves d s.hasProgram).any (fun p => decide (p.1 = n) && !s.bind.bound.contains (sheafKey n p.2)) &&
    (windowWords d s.nsmp).contains w)

end Sys2Proof.Machine
end

