-- ==== Sys2Proof/Machine/Mem.lean ====
section
/-!
DEFINITION. Granary (R347–R351), hoppers (R355–R358) and LPDDR5 (R364, R365) accesses, with their error checks, and which memory
a bus address reaches (R5, R359).
-/

namespace Sys2Proof.Machine

/-- Do two runs of bytes meet? -/
def overlap (a n b m : Nat) : Bool := decide (0 < n) && decide (0 < m) && decide (a < b + m) && decide (b < a + n)

/-! Granary -/

/-- The half of a Granary byte address: 0 half A, 1 half B (R347). -/
def granHalf (a : Nat) : Nat := a / 0x1000000 % 2
/-- State of a half: 0 ON, 1 RETAIN, 2 OFF, 3 WAKING, 4 WIPING (R351). -/
def State.halfState (s : State) (h : Nat) : Nat :=
  if h = 0 then s.fld R.GRAN_PWR_STATUS_A_STATE else s.fld R.GRAN_PWR_STATUS_B_STATE
/-- A half changes state; its domain (7 or 8) is on unless the half is OFF or powering up (R423). -/
def State.setHalfState (s : State) (h v : Nat) : State :=
  (if h = 0 then s.setFld R.GRAN_PWR_STATUS_A_STATE v else s.setFld R.GRAN_PWR_STATUS_B_STATE v).setFld R.PWR_DOM_STATUS_ON
    (putBit (s.fld R.PWR_DOM_STATUS_ON) (7 + h) (decide (v ≠ 2)))
/-- The 64-bit word of a Granary byte address. -/
def granWordOf (a : Nat) : Nat := a / 8 % 0x400000
/-- Address of the 64-bit word. -/
def granAlign (a : Nat) : Nat := a / 8 * 8
/-- Is the word marked as holding an uncorrectable error? -/
def State.isBad (s : State) (a : Nat) : Bool := s.mem14.bad.contains a
def State.markBad (s : State) (a : Nat) : State :=
  if s.isBad a then s else { s with mem14 := { s.mem14 with bad := a :: s.mem14.bad } }
def State.clearBad (s : State) (a : Nat) : State := { s with mem14 := { s.mem14 with bad := s.mem14.bad.filter (fun b => b != a) } }

/-- An uncorrectable or power error of a Granary access: recorded, counted and reported (R348, R351). `kind` 0 ECC, 1 POWER. -/
def State.granError (s : State) (port kind a : Nat) (inj : Bool) : State :=
  let s1 := ((s.setFld R.GRAN_ERR_ADDR (granWordOf a)).setFld R.GRAN_ERR_INFO_KIND kind).setFld R.GRAN_ERR_INFO_PORT port
  let s2 := if kind = 0 then (s1.count R.GRAN_ECC_UE 1).setIrq R.GRAN_IRQ_STATUS 1 else s1.setIrq R.GRAN_IRQ_STATUS 2
  s2.fcuInj 44 (if kind = 0 then 2 else 3) a inj

/-- Is the address in the segment that the spare repairs (R354)? -/
def State.inSpare (s : State) (a : Nat) : Bool :=
  s.bit R.GLEAN_STATUS_REPAIRED && decide (a / 4096 = s.fld R.GLEAN_FAIL_ADDR / 4096)

/-- The check of one 64-bit word that a port reads: `flip` is the error the check finds in it now (0 none, 1 single-bit, 2 double-bit).
Answers whether the data is good. (DEDUCED, log 11, safe) -/
def State.granCheck (s : State) (port a flip : Nat) : Bool × State :=
  let w := granAlign a
  if s.halfState (granHalf a) ≠ 0 then (false, s.granError port 1 w false)
  else if s.injArmed port then (false, (s.granError port 0 w true).injDone)
  else if s.inSpare a && s.injArmed 5 then (false, (s.granError port 0 w true).injDone)
  else if s.isBad w then (false, s.granError port 0 w false)
  else if 2 ≤ flip then (false, (s.markBad w).granError port 0 w false)
  else if flip = 1 then (true, ((s.count R.GRAN_ECC_CE 1).setIrq R.GRAN_IRQ_STATUS 0).fcu' 44 1 w)
  else (true, s)

/-- Read one 32-bit container. -/
def State.granRead (s : State) (port a flip : Nat) : Bool × Word × State :=
  match s.granCheck port a flip with
  | (true, s1) => (true, BitVec.ofNat 32 (s.le a 4), s1)
  | (false, s1) => (false, 0, s1)
/-- Write bytes that lie in one 64-bit word: a whole word replaces it and clears an error; a narrower write is a read-modify-write and is
not performed on a word with a double-bit error (R348). -/
def State.granWrite (s : State) (port a : Nat) (bs : List Byte) (flip : Nat) : Bool × State :=
  if s.halfState (granHalf a) ≠ 0 then (false, s.granError port 1 (granAlign a) false)
  else if a % 8 = 0 ∧ bs.length = 8 then (true, (s.setBytes a bs).clearBad a)
  else match s.granCheck port a flip with
    | (true, s1) => (true, s1.setBytes a bs)
    | (false, s1) => (false, s1)
/-- Write one 32-bit container. -/
def State.granWrite32 (s : State) (port a : Nat) (w : Word) (flip : Nat) : Bool × State :=
  s.granWrite port a (leBytes 4 w.toNat) flip

/-- Does the running or a READY image declare a Granary half (R104, R351)? -/
def State.halfDeclared (s : State) (h : Nat) : Bool :=
  let uses (i : Option Image) : Bool := match i with | some im => bitOf im.flags (1 + h) | none => false
  uses s.img.slotA || uses s.img.slotB
/-- A request for a half's state (R351): 3 is ignored, RETAIN and OFF of a declared half are refused. (DEDUCED, log 64, unsafe) -/
def State.halfRequest (s : State) (h v : Nat) : State :=
  if v = 3 then s
  else if v ≠ 0 && s.halfDeclared h then s.setFld R.GRAN_PWR_STATUS_REFUSED 1
  else
    let s1 := if h = 0 then s.setFld R.GRAN_PWR_A_REQ v else s.setFld R.GRAN_PWR_B_REQ v
    let st := s.halfState h
    if v = 0 then (if st = 1 ∨ st = 2 then s1.setHalfState h 3 else s1)
    else if v = 1 then s1.setHalfState h 1
    else
      let gone (a : Nat) : Bool := decide (granBase ≤ a) && decide (a < granBase + 0x2000000) && decide (granHalf a = h)
      let m := { s1.mem14 with bad := s1.mem14.bad.filter (fun a => !gone a), lost := putBit s1.mem14.lost h true }
      { s1 with mem := s1.mem.drop gone, mem14 := m }.setHalfState h 2

/-! Hoppers -/

def State.hop (s : State) (n : Nat) : Hop := FMap.get Hop.empty s.hops n
def State.setHop (s : State) (n : Nat) (h : Hop) : State := { s with hops := FMap.set Hop.empty s.hops n h }
def State.hopEn (s : State) (n : Nat) : Bool := s.bit (R.HOP_Q_CFG_EN n)
/-- Entries an agent that tests first sees; none in a disabled hopper (R355, R181). (DEDUCED, log 14, unsafe) -/
def State.hopCount (s : State) (n : Nat) : Nat := if s.hopEn n then (s.hop n).entries.length else 0
/-- Free entries an agent that tests first sees. -/
def State.hopRoom (s : State) (n : Nat) : Nat := if s.hopEn n then s.fld (R.HOP_Q_CFG_DEPTH n) - (s.hop n).entries.length else 0
/-- Words per entry: 4 for DESC, else 1. -/
def State.hopWords (s : State) (n : Nat) : Nat := if s.fld (R.HOP_Q_CFG_USE n) = 2 then 4 else 1

/-- A hopper error flag with its fault message (Table 15-1). -/
def State.hopFlag (s : State) (n : Nat) (f : Fld) (kind : Nat) : State := (s.setFld f 1).fcu' 46 kind n
/-- The level test after a push: from below LEVEL to LEVEL or above (R356). -/
def State.hopLevel (s : State) (n before after : Nat) : State :=
  let lv := s.fld (R.HOP_Q_LEVEL n)
  if lv ≠ 0 ∧ before < lv ∧ lv ≤ after then
    (if n < 32 then s.setIrq R.HOP_LEVEL_LO n else s.setIrq R.HOP_LEVEL_HI (n - 32))
  else s
/-- The entry of a hopper whose storage lies in the Granary, written there: little-endian, in the slot that the hopper's pointer names. The spec does not
say where the pointer starts: the slot is free. (DEDUCED, log 22, unsafe) -/
def State.hopStore (s : State) (n entry : Nat) : State :=
  if s.bit (R.HOP_Q_CFG_MEM n) then
    let (k, s1) := s.takeFree
    let bytes := 4 * s.hopWords n
    s1.setBytes (granBase + 8 * s.fld (R.HOP_Q_BASE n) + bytes * (k % Nat.max 1 (s.fld (R.HOP_Q_CFG_DEPTH n)))) (leBytes bytes entry)
  else s
/-- The word of `HOP.Qn_CFG` with EN set. -/
def State.hopEnWord (s : State) (n : Nat) : Nat :=
  s.fld (R.HOP_Q_CFG_DEPTH n) + s.fld (R.HOP_Q_CFG_MEM n) * 2 ^ 27 + s.fld (R.HOP_Q_CFG_CLK n) * 2 ^ 28 + s.fld (R.HOP_Q_CFG_USE n) * 2 ^ 29 + 2 ^ 31
/-- An agent pushes an entry. In independent-clock mode `lag` is how many freed slots the pushing side does not see yet (R358). (DEDUCED, log 22, unsafe) -/
def State.hopPush (s : State) (n entry lag : Nat) : State :=
  let h := s.hop n
  let hidden := if s.bit (R.HOP_Q_CFG_CLK n) then lag else 0
  if !s.hopEn n || decide (s.fld (R.HOP_Q_CFG_DEPTH n) ≤ h.entries.length + hidden) then
    s.hopFlag n (R.HOP_Q_STATUS_OVERFLOW n) 2
  else ((s.setHop n { h with entries := h.entries ++ [entry] }).hopStore n entry).hopLevel n (h.entries.length + hidden) (h.entries.length + hidden + 1)
/-- An agent pops an entry. `lag` is how many pushed entries the popping side does not see yet. (DEDUCED, log 22, unsafe) -/
def State.hopPop (s : State) (n lag : Nat) : Nat × State :=
  let h := s.hop n
  let hidden := if s.bit (R.HOP_Q_CFG_CLK n) then lag else 0
  if !s.hopEn n || decide (h.entries.length ≤ hidden) then
    (h.last, s.hopFlag n (R.HOP_Q_STATUS_UNDERRUN n) 1)
  else match h.entries with
    | [] => (h.last, s)
    | e :: r => (e, s.setHop n { h with entries := r, last := e })
/-- Empty a hopper: entries gone, last value 0 (R355, R429). -/
def State.hopClear (s : State) (n : Nat) : State := s.setHop n Hop.empty
/-- Does the storage that the configuration names fit its memory, in halves that are ON (R355)? -/
def State.hopFits (s : State) (n : Nat) : Bool :=
  let base := s.fld (R.HOP_Q_BASE n)
  let words := s.fld (R.HOP_Q_CFG_DEPTH n) * s.hopWords n
  if s.bit (R.HOP_Q_CFG_MEM n) then
    let last := base + (words + 1) / 2 - 1
    decide (last < 0x400000) && decide (s.halfState (base / 0x200000) = 0) && decide (s.halfState (last / 0x200000) = 0)
  else decide (base + words ≤ 131072)
/-- May a hopper be enabled as configured (R355)? -/
def State.hopCfgOk (s : State) (n : Nat) : Bool :=
  let d := s.fld (R.HOP_Q_CFG_DEPTH n)
  decide (2 ≤ d) && decide (d ≤ 65536) && decide (s.fld (R.HOP_Q_CFG_USE n) ≠ 3) &&
  !(decide (s.fld (R.HOP_Q_CFG_USE n) = 1) && !s.bit (R.HOP_Q_CFG_CLK n)) && s.hopFits n
/-- Set EN: empties the hopper, or is refused with CFG_ERR (R355). -/
def State.hopEnable (s : State) (n : Nat) : State :=
  if s.hopEn n then s
  else if s.hopCfgOk n then (s.hopClear n).setFld (R.HOP_Q_CFG_EN n) 1
  else (s.setFld (R.HOP_Q_STATUS_CFG_ERR n) 1).fcu' 46 3 n
/-- HOPPER_ENABLE: an enabled hopper stays as it is. -/
def State.hopperEnable (s : State) (n : Nat) : State := if s.hopEn n then s else s.hopEnable n
/-- Clear EN: the entries are kept until EN is set again. -/
def State.hopDisable (s : State) (n : Nat) : State := s.setFld (R.HOP_Q_CFG_EN n) 0
/-- A write of `HOP.Qn_PUSH`: an entry, or on a DESC hopper one word of a descriptor, pushed with the fourth (R356). -/
def State.hopPushWrite (s : State) (n : Nat) (w : Nat) : State :=
  if s.hopWords n = 1 then s.hopPush n w 0
  else
    let h := s.hop n
    let b := h.pushBuf ++ [w]
    if b.length < 4 then s.setHop n { h with pushBuf := b }
    else (s.setHop n { h with pushBuf := [] }).hopPush n (b.foldr (fun v acc => v + 0x100000000 * acc) 0) 0
/-- A read of `HOP.Qn_POP` (R356). -/
def State.hopPopRead (s : State) (n : Nat) : Nat × State :=
  if s.hopWords n = 1 then s.hopPop n 0
  else
    match (s.hop n).popBuf with
    | w :: r => (w, s.setHop n { s.hop n with popBuf := r })
    | [] =>
      let (e, s1) := s.hopPop n 0
      (e % 0x100000000, s1.setHop n { s1.hop n with
        popBuf := [e / 0x100000000 % 0x100000000, e / 0x10000000000000000 % 0x100000000, e / 0x1000000000000000000000000 % 0x100000000] })

/-! LPDDR5 -/

def ddrBase : Nat := 0x100000000
/-- Fitted capacity in bytes (`DDR.CFG.SIZE`, Table 14-13). -/
def State.ddrSize (s : State) : Nat :=
  match s.fld R.DDR_CFG_SIZE with
  | 1 => 0x80000000
  | 2 => 0x100000000
  | 3 => 0x200000000
  | 4 => 0x400000000
  | _ => 0
/-- Is a bus address in fitted LPDDR5? -/
def State.inDdr (s : State) (a : Nat) : Bool := decide (ddrBase ≤ a) && decide (a < ddrBase + s.ddrSize)
/-- An uncorrectable line: counted, recorded and reported (R365). -/
def State.ddrError (s : State) (line : Nat) (inj : Bool) : State :=
  (((s.count R.DDR_ECC_UE 1).setReg64 R.DDR_ERR_ADDR_LO R.DDR_ERR_ADDR_HI line).setIrq R.DDR_IRQ_STATUS 1).fcuInj 48 2 line inj
/-- The check of a line that a read or a narrow write reads. -/
def State.ddrCheck (s : State) (a flip : Nat) : Bool × State :=
  let line := a / 64 * 64
  if s.injArmed 4 then (false, (s.ddrError line true).injDone)
  else if s.isBad line then (false, s.ddrError line false)
  else if 2 ≤ flip then (false, (s.markBad line).ddrError line false)
  else if flip = 1 then (true, ((s.count R.DDR_ECC_CE 1).setIrq R.DDR_IRQ_STATUS 0).fcu' 48 1 line)
  else (true, s)
/-- Write bytes that lie in one line: a whole aligned line replaces it; a narrower one is a read-modify-write (R365). -/
def State.ddrWrite (s : State) (a : Nat) (bs : List Byte) (flip : Nat) : Bool × State :=
  if a % 64 = 0 ∧ bs.length = 64 then (true, (s.setBytes a bs).clearBad a)
  else match s.ddrCheck a flip with
    | (true, s1) => (true, s1.setBytes a bs)
    | (false, s1) => (false, s1)

/-! Block accesses of the engine's own masters -/

/-- An error of the matrix is recorded, counted and reported (R362): KIND 0 DECODE, 1 TIMEOUT, 2 RESET_ABORT. -/
def State.busError (s : State) (kind master addr : Nat) (write : Bool) : State :=
  let s1 := (s.setFld R.BUSM_ERR_ADDR (addr % 0x100000000)).setFld R.BUSM_ERR_INFO_ADDR_HI (addr / 0x100000000)
  let s2 := ((s1.setFld R.BUSM_ERR_INFO_KIND kind).setFld R.BUSM_ERR_INFO_MASTER master).setBit R.BUSM_ERR_INFO_WRITE write
  ((s2.count R.BUSM_ERR_CNT 1).setIrq R.BUSM_IRQ_STATUS kind).fcu' 47 (if kind = 0 then master + 1 else 15 + kind) addr
/-- The Granary port of a master (Table 14-1). -/
def granPortOf (m : Nat) : Nat :=
  if 3 ≤ m ∧ m ≤ 6 then m - 3 else if m = 2 then 4 else if m = 8 ∨ m = 10 then 5 else if m = 7 ∨ m = 9 then 6 else 7
/-- The bank port, 0 A or 1 B, that serves a master (Table 14-1). -/
def bankPortOf (m : Nat) : Nat := if granPortOf m < 4 then 0 else 1

/-- Is an address in the Granary? -/
def inGran (a : Nat) : Bool := decide (granBase ≤ a) && decide (a < granBase + 0x2000000)
/-- The bytes of an address run cut at unit boundaries (8 for the Granary, 64 for LPDDR5). Fuel: one unit each. -/
def chunks {α : Type} (unit : Nat) : Nat → Nat → List α → List (Nat × List α)
  | 0, _, _ => []
  | _, _, [] => []
  | fuel + 1, a, bs =>
    let n := unit - a % unit
    (a, bs.take n) :: chunks unit fuel (a + n) (bs.drop n)
/-- The unit addresses that a run of `n` bytes touches. -/
def unitsOf (unit a n : Nat) : List Nat :=
  if n = 0 then [] else (List.range ((a + n - 1) / unit - a / unit + 1)).map (fun i => (a / unit + i) * unit)
/-- Check every unit of a read; `flip` is found in the first one. -/
def State.checkUnits (s : State) (chk : State → Nat → Nat → Bool × State) (flip : Nat) : List Nat → Bool × State
  | [] => (true, s)
  | u :: r =>
    let (ok, s1) := chk s u flip
    let (ok2, s2) := s1.checkUnits chk 0 r
    (ok && ok2, s2)
/-- Write every chunk. -/
def State.writeChunks (s : State) (wr : State → Nat → List Byte → Bool × State) : List (Nat × List Byte) → Bool × State
  | [] => (true, s)
  | (a, bs) :: r =>
    let (ok, s1) := wr s a bs
    let (ok2, s2) := s1.writeChunks wr r
    (ok && ok2, s2)
/-- How many of `n` bytes from `a` lie in the Granary, or in fitted LPDDR5. -/
def State.mappedLen (s : State) (a n : Nat) : Nat :=
  if inGran a then Nat.min n (granBase + 0x2000000 - a) else if s.inDdr a then Nat.min n (ddrBase + s.ddrSize - a) else 0
/-- Master m reads `n` bytes of the Granary or LPDDR5; none when a check fails, or when an address is mapped to neither: the default target
then answers, and reports the master and the address (R6). -/
def State.readShared (s : State) (m a n flip : Nat) : Option (List Byte) × State :=
  if n = 0 then (some [], s)
  else if s.mappedLen a n ≠ n then (none, s.busError 0 m (a + s.mappedLen a n) false)
  else
    match (if inGran a then s.checkUnits (fun t u f => t.granCheck (bankPortOf m) u f) flip (unitsOf 8 a n)
      else s.checkUnits (fun t u f => t.ddrCheck u f) flip (unitsOf 64 a n)) with
    | (true, s1) => (some (s.bytes a n), s1)
    | (false, s1) => (none, s1)
/-- Master m writes bytes to the Granary or LPDDR5; at the first address that is mapped to neither, the default target answers (R6). -/
def State.writeShared (s : State) (m a : Nat) (bs : List Byte) (flip : Nat) : Bool × State :=
  let k := s.mappedLen a bs.length
  let (ok, s1) :=
    if inGran a then s.writeChunks (fun t x b => t.granWrite (bankPortOf m) x b flip) (chunks 8 k a (bs.take k))
    else s.writeChunks (fun t x b => t.ddrWrite x b flip) (chunks 64 k a (bs.take k))
  if k = bs.length then (ok, s1) else (false, s1.busError 0 m (a + k) true)

end Sys2Proof.Machine
end

