-- ==== Sys2Proof/Machine/Sap.lean ====
section
/-!
DEFINITION. Serial audio ports (R171–R194): slot maps, packing, frames between pins and hoppers, starts and stops, owed counts, faults.
-/

namespace Sys2Proof.Machine

/-! Held-last samples (R30) -/

/-- Key of a channel in the held samples: direction (0 received, 1 transmitted), reference type and index. -/
def heldKey (dir type index : Nat) : Nat := (dir * 16 + type) * 0x10000000 + index
/-- The last sample that a channel delivered. (DEDUCED, log 37, unsafe) -/
def State.heldSample (s : State) (k : Nat) : Word := FMap.get 0 s.held k
def State.setHeld (s : State) (k : Nat) (v : Word) : State := { s with held := FMap.set 0 s.held k v }

/-! Masks and packing (R177–R179) -/

def State.sapPort (s : State) (n : Nat) : SapPort := FMap.get SapPort.zero s.sap.ports n
def State.setSapPort (s : State) (n : Nat) (p : SapPort) : State := { s with sap := { s.sap with ports := FMap.set SapPort.zero s.sap.ports n p } }
/-- The entry of a port in a map: the last one for it, or empty masks (R177). -/
def sapEntry (m : List SapMapEnt) (n : Nat) : SapMapEnt :=
  match (m.filter (fun e => e.port == n)).getLast? with
  | some e => e
  | none => ⟨n, 0, 0, 0⟩
/-- The running image's entry of a port. -/
def State.sapEnt (s : State) (n : Nat) : SapMapEnt :=
  match s.image with
  | some i => sapEntry i.sap n
  | none => ⟨n, 0, 0, 0⟩
/-- The selected slots, ascending (R178). -/
def slotsOf (mask : Nat) : List Nat := (List.range 32).filter (fun b => bitOf mask b)
/-- Words of a frame of k samples (R179). -/
def frameWords (pack k : Nat) : Nat := if pack = 1 then (3 * k + 3) / 4 else k
/-- Containers to hopper words. -/
def packFrame (pack : Nat) (cs : List Word) : List Nat :=
  if pack = 0 then cs.map BitVec.toNat
  else if pack = 1 then
    let bytes := cs.flatMap (fun c => leBytes 3 (c.toNat / 256))
    (List.range (frameWords 1 cs.length)).map (fun w => leAt bytes (4 * w) 4)
  else cs.map (fun c => let v := c.toNat / 256; if bitOf v 23 then v + 0xFF000000 else v)
/-- Hopper words to k containers. -/
def unpackFrame (pack k : Nat) (ws : List Nat) : List Word :=
  if pack = 0 then (ws.take k).map (fun w => BitVec.ofNat 32 w)
  else if pack = 1 then
    let bytes := ws.flatMap (leBytes 4)
    (List.range k).map (fun i => BitVec.ofNat 32 (leAt bytes (3 * i) 3 * 256))
  else (ws.take k).map (fun w => BitVec.ofNat 32 (w % 0x1000000 * 256))

/-- Slot count of a SLOTS code; 0 for a reserved one (Table 7-4). -/
def slotCount (code : Nat) : Nat := if 1 ≤ code ∧ code ≤ 5 then 2 ^ code else 0
def State.sapSlots (s : State) (n : Nat) : Nat := slotCount (s.fld (R.SAP_PORT_CFG_SLOTS n))
/-- The largest S at a RATE code (Table 7-1). -/
def maxSlots (rate : Nat) : Nat := if rate = 0 then 32 else if rate = 1 then 16 else 8
def State.sapState (s : State) (n : Nat) : Nat := s.fld (R.SAP_PORT_STATUS_STATE n)

/-! Hoppers of a port (R180, R181) -/

/-- Drop the oldest `w` entries. -/
def State.hopDrop (s : State) (h w : Nat) : State := s.setHop h { s.hop h with entries := (s.hop h).entries.drop w }
/-- Whole frames of w words that a side sees when `lag` entries are still hidden from it. -/
def State.framesIn (s : State) (h w lag : Nat) : Nat := if w = 0 then 0 else (s.hopCount h - lag) / w
/-- Write a frame, an entry a word, as every push of a hopper (R355, R356); without room the oldest whole frame is discarded first. Answers whether one
was discarded. (DEDUCED, log 22, unsafe) -/
def State.putFrame (s : State) (h : Nat) (ws : List Nat) (lag : Nat) : Bool × State :=
  let w := ws.length
  if w = 0 then (false, s)
  else
    let full := decide (s.hopRoom h - lag < w)
    let s1 := if full then s.hopDrop h w else s
    if w ≤ s1.hopRoom h then
      let k := (s1.hop h).entries.length + lag
      let s2 := s1.setHop h { s1.hop h with entries := (s1.hop h).entries ++ ws }
      (full, (ws.foldl (fun t e => t.hopStore h e) s2).hopLevel h k (k + w))
    else (full, s1)
/-- Does a hopper meet R180 for frames of w words? -/
def State.sapHopOk (s : State) (h w : Nat) : Bool :=
  s.hopEn h && decide (s.fld (R.HOP_Q_CFG_USE h) = 1) && s.bit (R.HOP_Q_CFG_CLK h) && decide (3 * s.nsmp * w ≤ s.fld (R.HOP_Q_CFG_DEPTH h))

/-! Interrupt bits -/

/-- Set a port's interrupt bits: 0 STARTED, 1 FAULT, 2 UNDER, 3 OVER, 4 RESYNC, 5 PHASE_WARN. -/
def State.sapIrq (s : State) (n k : Nat) : State := s.setIrq (R.SAP_PORT_IRQ_STATUS n) k
/-- Frames discarded by a port or the Binder. -/
def State.sapDisc (s : State) (n : Nat) (f : Fld) (k : Nat) : State := if k = 0 then s else (s.count f k).sapIrq n 3
def State.sapHeldCount (s : State) (n : Nat) (f : Fld) (k : Nat) : State := if k = 0 then s else (s.count f k).sapIrq n 2

/-! Pins (R171–R175) -/

/-- AUDIO periods from one grid instant to the next (R174); a tick has 8,192. -/
def State.sapSpan (s : State) : Nat := 8192 / s.nsmp
/-- AUDIO periods per bit-clock period of a master port (R174). -/
def State.sapDivisor (s : State) (n : Nat) : Nat := 64 / 2 ^ s.fld R.TICK_STATUS_RATE / s.sapSlots n
/-- The time from the nearest grid instant to a frame whose period 0 begins `start` AUDIO periods after the latest boundary (R175). -/
def State.sapPhase (s : State) (start : Int) : Int :=
  (start + (s.sapSpan / 2 : Nat)) % (s.sapSpan : Int) - (s.sapSpan / 2 : Nat)
def State.sapMaster (s : State) (n : Nat) : Bool := s.bit (R.SAP_PORT_CFG_ROLE n)
/-- SAPn_BCLK (R171, R182). (DEDUCED, log 41, unsafe) -/
def State.sapBclk (s : State) (n : Nat) : SapPin :=
  if s.sapMaster n then (if s.sapState n = 2 then .toggling else .low) else .input
/-- Is FS at its active level in bit-clock period p of a master's frame (Timelines 7-1 and 7-2)? -/
def State.sapFsActive (s : State) (n p : Nat) : Bool :=
  if s.fld (R.SAP_PORT_CFG_MODE n) = 1 then decide (p < 32) else decide (p = 0)
/-- SAPn_FS in bit-clock period p of a frame (R173, R182). (DEDUCED, log 41, unsafe) -/
def State.sapFs (s : State) (n p : Nat) : SapPin :=
  if !s.sapMaster n then .input
  else if s.sapState n ≠ 2 then .low
  else if s.sapFsActive n p != s.bit (R.SAP_PORT_CFG_FS_POL n) then .high else .low
/-- Does the engine launch TXD, and FS as master, on the falling edge of BCLK, and sample on the rising one (R173)? -/
def State.sapLaunchFalling (s : State) (n : Nat) : Bool := !s.bit (R.SAP_PORT_CFG_BCLK_POL n)
/-- TXD where the port sends no selected slot (R178, R182, R189). -/
def State.sapIdle (s : State) (n : Nat) : SapPin := if s.bit (R.SAP_PORT_CFG_TX_TRI n) then .highZ else .low
/-- SAPn_TXD in bit-clock period p of the frame on the line (R173, R178, R182, R189): the data trails period 0 by DELAY periods, and after the
last slot the line is idle. (DEDUCED, log 41, unsafe) -/
def State.sapTxd (s : State) (n p : Nat) : SapPin :=
  let port := s.sapPort n
  let delay := s.fld (R.SAP_PORT_CFG_DELAY n)
  let sl := s.sapSlots n
  if s.sapState n ≠ 2 then s.sapIdle n
  else if p < delay then (if bitOf port.lastMask (sl - 1) then .low else s.sapIdle n)
  else
    let slot := (p - delay) / 32
    if slot < sl ∧ bitOf port.lineMask slot then
      (if (FMap.get 0 port.lastTx slot).getLsbD (31 - (p - delay) % 32) then .high else .low)
    else s.sapIdle n
/-- The next frame begins on the line, with these slots selected. -/
def State.sapLine (s : State) (n mask : Nat) : State :=
  let p := s.sapPort n
  s.setSapPort n { p with lastMask := p.lineMask, lineMask := mask }

/-! Starts, stops and faults -/

/-- Both owed counts to 0. -/
def State.sapClearOwed (s : State) (n : Nat) : State :=
  let p := s.sapPort n
  ((s.setFld (R.SAP_PORT_OWED_TX n) 0).setFld (R.SAP_PORT_OWED_RX n) 0).setSapPort n { p with txResync := false, rxResync := false, txWait := 0, rxWait := 0 }
/-- A port enters FAULT with a reason, 1 to 4, that is also its fault kind (R188, R189, R190). -/
def State.sapFault (s : State) (n reason : Nat) : State :=
  let s1 := (((s.sapClearOwed n).setFld (R.SAP_PORT_STATUS_STATE n) 3).setFld (R.SAP_PORT_STATUS_REASON n) reason).sapIrq n 1
  (s1.setSapPort n { s1.sapPort n with startIn := 0, stopNext := false, errRun := 0 }).fcu' (6 + n) reason 0
/-- The reason for refusing an ARM, or 0 (R183). -/
def State.sapArmCheck (s : State) (n : Nat) : Nat :=
  let sl := s.sapSlots n
  let mode := s.fld (R.SAP_PORT_CFG_MODE n)
  let e := s.sapEnt n
  if 2 ≤ mode ∨ (mode = 1 ∧ sl ≠ 2) ∨ sl = 0 then 7
  else if maxSlots (s.fld R.TICK_STATUS_RATE) < sl then 6
  else if 2 ^ sl ≤ e.rxMask ∨ 2 ^ sl ≤ e.txMask then 4
  else
    let rx := (slotsOf e.rxMask).length
    let tx := (slotsOf e.txMask).length
    if (rx = 0 ∨ s.sapHopOk (2 * n) (frameWords e.pack rx)) ∧ (tx = 0 ∨ s.sapHopOk (2 * n + 1) (frameWords e.pack tx)) then 0 else 5
/-- CMD = ARM. -/
def State.sapArm (s : State) (n : Nat) : State :=
  if s.sapState n = 0 ∨ s.sapState n = 3 then
    let r := s.sapArmCheck n
    if r = 0 then
      let s1 := (s.setFld (R.SAP_PORT_STATUS_STATE n) 1).setFld (R.SAP_PORT_STATUS_REASON n) 0
      s1.setSapPort n { s1.sapPort n with startIn := if s.bit (R.SAP_PORT_CFG_GRP_EN n) then 0 else 2, stopNext := false }
    else (s.setFld (R.SAP_PORT_STATUS_REASON n) r).sapIrq n 1
  else s
/-- CMD = STOP: takes effect at the next boundary. -/
def State.sapStop (s : State) (n : Nat) : State :=
  if s.sapState n = 1 ∨ s.sapState n = 2 then s.setSapPort n { s.sapPort n with stopNext := true } else s
/-- The port is STOPPED. -/
def State.sapStopped (s : State) (n : Nat) : State :=
  let s1 := s.setFld (R.SAP_PORT_STATUS_STATE n) 0
  s1.setSapPort n { s1.sapPort n with startIn := 0, stopNext := false, errRun := 0 }
/-- The port starts at this boundary (R184): the receive hopper is emptied and both owed counts clear; the Binder first gathers at the next
boundary. -/
def State.sapStart (s : State) (n : Nat) : State :=
  let s1 := ((s.sapClearOwed n).setFld (R.SAP_PORT_STATUS_STATE n) 2).sapIrq n 0
  let slave := !s.sapMaster n
  let s2 := s1.setSapPort n { s1.sapPort n with
    startIn := 0, stopNext := false, rxWait := 1, errRun := 0, rxFirst := slave, txFirst := slave,
    lineMask := s.fld (R.SAP_PORT_TXMASK n), lastMask := 0 }
  if (s.sapEnt n).rxMask = 0 then s2 else s2.hopDrop (2 * n) (s2.hop (2 * n)).entries.length

/-! Groups (R185) -/

def State.grpState (s : State) (g : Nat) : Nat := bits (s.fld R.SAP_GRP_STATE) (4 * g + 3) (4 * g)
def State.setGrpState (s : State) (g v : Nat) : State :=
  let w := s.fld R.SAP_GRP_STATE
  s.setFld R.SAP_GRP_STATE (w - bits w (4 * g + 3) (4 * g) * 16 ^ g + v * 16 ^ g)
def groupsOf (mask : Nat) : List Nat := (List.range 8).filter (fun g => bitOf mask g)
/-- Does a group hold a tick or a pin start? -/
def State.grpHolds (s : State) (g : Nat) : Bool :=
  decide (FMap.get 0 s.sap.tickArm g ≠ 0) || (s.bit R.SAP_PIN_CTRL_ARM && bitOf (s.fld R.SAP_PIN_CTRL_GRP) g) ||
  bitOf s.sap.pinNow g || bitOf s.sap.pinNext g
/-- A write of START_AT_HI. -/
def State.startAtArm (s : State) (hi : Nat) : State :=
  let s0 := s.setFld R.SAP_START_AT_HI hi
  let n := s0.reg64 R.SAP_START_AT_LO R.SAP_START_AT_HI
  let gs := groupsOf (s0.fld R.SAP_START_GRP)
  if n < s0.tick.num + 2 then
    (gs.foldl (fun st g => if st.grpHolds g then st else st.setGrpState g 4) s0).setFld R.SAP_IRQ_STATUS_START_LATE 1
  else gs.foldl (fun st g => { st with sap := { st.sap with tickArm := FMap.set 0 st.sap.tickArm g (n + 1) } }.setGrpState g 1) s0
/-- A write of PIN_CTRL: its ARM bit arms the pin start of the groups in GRP, or disarms it. -/
def State.pinCtrlWrite (s : State) (v : Nat) : State :=
  let s1 := ((s.setFld R.SAP_PIN_CTRL_GRP (bits v 15 8)).setFld R.SAP_PIN_CTRL_POL (bits v 1 1)).setFld R.SAP_PIN_CTRL_ARM (bits v 0 0)
  let s2 := (groupsOf 0xFF).foldl (fun st g =>
    if st.grpState g = 2 ∧ !st.grpHolds g then st.setGrpState g 0 else st) s1
  if bitOf v 0 then (groupsOf (bits v 15 8)).foldl (fun st g => st.setGrpState g 2) s2 else s2
/-- A filtered SAP_START edge of the selected direction; `near`: less than 1 µs before the next boundary. (DEDUCED, log 41, unsafe) -/
def State.sapEdge (s : State) (falling near : Bool) : State :=
  if s.bit R.SAP_PIN_CTRL_ARM && (s.bit R.SAP_PIN_CTRL_POL == falling) then
    let m := s.fld R.SAP_PIN_CTRL_GRP
    let s1 := s.setFld R.SAP_PIN_CTRL_ARM 0
    if near then { s1 with sap := { s1.sap with pinNext := s1.sap.pinNext ||| m } }
    else { s1 with sap := { s1.sap with pinNow := s1.sap.pinNow ||| m } }
  else s
/-- A group starts at boundary t: every ARMED port of it that follows its group. -/
def State.grpStart (s : State) (g t : Nat) : State :=
  let s1 := (List.range 16).foldl (fun st n =>
    if st.sapState n = 1 ∧ st.bit (R.SAP_PORT_CFG_GRP_EN n) ∧ st.fld (R.SAP_PORT_CFG_GROUP n) = g ∧ !(st.sapPort n).stopNext
    then st.sapStart n else st) s
  ((s1.setGrpState g 3).setIrq R.SAP_IRQ_STATUS_GRP g).setReg64 R.SAP_LAST_START_LO R.SAP_LAST_START_HI t

/-! Frames -/

/-- A slave's frame begins `start` AUDIO periods after the latest boundary: its phase, in the field f, and PHASE_WARN outside ±1 µs (R175). -/
def State.sapSeen (s : State) (n : Nat) (f : Fld) (start : Int) : State :=
  if s.sapMaster n then s
  else
    let phase := s.sapPhase start
    let t := s.setSFld f phase
    if phase < -98 ∨ 98 < phase then (t.setFld (R.SAP_PORT_STATUS_PHASE_WARN n) 1).sapIrq n 5 else t
/-- The receive mask and packing of a frame that began `start` AUDIO periods after the latest boundary: in tick T−1 a frame of block T−2 still
has the old ones (R190). -/
def State.sapRxLayout (s : State) (n : Nat) (start : Int) : Nat × Nat :=
  let p := s.sapPort n
  match p.rxOld with
  | some l => if l.1 = s.tick.num ∧ start < -98 then l.2 else (s.fld (R.SAP_PORT_RXMASK n), p.rxPack)
  | none => (s.fld (R.SAP_PORT_RXMASK n), p.rxPack)
/-- The transmit mask and packing of a frame that begins `start` AUDIO periods after the latest boundary: a frame 0 in the last 1 µs of tick T+1 is
the first of the new layout (R190). -/
def State.sapTxLayout (s : State) (n : Nat) (start : Int) : Nat × Nat :=
  match s.sap.txPend with
  | (t, m) :: _ =>
    if t ≤ s.tick.num + 1 ∧ 8192 - 98 ≤ start then ((sapEntry m n).txMask, (sapEntry m n).pack)
    else (s.fld (R.SAP_PORT_TXMASK n), (s.sapPort n).txPack)
  | [] => (s.fld (R.SAP_PORT_TXMASK n), (s.sapPort n).txPack)
/-- A received frame (R186): the containers of its slots, where its period 0 began in AUDIO periods after the latest boundary, and the bit clock as
measured. A slave's frames before its frame 0 are not stored (R184). (DEDUCED, log 11, safe; DEDUCED, log 41, unsafe) -/
def State.sapReceive (s : State) (n : Nat) (slots : List Word) (start : Int) (bclk lag : Nat) : State :=
  if s.sapState n = 2 then
    let s1 := s.sapSeen n (R.SAP_PORT_PHASE_RX n) start
    if (s1.sapPort n).rxFirst && decide (start < -98) then s1.setSapPort n { s1.sapPort n with meas := bclk }
    else
      let (mask, pack) := s1.sapRxLayout n start
      let cs := (slotsOf mask).map (fun b => (slots[b]?).getD 0)
      let (full, s2) := s1.putFrame (2 * n) (packFrame pack cs) lag
      let s3 := s2.setSapPort n { s2.sapPort n with
        errRun := 0, lastRx := FMap.setRun 0 [] 0 (slots.take 32), rxFirst := false, meas := bclk }
      if full then s3.sapDisc n (R.SAP_PORT_RX_DISC n) 1 else s3
  else s
/-- The slots that a played frame puts on the line: bits 31:8 of each sample, 0 below (R172). -/
def playedSlots (sel : List Nat) (cs : List Word) : FMap Word :=
  (sel.zip cs).foldl (fun m e => FMap.set 0 m e.1 (e.2 &&& 0xFFFFFF00)) []
/-- The port needs its next transmit frame (R186), whose period 0 begins `start` AUDIO periods after the latest boundary; `abandoned` when a frame
error cuts this frame short (R189). (DEDUCED, log 41, unsafe) -/
def State.sapTransmit (s : State) (n : Nat) (start : Int) (lag : Nat) (abandoned : Bool) : State :=
  if s.sapState n = 2 then
    let sA := s.sapSeen n (R.SAP_PORT_PHASE_TX n) start
    if (sA.sapPort n).txFirst && decide (start < -98) then sA
    else
      let s0 := sA.setSapPort n { sA.sapPort n with txFirst := false }
      let (mask, pack) := s0.sapTxLayout n start
      let sel := slotsOf mask
      if sel.isEmpty then s0.sapLine n 0
      else
        let p := s0.sapPort n
        let w := frameWords pack sel.length
        let h := 2 * n + 1
        if abandoned && (p.txResync || decide (0 < p.txWait)) then s0
        else if p.txResync then
          (s0.setFld (R.SAP_PORT_OWED_TX n) (s0.fld (R.SAP_PORT_OWED_TX n) + 1)).sapHeldCount n (R.SAP_PORT_TX_HELD n) 1
        else if 0 < p.txWait then s0.sapHeldCount n (R.SAP_PORT_TX_HELD n) 1
        else
          let owed := s0.fld (R.SAP_PORT_OWED_TX n)
          let d := Nat.min owed (s0.framesIn h w lag)
          let s1 := (((s0.hopDrop h (d * w)).setFld (R.SAP_PORT_OWED_TX n) (owed - d))).sapDisc n (R.SAP_PORT_TX_DISC n) d
          if 0 < s1.framesIn h w lag then
            let cs := unpackFrame pack sel.length ((s1.hop h).entries.take w)
            let s2 := (s1.hopDrop h w).sapLine n mask
            if s.outHeld then s2 else s2.setSapPort n { s2.sapPort n with lastTx := playedSlots sel cs }
          else if abandoned then s1
          else
            let o := owed - d + 1
            let s2 := (s1.setFld (R.SAP_PORT_OWED_TX n) o).sapHeldCount n (R.SAP_PORT_TX_HELD n) 1
            if 2 * s.nsmp < o then s2.setSapPort n { s2.sapPort n with txResync := true } else s2
  else s
/-- A frame error of a slave port (R189). (DEDUCED, log 41, unsafe) -/
def State.sapFrameError (s : State) (n lag : Nat) : State :=
  if s.sapState n = 2 ∧ !s.bit (R.SAP_PORT_CFG_ROLE n) then
    let p := s.sapPort n
    let sel := slotsOf (s.fld (R.SAP_PORT_RXMASK n))
    let (full, s1) := s.putFrame (2 * n) (packFrame p.rxPack (sel.map (fun b => FMap.get 0 p.lastRx b))) lag
    let s2 := (if full then s1.sapDisc n (R.SAP_PORT_RX_DISC n) 1 else s1).count (R.SAP_PORT_EVT_CNT_FRAME_ERR_CNT n) 1
    let s3 := s2.setSapPort n { s2.sapPort n with errRun := p.errRun + 1 }
    if 2 ≤ p.errRun + 1 then s3.sapFault n 3 else s3
  else s
/-- The bit-clock monitor of an ARMED or RUNNING slave port finds a fault: reason 1 BCLK_LOSS or 2 BCLK_GLITCH (R188, R192). (DEDUCED, log 41, unsafe) -/
def State.sapClockFault (s : State) (n reason : Nat) : State :=
  if (s.sapState n = 1 ∨ s.sapState n = 2) ∧ !s.sapMaster n then s.sapFault n reason else s

/-! The Binder's side (R181, R186) -/

/-- The entries of a hopper with independent clocks that the Binder does not see yet: those of the last 4 cycles (R181, R358), a free number. (DEDUCED, log 41, unsafe) -/
def State.binderLag (s : State) (h : Nat) : Nat × State :=
  if s.bit (R.HOP_Q_CFG_CLK h) then let (v, s1) := s.takeFree; (v % 5, s1) else (0, s)

/-- Does the running image route port n's direction to a Binder reference, a source or a sink (R179)? (DEDUCED, log 34, unsafe) -/
def State.sapServed (s : State) (n : Nat) (tx : Bool) : Bool :=
  (if tx then s.bind.scatter else s.bind.gather).any (fun d =>
    decide (refType d.w0 = 0) && (List.range d.count).any (fun c => decide (d.index c / 32 = n)))
/-- The Binder takes port n's receive block for this tick: owed frames are discarded, then up to N whole frames are read. -/
def State.sapTake (s : State) (n : Nat) : State :=
  let p := s.sapPort n
  if p.taken then s
  else
    let e := s.sapEnt n
    let sel := slotsOf e.rxMask
    let w := frameWords e.pack sel.length
    let h := 2 * n
    if s.sapState n ≠ 2 ∨ 0 < p.rxWait ∨ p.rxResync ∨ w = 0 then s.setSapPort n { p with taken := true, block := [], present := 0 }
    else
      let (lag, s) := s.binderLag h
      let owed := s.fld (R.SAP_PORT_OWED_RX n)
      let d := Nat.min owed (s.framesIn h w lag)
      let s1 := ((s.hopDrop h (d * w)).setFld (R.SAP_PORT_OWED_RX n) (owed - d)).sapDisc n (R.SAP_PORT_RX_DISC n) d
      let got := Nat.min s.nsmp (s1.framesIn h w lag)
      let ws := (s1.hop h).entries
      let blk := (List.range got).foldl (fun m i =>
        ((sel.zip (unpackFrame e.pack sel.length ((ws.drop (i * w)).take w))).foldl (fun m2 q => FMap.set 0 m2 (q.1 * 16 + i) q.2) m)) []
      let miss := s.nsmp - got
      let o := owed - d + miss
      let s2 := ((s1.hopDrop h (got * w)).setFld (R.SAP_PORT_OWED_RX n) o).sapHeldCount n (R.SAP_PORT_RX_HELD n) miss
      s2.setSapPort n { s2.sapPort n with taken := true, block := blk, present := got, rxResync := decide (2 * s.nsmp < o) }
/-- The block of one receive slot: samples present, then held-last ones. -/
def State.sapGather (s : State) (index : Nat) : List Word × State :=
  let n := index / 32
  let b := index % 32
  let s1 := s.sapTake n
  let p := s1.sapPort n
  let k := heldKey 0 0 index
  let last := if p.present = 0 then s1.heldSample k else FMap.get 0 p.block (b * 16 + (p.present - 1))
  ((List.range s.nsmp).map (fun i => if i < p.present then FMap.get 0 p.block (b * 16 + i) else last), s1.setHeld k last)
/-- The samples of one transmit slot are scattered; they wait for the whole block. -/
def State.sapScatter (s : State) (index : Nat) (vs : List Word) : State :=
  let n := index / 32
  let b := index % 32
  let p := s.sapPort n
  s.setSapPort n { p with out := FMap.setRun 0 p.out (b * 16) vs, outSlots := b :: p.outSlots.filter (· != b) }
/-- The Binder writes port n's transmit block, N frames: slots not scattered in this tick are held-last. A port that does not run keeps the
newest 2 blocks and discards older frames uncounted (R182). -/
def State.sapWriteBlock (s : State) (n : Nat) : State :=
  let p := s.sapPort n
  let e := s.sapEnt n
  let sel := slotsOf e.txMask
  let h := 2 * n + 1
  if p.written || sel.isEmpty then s
  else
    let val (b i : Nat) : Word :=
      if p.outSlots.contains b then FMap.get 0 p.out (b * 16 + i) else s.heldSample (heldKey 1 0 (n * 32 + b))
    let frame (i : Nat) : List Nat := packFrame e.pack (sel.map (fun b => val b i))
    let s1 := (List.range s.nsmp).foldl (fun st i =>
      let (lag, st) := st.binderLag h
      let (full, t) := st.putFrame h (frame i) lag
      if full ∧ s.sapState n = 2 then t.sapDisc n (R.SAP_PORT_TX_DISC n) 1 else t) s
    let s2 := sel.foldl (fun st b => st.setHeld (heldKey 1 0 (n * 32 + b)) (val b (s.nsmp - 1))) s1
    let keep := 2 * s.nsmp * frameWords e.pack sel.length
    let s3 := if s.sapState n = 2 then s2 else s2.hopDrop h ((s2.hop h).entries.length - keep)
    s3.setSapPort n { s3.sapPort n with written := true }

/-! Boundaries -/

/-- A receive mask changes (T−1): the port takes the new image's layout (R190). -/
def State.sapRxMap (s : State) (m : List SapMapEnt) : State :=
  (List.range 16).foldl (fun st n =>
    let e := sapEntry m n
    let old := (st.tick.num, st.fld (R.SAP_PORT_RXMASK n), (st.sapPort n).rxPack)
    let s1 := (st.setFld (R.SAP_PORT_RXMASK n) e.rxMask).setSapPort n { st.sapPort n with rxPack := e.pack, rxOld := some old }
    if st.sapState n = 2 ∧ 2 ^ st.sapSlots n ≤ e.rxMask then s1.sapFault n 4 else s1) s
/-- The transmit masks change (T+2). -/
def State.sapTxMap (s : State) (m : List SapMapEnt) : State :=
  (List.range 16).foldl (fun st n =>
    let e := sapEntry m n
    let s1 := (st.setFld (R.SAP_PORT_TXMASK n) e.txMask).setSapPort n { st.sapPort n with txPack := e.pack }
    if st.sapState n = 2 ∧ 2 ^ st.sapSlots n ≤ e.txMask then s1.sapFault n 4 else s1) s
/-- One port at a boundary: the measured bit clock shows, stop, resynchronisation (R187), and the start of a port without a group. -/
def State.sapPortBoundary (s : State) (n : Nat) : State :=
  let p := s.sapPort n
  let s0 := s.setSapPort n { p with taken := false, block := [], present := 0, out := [], outSlots := [], written := false,
                                    txWait := p.txWait - 1, rxWait := p.rxWait - 1, startIn := p.startIn - 1 }
  let s1 := s0.setFld (R.SAP_PORT_BCLK_MEAS n) (if s.sapMaster n then 0 else p.meas)
  if p.stopNext then s1.sapStopped n
  else
    let s2 := if p.txResync then
        let t := ((s1.setFld (R.SAP_PORT_OWED_TX n) 0).hopDrop (2 * n + 1) (s1.hop (2 * n + 1)).entries.length)
        ((t.setSapPort n { t.sapPort n with txResync := false, txWait := 2 }).count (R.SAP_PORT_EVT_CNT_RESYNC_CNT n) 1).sapIrq n 4
      else s1
    let s3 := if p.rxResync then
        let t := ((s2.setFld (R.SAP_PORT_OWED_RX n) 0).hopDrop (2 * n) (s2.hop (2 * n)).entries.length)
        ((t.setSapPort n { t.sapPort n with rxResync := false, rxWait := 2 }).count (R.SAP_PORT_EVT_CNT_RESYNC_CNT n) 1).sapIrq n 4
      else s2
    if p.startIn = 1 ∧ s.sapState n = 1 then s3.sapStart n else s3
/-- The ports at boundary t: transmit maps that come due, ports one by one, then groups by tick start and by pin start. (DEDUCED, log 41, unsafe) -/
def State.sapBoundary (s : State) (t : Nat) : State :=
  let now := s.sap.txPend.filter (fun e => decide (e.1 ≤ t))
  let s1 := now.foldl (fun st e => st.sapTxMap e.2)
    { s with sap := { s.sap with txPend := s.sap.txPend.filter (fun e => decide (t < e.1)) } }
  let s2 := (List.range 16).foldl (fun st n => st.sapPortBoundary n) s1
  let pin := s2.sap.pinNow
  let s3 := (groupsOf 0xFF).foldl (fun st g =>
    let a := FMap.get 0 st.sap.tickArm g
    if (a ≠ 0 ∧ a ≤ t + 1) ∨ bitOf pin g then
      let u := if a ≠ 0 ∧ a ≤ t + 1 then { st with sap := { st.sap with tickArm := FMap.set 0 st.sap.tickArm g 0 } } else st
      u.grpStart g t
    else st) s2
  { s3 with sap := { s3.sap with pinNow := s3.sap.pinNext, pinNext := 0 } }
/-- `TICK.CTRL.RUN` is set: every owed count clears (R187). -/
def State.sapRunSet (s : State) : State := (List.range 16).foldl (fun st n => st.sapClearOwed n) s
/-- RUN is cleared: each armed start stays only where a free value says so (R39). -/
def State.sapRunClear (s : State) : State :=
  (groupsOf 0xFF).foldl (fun st g =>
    if FMap.get 0 st.sap.tickArm g = 0 then st
    else
      let (v, s1) := st.takeFree
      if v % 2 = 1 then s1 else { s1 with sap := { s1.sap with tickArm := FMap.set 0 s1.sap.tickArm g 0 } }) s
/-- Block reset of SAPn (R429): the port stops and both its hoppers are emptied. -/
def State.sapReset (s : State) (n : Nat) : State := (((s.sapClearOwed n).sapStopped n).hopClear (2 * n)).hopClear (2 * n + 1)

end Sys2Proof.Machine
end

