-- ==== Sys2Proof/Machine/Amp.lean ====
section
/-!
DEFINITION. Amplifier control (R329–R346): channel states, half-duty starts, stagger offsets, the rail-sag limiter, protection. On a
VY1024-NI the block is absent (R2): its commands have no effect.
-/

namespace Sys2Proof.Machine

def State.ampCh (s : State) (n : Nat) : AmpCh := FMap.get AmpCh.zero s.amp.chans n
def State.setAmpCh (s : State) (n : Nat) (c : AmpCh) : State := { s with amp := { s.amp with chans := FMap.set AmpCh.zero s.amp.chans n c } }
def State.ampState (s : State) (n : Nat) : Nat := s.fld (R.AMP_CH_STATE_STATE n)
/-- Is the block present? (DESIGN CHOICE, log 10, safe) -/
def State.hasAmp (s : State) : Bool := decide (s.part = .ai)
/-- Does the map in force list a channel (R330)? -/
def State.ampMapped (s : State) (n : Nat) : Bool := s.amp.map.any (fun e => e.chan == n)
/-- The channels of group g. -/
def ampGroup (g : Nat) : List Nat := (List.range 4).map (· + 4 * g)

/-! Pins (R335, R336) -/

/-- Does a state switch the outputs: STARTING, ACTIVE or HALF? -/
def switching (st : Nat) : Bool := decide (st = 1) || decide (st = 2) || decide (st = 3)
/-- Is AMP_EN[g] high: the group's enable, no drop in force, not the safe state, and with EN_AUTO a channel in use? -/
def State.ampEnOf (s : State) (g : Nat) : Bool :=
  let st (n : Nat) : Nat := s.ampState n
  bitOf (s.fld R.AMP_GRP_CTRL_EN) g && !bitOf (s.fld R.AMP_GRP_STATUS_OT) g && !s.bit R.FCU_STATUS_SAFE &&
  !(ampGroup g).any (fun n => (s.ampCh n).drop) &&
  (!bitOf (s.fld R.AMP_GRP_CTRL_EN_AUTO) g || (ampGroup g).any (fun n => switching (st n) || decide (st n = 5)))
def maskOf (k : Nat) (p : Nat → Bool) : Nat := ((List.range k).map (fun i => if p i then 2 ^ i else 0)).foldl (· + ·) 0
/-- The pins and the status bits follow the channel states; before the first edge of a half-duty start both outputs are low (R337). -/
def State.ampPins (s : State) : State :=
  let en := maskOf 8 s.ampEnOf
  let pwm := if s.bit R.FCU_STATUS_SAFE then 0 else maskOf 32 (fun n => switching (s.ampState n) && !(decide (s.ampState n = 1) && decide (0 < (s.ampCh n).lead)))
  (({ s with pins := { s.pins with ampEn := en, ampPwm := pwm } }.setFld R.AMP_GRP_STATUS_EN_OUT en).setBit R.AMP_STATUS_RUNNING
    ((List.range 32).any (fun n => decide (s.ampState n ≠ 0))))
/-- A channel changes state. -/
def State.setAmpState (s : State) (n v : Nat) : State :=
  if s.ampState n = v then s else (s.setFld (R.AMP_CH_STATE_STATE n) v).setIrq R.AMP_IRQ_STATUS 0

/-! Starts and stops (R336, R337) -/

/-- A channel's target offset in degrees: its rank among the staggered channels of its group. -/
def State.stagTarget (s : State) (n : Nat) : Nat :=
  let grp := (List.range 32).filter (fun m => s.bit (R.AMP_CH_CFG_STAG m) && decide (s.fld (R.AMP_CH_CFG_SGRP m) = s.fld (R.AMP_CH_CFG_SGRP n)))
  if s.bit R.AMP_CTRL_STAG_EN ∧ s.bit (R.AMP_CH_CFG_STAG n) then (grp.filter (fun m => decide (m < n))).length * 360 / grp.length else 0
/-- Time from a start to the first edge, in millionths of an AMP cycle: EN_LEAD µs where AMP_EN was low, and the target stagger offset (R337,
R338). -/
def State.startLead (s : State) (n : Nat) : Nat :=
  (if bitOf s.pins.ampEn (n / 4) then 0 else s.fld R.AMP_START_EN_LEAD * 196608000) +
    s.stagTarget n * Nat.max 196 (s.fld R.AMP_START_DIV) * 1000000 / 360
/-- A half-duty start at this boundary; with the group's over-temperature input low the channel goes to FAULT at once (R342). -/
def State.ampBegin (s : State) (n : Nat) : State :=
  let c := s.ampCh n
  let s1 := s.setAmpCh n { c with startIn := 0, startLeft := 12, lead := s.startLead n, drop := false, leader := none, ot := false, okTicks := 0 }
  if bitOf (s.fld R.AMP_GRP_STATUS_OT) (n / 4) then
    ((s1.setAmpCh n { s1.ampCh n with ot := true }).setAmpState n 7).setFld (R.AMP_CH_STATE_REASON n) 2
  else s1.setAmpState n 1
/-- A channel leaves every running activity and enters a state with low outputs. -/
def State.ampEnd (s : State) (n st : Nat) : State :=
  (s.setAmpCh n { s.ampCh n with startIn := 0, startLeft := 0, lead := 0, retryLeft := 0, okTicks := 0, stopNext := false, ot := false, drop := false,
                                 leader := none }).setAmpState n st
/-- Time passes for half-duty starts that wait for their first edge, in PTP cycles of 4 ns. (DEDUCED, log 51, unsafe) -/
def State.ampElapse (s : State) (cycles : Nat) : State :=
  if s.amp.chans.any (fun e => decide (0 < e.2.lead)) then
    { s with amp := { s.amp with chans := s.amp.chans.map (fun (e : Nat × AmpCh) => (e.1, { e.2 with lead := e.2.lead - cycles * 786432 })) } }.ampPins
  else s
/-- CMD = START. -/
def State.ampStart (s : State) (n : Nat) : State :=
  if !s.hasAmp || decide (s.ampState n ≠ 0) then s
  else if !s.ampMapped n then s.setFld (R.AMP_CH_STATE_REASON n) 7
  else if !s.bit R.AMP_CTRL_EN || !bitOf (s.fld R.AMP_GRP_CTRL_EN) (n / 4) || decide (s.fld (R.AMP_CH_SCALE_VFS n) = 0) ||
      decide (s.fld (R.AMP_CH_SCALE_IFS n) = 0) || decide (s.fld (R.AMP_CH_ILIM n) = 0) then s.setFld (R.AMP_CH_STATE_REASON n) 8
  else (s.setFld (R.AMP_CH_STATE_REASON n) 0).setAmpCh n { s.ampCh n with startIn := 2, stopNext := false }
/-- CMD = STOP: OFF at the next boundary. -/
def State.ampStop (s : State) (n : Nat) : State := if s.hasAmp then s.setAmpCh n { s.ampCh n with stopNext := true } else s
/-- CMD = CLEAR: LATCHED or FAULT to OFF; without effect in the safe state (R387). (DEDUCED, log 51, unsafe) -/
def State.ampClear (s : State) (n : Nat) : State :=
  if s.hasAmp ∧ (s.ampState n = 6 ∨ s.ampState n = 7) ∧ !s.bit R.FCU_STATUS_SAFE then (s.ampEnd n 0).ampPins else s
/-- In-step release: the loop closes at the first common falling edge at or after the twelfth boundary. -/
def State.inStepRelease (s : State) (n : Nat) : State :=
  let c := s.ampCh n
  if s.ampState n = 1 ∧ c.startLeft = 0 then ((s.setAmpCh n { c with okTicks := 0 }).setAmpState n 2).ampPins else s

/-! Protection (R341–R343) -/

/-- A short trip is counted and reported; the retries decide between RETRY_WAIT and LATCHED. -/
def State.ampTrip (s : State) (n : Nat) : State :=
  let s1 := ((s.countSat (R.AMP_CH_EVT_TRIPS n) 1).setIrq R.AMP_IRQ_STATUS 1).setFld (R.AMP_CH_STATE_REASON n) 1
  let latch := decide (s.fld (R.AMP_CH_STATE_RETRIES n) = 3)
  let c := s1.ampCh n
  if latch then (s1.ampEnd n 6).setAmpCh n { (s1.ampEnd n 6).ampCh n with stopNext := c.stopNext }
  else
    (s1.setAmpCh n { c with startIn := 0, startLeft := 0, retryLeft := 3001, okTicks := 0, leader := none,
                            drop := s.bit (R.AMP_CH_CFG_DROP_EN n) }).setAmpState n 5
/-- The other channels of the group enter RETRY_WAIT with the tripped one. -/
def State.ampDropGroup (s : State) (n : Nat) : State :=
  let latched := decide (s.ampState n = 6)
  ((ampGroup (n / 4)).filter (fun m => m ≠ n && switching (s.ampState m))).foldl (fun st m =>
    let c := st.ampCh m
    (st.setAmpCh m { c with startIn := 0, startLeft := 0, retryLeft := 3001, okTicks := 0, leader := if latched then none else some n }).setAmpState m 5) s
/-- Current over ILIM in two half-cycles. -/
def State.ampShort (s : State) (n : Nat) : State :=
  if s.hasAmp ∧ switching (s.ampState n) then
    let s1 := s.ampTrip n
    let s2 := if s.bit (R.AMP_CH_CFG_DROP_EN n) then s1.ampDropGroup n else s1
    s2.ampPins.fcu' (35 + n / 4) 1 n
  else s
/-- The retry at the first boundary at least 3,000 ticks after the trip: the channels that its trip dropped start with it; one whose tripped channel
has left RETRY_WAIT otherwise retries by itself. -/
def State.ampRetry (s : State) (n : Nat) : State :=
  let c := s.ampCh n
  if s.ampState n = 5 ∧ c.retryLeft = 0 ∧ !c.leader.any (fun m => decide (s.ampState m = 5)) then
    let followers := (ampGroup (n / 4)).filter (fun m => decide (s.ampState m = 5) && decide ((s.ampCh m).leader = some n))
    let counted := decide (s.fld (R.AMP_CH_STATE_REASON n) = 1)
    let s1 := if counted then s.setFld (R.AMP_CH_STATE_RETRIES n) (Nat.min 3 (s.fld (R.AMP_CH_STATE_RETRIES n) + 1)) else s
    ((s1.ampBegin n |> fun t => followers.foldl (fun st m => st.ampBegin m) t)).ampPins
  else s
/-- 12,000 ticks in ACTIVE without a trip. -/
def State.retriesClear (s : State) (n : Nat) : State :=
  if s.ampState n = 2 ∧ 12000 ≤ (s.ampCh n).okTicks then s.setFld (R.AMP_CH_STATE_RETRIES n) 0 else s
/-- A channel goes to FAULT with a reason. -/
def State.ampFault (s : State) (n reason : Nat) : State :=
  let stop := (s.ampCh n).stopNext
  let s1 := (s.ampEnd n 7).setFld (R.AMP_CH_STATE_REASON n) reason
  s1.setAmpCh n { s1.ampCh n with stopNext := stop, ot := decide (reason = 2) }
/-- Is a channel neither OFF nor LATCHED? -/
def State.ampLive (s : State) (n : Nat) : Bool := decide (s.ampState n ≠ 0) && decide (s.ampState n ≠ 6)
/-- A filtered low on AMP_OT_N[g]; `shorted`: channels of the group whose short trip falls in the same cycle (Table 13-3). (DEDUCED, log 51, unsafe) -/
def State.overTemperature (s : State) (g shorted : Nat) : State :=
  if s.hasAmp then
    let s1 := s.setFld R.AMP_GRP_STATUS_OT (s.fld R.AMP_GRP_STATUS_OT ||| 2 ^ g)
    let s2 := (ampGroup g).foldl (fun st n =>
      let t := if bitOf shorted n && switching (s.ampState n) then
          ((st.countSat (R.AMP_CH_EVT_TRIPS n) 1).setIrq R.AMP_IRQ_STATUS 1).setFld (R.AMP_CH_STATE_RETRIES n)
            (Nat.min 3 (st.fld (R.AMP_CH_STATE_RETRIES n) + 1))
        else st
      if s.ampLive n then t.ampFault n 2 else t) s1
    let s3 := (s2.setIrq R.AMP_IRQ_STATUS 2).ampPins.fcu' (35 + g) 2 (4 * g)
    ((ampGroup g).filter (fun n => bitOf shorted n && switching (s.ampState n))).foldl (fun st n => st.fcu' (35 + g) 1 n) s3
  else s
/-- The input has been high for OT_RESTART ticks: the waiting channels restart together; 0 leaves them in FAULT. No command shows the input high
before: GRP_STATUS.OT clears here. (DEDUCED, log 51, unsafe) -/
def State.otRestart (s : State) (g : Nat) : State :=
  if s.hasAmp ∧ bitOf (s.fld R.AMP_GRP_STATUS_OT) g then
    let s1 := s.clrFld R.AMP_GRP_STATUS_OT (2 ^ g)
    let wait := (ampGroup g).filter (fun n => decide (s.ampState n = 7) && (s.ampCh n).ot)
    let s2 := if s.fld R.AMP_OT_RESTART = 0 ∨ s.bit R.FCU_STATUS_SAFE then s1 else wait.foldl (fun st n => st.ampBegin n) s1
    s2.ampPins
  else s
/-- A sense bitstream without transitions: 0 AMP_VSNS, 1 AMP_ISNS, 2 AMP_RAIL. (DEDUCED, log 51, unsafe) -/
def State.senseLoss (s : State) (kind idx : Nat) : State :=
  if s.hasAmp then
    let hit := if kind = 2 then (List.range 32).filter (fun n => s.ampLive n && decide (s.fld (R.AMP_CH_CFG_RAIL n) = idx % 4))
      else [idx].filter s.ampLive
    let s1 := (hit.foldl (fun st n => st.ampFault n (3 + kind)) s).setIrq R.AMP_IRQ_STATUS 3
    if kind = 2 then s1.ampPins.fcu' 43 1 (idx % 4) else s1.ampPins.fcu' (35 + idx / 4) (3 + kind) idx
  else s
/-- A container's signed sample. -/
def sampleOf (w : Word) : Int := signedOf 24 (w.toNat / 256)
/-- Does the reference of a channel stay below −40 dBFS: a magnitude below 2^23 / 100? -/
def State.ampQuiet (s : State) (n : Nat) : Bool := (s.ampCh n).play.all (fun w => decide ((sampleOf w).natAbs ≤ 83886))
/-- The idle frequency in units of 100 Hz, measured while the reference stays below −40 dBFS (R333). -/
def State.idleFrequency (s : State) (n freq : Nat) : State :=
  if s.hasAmp ∧ s.ampState n = 2 ∧ s.ampQuiet n then
    let s1 := s.setFld (R.AMP_CH_FIDLE n) freq
    if freq < 3000 ∨ 7000 < freq then ((s1.setFld (R.AMP_CH_STATE_IDLE_RANGE n) 1).setIrq R.AMP_IRQ_STATUS 5).fcu' (35 + n / 4) 5 n else s1
  else s
/-- The safe state: every channel in FAULT with REASON = SAFE, outputs and enables low (R343). -/
def State.ampSafe (s : State) : State := if s.hasAmp then ((List.range 32).foldl (fun st n => st.ampFault n 6) s).ampPins else s
/-- Block reset of an AMP group (R429). -/
def State.ampReset (s : State) (g : Nat) : State :=
  ((ampGroup g).foldl (fun st n =>
    (st.setAmpCh n AmpCh.zero).setAmpState n 0 |> fun t =>
      (((((t.setFld (R.AMP_CH_STATE_REASON n) 0).setFld (R.AMP_CH_STATE_RETRIES n) 0).setFld (R.AMP_CH_STATE_TRACK_ERR n) 0).setFld
        (R.AMP_CH_STATE_IDLE_RANGE n) 0).setFld (R.AMP_CH_EVT_TRIPS n) 0).setFld (R.AMP_CH_EVT_LIMIT_TICKS n) 0) s).ampPins

/-! The limiter (R340) and the blocks -/

/-- A sample as a container. -/
def containerOf (i : Int) : Word := BitVec.ofNat 32 (unsignedOf 24 i * 256)
def unityGain : Nat := 0x7FFFFF
/-- The target gain of a block: rails and HEADROOM in 10 mV, the peak in units of 2^-23 of VFS. -/
def State.ampTarget (s : State) (n : Nat) (block : List Word) : Nat :=
  let rail : Int := s.fld (R.AMP_RAIL_MEAS (s.fld (R.AMP_CH_CFG_RAIL n)))
  let bg := if s.bit R.AMP_STATUS_BACKUP then Nat.min (s.fld R.PWR_BACKUP_GAIN) 0x8000 else 0x8000
  let ceil : Int := (rail - s.fld (R.AMP_CH_LIM_HEADROOM n)) * bg * 256
  let peak : Nat := (block.map (fun w => (sampleOf w).natAbs)).foldl Nat.max 0 * s.fld (R.AMP_CH_SCALE_VFS n)
  if (peak : Int) ≤ ceil then unityGain
  else if ceil ≤ 0 then 0
  else Nat.min unityGain (ceil.toNat * 0x800000 / peak)
/-- One channel's gain for the block that reaches the pins from this boundary. -/
def State.ampLimit (s : State) (n : Nat) (block : List Word) : State :=
  let g := s.fld (R.AMP_CH_GAIN n)
  let t := s.ampTarget n block
  let rel := Nat.max 1 (s.fld (R.AMP_CH_LIM_RELEASE n))
  let g1 := if t < g then t else Nat.min t (g + 0x800000 / rel)
  let s1 := s.setFld (R.AMP_CH_GAIN n) g1
  let s2 := if g1 < unityGain then s1.countSat (R.AMP_CH_EVT_LIMIT_TICKS n) 1 else s1
  if g = unityGain ∧ g1 < unityGain then s2.setIrq R.AMP_IRQ_STATUS 4 else s2
/-- A sample times a gain, rounded half up (R49). -/
def gained (g : Nat) (w : Word) : Word := if g = unityGain then w else containerOf ((sampleOf w * g + 0x400000) / 0x800000)
/-- The block that the Binder scatters to a channel, after the look-ahead. (DEDUCED, log 51, unsafe) -/
def State.ampScatter (s : State) (n : Nat) (vs : List Word) : State := s.setAmpCh n { s.ampCh n with out := some vs }
/-- The block of channel n that was scattered in the ended tick; without one, held-last. -/
def State.ampBlock (s : State) (n : Nat) : List Word :=
  match (s.ampCh n).out with
  | some vs => vs
  | none => List.replicate s.nsmp (s.heldSample (heldKey 1 4 n))

/-! Stagger offsets (R338, R339) -/

/-- The distance of two angles in degrees. -/
def angleDist (a b : Nat) : Nat := let d := (a + 360 - b % 360) % 360; Nat.min d (360 - d)
def State.setPhaseLock (s : State) (b : Bool) : State :=
  if s.bit R.AMP_STATUS_PHASE_LOCK = b then s else (s.setBit R.AMP_STATUS_PHASE_LOCK b).setIrq R.AMP_IRQ_STATUS 6
def State.stagDiv (s : State) : Nat := Nat.max 1 (s.fld R.AMP_STAG_DIV)
/-- A phase word of the partner: the standby slews its reference toward it by at most one AMP cycle per period, for one tick. (DEDUCED, log 51, unsafe) -/
def State.phaseWord (s : State) (word : Nat) : State :=
  if s.hasAmp ∧ s.bit R.PAIR_CTRL_EN ∧ !s.bit R.PAIR_STATUS_CLAIM_HELD ∧ s.bit R.PAIR_STATUS_TWIN_UP then
    let d := s.stagDiv
    let diff : Int := ((word : Int) - s.amp.stagRef + d / 2) % d - d / 2
    let most : Int := (16384 / d : Nat)
    let move := clampInt (-most) most diff
    ({ s with amp := { s.amp with stagRef := (((s.amp.stagRef : Int) + move) % d).toNat } }).setPhaseLock (decide ((diff - move).natAbs ≤ 1))
  else s

/-! Boundaries -/

/-- The map changes (T+2): a channel that it no longer lists enters OFF with RETRIES cleared (R336, Table 13-3). -/
def State.ampTxMap (s : State) (m : List AmpMapEnt) : State :=
  let s1 := { s with amp := { s.amp with map := m } }
  (((List.range 32).filter (fun n => s.ampMapped n && !s1.ampMapped n)).foldl (fun st n =>
    ((st.ampEnd n 0).setFld (R.AMP_CH_STATE_RETRIES n) 0) |> fun t => t.setAmpCh n AmpCh.zero) s1)
/-- One channel at a boundary: a stop, a commanded start, the counts, the measured values, and the block that plays now. -/
def State.ampChBoundary (s : State) (n : Nat) (env : BoundaryEnv) : State :=
  let c := s.ampCh n
  let block := s.ampBlock n
  let track := if bitOf env.track n then c.track + 1 else 0
  let s0 := if s.ampMapped n then s.setHeld (heldKey 1 4 n) (block.getLast?.getD 0) else s
  let s1 := s0.setAmpCh n { c with startIn := c.startIn - 1, startLeft := c.startLeft - 1, retryLeft := c.retryLeft - 1,
                                   okTicks := if s.ampState n = 2 then c.okTicks + 1 else 0, track := track, out := none,
                                   prev := if s.ampMapped n then block else [] }
  let s2 := if c.stopNext then s1.ampEnd n 0 else if c.startIn = 1 ∧ s.ampState n = 0 then s1.ampBegin n else s1
  let standby := s.bit R.PAIR_CTRL_EN && !s.bit R.PAIR_STATUS_CLAIM_HELD
  let s3 := if standby ∧ 2 ≤ track then s2.setFld (R.AMP_CH_STATE_TRACK_ERR n) 1 else s2
  let pk := (env.ipeak[n]?).getD 0
  let s4 := if s3.fld (R.AMP_CH_IPEAK n) < pk then s3.setFld (R.AMP_CH_IPEAK n) pk else s3
  let ph := (env.phase[n]?).getD 0
  let s5 := ((s4.setFld (R.AMP_CH_PHASE_TARGET n) (s4.stagTarget n)).setFld (R.AMP_CH_PHASE_PHASE n) ph).setBit (R.AMP_CH_STATE_STAG_LOCK n)
    (s4.bit R.AMP_CTRL_STAG_EN && s4.bit (R.AMP_CH_CFG_STAG n) && decide (angleDist ph (s4.stagTarget n) ≤ s4.fld R.AMP_STAG_TOL))
  if s.ampMapped n ∧ !c.prev.isEmpty then
    let s6 := s5.ampLimit n c.prev
    let play := if s.outHeld then List.replicate c.prev.length (c.play.getLast?.getD 0) else c.prev.map (gained (s6.fld (R.AMP_CH_GAIN n)))
    s6.setAmpCh n { s6.ampCh n with play := play }
  else s5
/-- The amplifier block at boundary t: the ended tick's rail readings and feed, maps that come due, every channel, the stagger reference. -/
def State.ampBoundary (s : State) (t : Nat) (env : BoundaryEnv) : State :=
  if s.hasAmp then
    let now := s.amp.txPend.filter (fun e => decide (e.1 ≤ t))
    let s0 := { s with amp := { s.amp with txPend := s.amp.txPend.filter (fun e => decide (t < e.1)), stagRef := (s.amp.stagRef + 16384) % s.stagDiv } }
    let s1 := now.foldl (fun st e => st.ampTxMap e.2) s0
    let s2 := (List.range 4).foldl (fun st r => match env.rails[r]? with | some v => st.setFld (R.AMP_RAIL_MEAS r) v | none => st) s1
    let s3 := s2.setBit R.AMP_STATUS_BACKUP (decide (s2.fld R.PWR_STATUS_FEED = 1))
    ((List.range 32).foldl (fun st n => st.ampChBoundary n env) s3).ampPins
  else s
/-- No boundary follows: the two blocks that a channel holds are still delivered, then their last sample repeats (R38). (DEDUCED, log 51, unsafe) -/
def State.ampRunOut (s : State) : State :=
  if s.hasAmp then
    (List.range 32).foldl (fun st n =>
      if st.ampMapped n then
        let c := st.ampCh n
        let block := st.ampBlock n
        let rest := c.prev ++ block
        let play := if st.outHeld then [c.play.getLast?.getD 0] else rest.map (gained (st.fld (R.AMP_CH_GAIN n)))
        (st.setAmpCh n { c with out := none, prev := [], play := play }).setHeld (heldKey 1 4 n) (block.getLast?.getD 0)
      else st) s
  else s
/-- At the takeover boundary every channel with TRACK_ERR has its loop states set to 0 and goes on closed-loop (R339). -/
def State.ampTakeover (s : State) : State := (List.range 32).foldl (fun st n => st.setFld (R.AMP_CH_STATE_TRACK_ERR n) 0) s

end Sys2Proof.Machine
end

