-- ==== Sys2Proof/Machine/Ring.lean ====
section
/-!
DEFINITION. Delay rings (R134–R137): taps, writes, the watermark, the background fill, length changes, and rings across an image switch.
-/

namespace Sys2Proof.Machine

/-- No ring: capacity 0. -/
def Ring.absent : Ring := ⟨0, 0, 0, false, 0, 0, false, false, false, 0, none⟩
def State.ring (s : State) (n : Nat) : Ring := FMap.get Ring.absent s.bind.rings n
def State.setRing (s : State) (n : Nat) (r : Ring) : State := { s with bind := { s.bind with rings := FMap.set Ring.absent s.bind.rings n r } }
/-- Does ring n exist in the running image? -/
def State.hasRing (s : State) (n : Nat) : Bool := decide ((s.ring n).cap ≠ 0)
/-- A ring in LPDDR5 (MEM). -/
def Ring.inDdr (r : Ring) : Bool := !inGran r.addr
/-- Bus address of position p. -/
def Ring.at' (r : Ring) (p : Nat) : Nat := r.addr + 4 * p
/-- Watermark as `BIND.RING_WMARK` shows it: LEN when no fill runs. -/
def Ring.mark (r : Ring) : Nat := if r.fill then r.z else r.len

/-- Read position p: 0 above the watermark of a fill, none when the memory's check fails. `flip` is found in it. -/
def State.ringRead (s : State) (r : Ring) (p flip : Nat) : Option Word × State :=
  if r.fill && decide (r.z ≤ p) && decide (p < r.len) then (some 0, s)
  else match s.readShared 2 (r.at' p) 4 flip with
    | (some bs, s1) => (some (BitVec.ofNat 32 (leNat bs)), s1)
    | (none, s1) => (none, s1)
/-- Write position p. -/
def State.ringPut (s : State) (r : Ring) (p : Nat) (w : Word) : State := (s.writeShared 2 (r.at' p) (leBytes 4 w.toNat) 0).2

/-- The fill of ring n ends. -/
def State.fillDone (s : State) (n : Nat) : State :=
  (s.setRing n { s.ring n with fill := false, z := (s.ring n).len }).setIrq R.BIND_IRQ_STATUS 2
/-- A write at position p raises the watermark past it. -/
def State.raiseMark (s : State) (n p : Nat) : State :=
  let r := s.ring n
  if r.fill ∧ r.z ≤ p then
    let s1 := s.setRing n { r with z := p + 1 }
    if r.len ≤ p + 1 then s1.fillDone n else s1
  else s

/-- A tap's delay as served: at most LEN − N; a longer one is clamped, which is flagged (R135). -/
def State.tapDelay (s : State) (n d : Nat) : Nat × State :=
  let r := s.ring n
  let most := r.len - s.nsmp
  if d ≤ most then (d, s)
  else (most, ((s.setRing n { r with clamp := true }).setIrq R.BIND_IRQ_STATUS 3).fcu' 3 1 n)
/-- A tap of ring n with delay d: N samples from (W_k − d) mod LEN, where block k began at W_k. A failed read is held-last (R30). (DEDUCED, log 35, unsafe) -/
def State.ringTap (s : State) (n d flip : Nat) : List Word × State :=
  let (d1, s1) := s.tapDelay n d
  let r := s1.ring n
  let start := (((r.blockW : Int) - d1) % r.len).toNat
  let k := heldKey 0 6 n
  let step (q : List Word × Word × State) (i : Nat) : List Word × Word × State :=
    match q.2.2.ringRead r ((start + i) % r.len) (if i = 0 then flip else 0) with
    | (some w, t) => (q.1 ++ [w], w, t)
    | (none, t) => (q.1 ++ [q.2.1], q.2.1, t)
  let (vs, last, s2) := (List.range s.nsmp).foldl step ([], s1.heldSample k, s1)
  (vs, s2.setHeld k last)

/-- Write this tick's block of ring n: N samples at W, which advances by N. A second write in the tick replaces the first (R128). (DEDUCED, log 35, unsafe) -/
def State.ringWrite (s : State) (n : Nat) (vs : List Word) : State :=
  let r := s.ring n
  if r.cap = 0 then s
  else
    let base := match r.cur with | some b => b | none => r.w
    let s1 := s.setRing n { r with cur := some base, w := (base + s.nsmp) % r.len }
    let s2 := vs.zipIdx.foldl (fun st p => (st.ringPut r ((base + p.2) % r.len) p.1).raiseMark n ((base + p.2) % r.len)) s1
    match vs.getLast? with
    | some w => s2.setHeld (heldKey 1 6 n) w
    | none => s2

/-- The word of `BIND.DRING`. -/
def dringWord (len : Nat) (zero : Bool) : Nat := len + (if zero then 0x80000000 else 0)
/-- What `BIND.DRING` reads for ring n (R10). -/
def State.showRing (s : State) (n w : Nat) : State := { s with bind := { s.bind with dring := FMap.set 0 s.bind.dring n w } }
/-- A length change of ring n takes effect (R137): refused outside 16 to CAP; shrink cuts W, growth may start a fill. (DEDUCED, log 35, unsafe) -/
def State.ringSetLen (s : State) (n len : Nat) (zero : Bool) : State :=
  let r := s.ring n
  if r.cap = 0 then s
  else if len < 16 ∨ r.cap < len then (s.setRing n { r with refused := true }).fcu' 3 2 n
  else if len < r.len then
    let s1 := s.setRing n { r with len := len, zero := zero, w := r.w % len }
    if r.fill ∧ len ≤ r.z then s1.fillDone n else s1
  else if r.len < len then
    if r.fill then s.setRing n { r with len := len, zero := zero }
    else if zero then s.setRing n { r with len := len, zero := zero, z := r.len, fill := true }
    else s.setRing n { r with len := len, zero := zero, z := len }
  else s.setRing n { r with zero := zero }

/-- The rings, ascending. -/
def State.ringNums (s : State) : List Nat := s.bind.rings.map (fun e => e.1)
/-- One position of the background fill: the lowest filling ring of the memory zeroes its position Z and raises Z. -/
def State.fillOne (s : State) (ddr : Bool) : State :=
  match s.ringNums.find? (fun n => (s.ring n).fill && decide ((s.ring n).inDdr = ddr)) with
  | none => s
  | some n => (s.ringPut (s.ring n) (s.ring n).z 0).raiseMark n (s.ring n).z
/-- The background fill zeroes `count` positions in the Granary rings or the LPDDR5 rings. -/
def State.ringFill (s : State) (ddr : Bool) : Nat → State
  | 0 => s
  | k + 1 => (s.fillOne ddr).ringFill ddr k

/-- A ring at the end of a tick: a tick without a write wrote held-last samples (R135). -/
def State.ringClose (s : State) (n : Nat) : State :=
  let s1 := if (s.ring n).cur.isSome then s else s.ringWrite n (List.replicate s.nsmp (s.heldSample (heldKey 1 6 n)))
  let r := s1.ring n
  s1.setRing n { r with blockW := r.cur.getD r.w, cur := none }
/-- Every ring at the end of a tick. -/
def State.ringBoundary (s : State) : State := s.ringNums.foldl (fun st n => st.ringClose n) s
/-- At a boundary the staged length applies to the ring that `BIND.RING_SEL` names then (R137, R149); where it names none, to no ring. -/
def State.ringStaged (s : State) : State :=
  match s.bind.stage with
  | some (len, zero) =>
    let n := s.fld R.BIND_RING_SEL
    ({ s with bind := { s.bind with stage := none } }.ringSetLen n len zero).showRing n (dringWord len zero)
  | none => s

/-- The rings of a new image (R136): a ring with the same number and address keeps W and its content and takes the new length; any other
starts with W = 0, with ZERO_ON_GROW filled from 0. `BIND.DRING` shows the loaded lengths. (DEDUCED, log 35, unsafe) -/
def State.ringSwitch (s : State) (new : List RingEnt) (nsmp : Nat) : State :=
  let old := s.bind.rings
  let fresh (e : RingEnt) : Ring := ⟨e.addr, e.cap, e.len, e.zero, 0, if e.zero then 0 else e.len, e.zero, false, false, e.len - nsmp, none⟩
  let keep (n : Nat) (e : RingEnt) : Bool := let r := FMap.get Ring.absent old n; decide (r.cap ≠ 0) && decide (r.addr = e.addr)
  let put (m : FMap Ring) (p : RingEnt × Nat) : FMap Ring :=
    FMap.set Ring.absent m p.2 (if keep p.2 p.1 then { FMap.get Ring.absent old p.2 with cap := p.1.cap } else fresh p.1)
  let shown := new.zipIdx.foldl (fun m (p : RingEnt × Nat) => FMap.set 0 m p.2 (dringWord p.1.len p.1.zero)) []
  let s1 := { s with bind := { s.bind with rings := new.zipIdx.foldl put [], dring := shown } }
  new.zipIdx.foldl (fun st p => if keep p.2 p.1 then st.ringSetLen p.2 p.1.len p.1.zero else st) s1

end Sys2Proof.Machine
end

