-- ==== Sys2Proof/Machine/BindCheck.lean ====
section
/-!
DEFINITION. The checks of descriptor lists that the loader and a route commit share (R125, R126, R129, R132).
-/

namespace Sys2Proof.Machine

/-- What references are checked against: an image's maps, as far as its endpoints need them. -/
structure RefCtx where
  nsmp  : Nat
  has   : Nat → Bool
  half  : Nat × Nat
  sap   : List SapMapEnt
  strm  : StrmMap
  chain : ChainMap
  amp   : List AmpMapEnt
  silo  : Option (Nat × Nat)
  rings : List RingEnt
  marv  : Bool

/-- X and Y words of a placement: first and last (Table 4-1). -/
def xyHalf (placement : Nat) : Nat × Nat := if placement = 0 then (0, 0x3FFF) else if placement = 1 then (0x4000, 0x7FFF) else (0, 0x7FFF)
/-- Does an image have a Marver command list? -/
def Image.hasList (i : Image) : Bool := match i.marv with | some m => !m.cmds.isEmpty | none => false
/-- The context of an image. -/
def Image.ctx (i : Image) : RefCtx :=
  ⟨samplesOf i.rate, i.has, xyHalf i.placement, i.sap, i.strm, i.chain, i.amp, i.silo, i.rings, i.hasList⟩

/-- Is a chain slot defined in the direction (R316)? -/
def ChainMap.refOk (m : ChainMap) (gather : Bool) (port slot : Nat) : Bool :=
  let act := FMap.get 0 m.action slot
  if gather then (decide (port = 1) && decide (slot < m.ringSlots) && decide (act ≠ 1)) ||
    (decide (port = 0) && m.spur && decide (slot < m.spurRx))
  else (decide (port = 2) && decide (slot < m.ringSlots) && decide (act = 1)) ||
    (decide (port = 0) && m.spur && decide (slot < m.spurTx))
/-- Is one channel's reference defined, of a type that the direction allows, with a delay that its ring can serve? An image with a SILO_MAP defines all 64
replay channels, one without defines none: R125 does not say which. (DESIGN CHOICE, log 71, unsafe) -/
def RefCtx.refOk (x : RefCtx) (gather : Bool) (type i delay : Nat) : Bool :=
  match type with
  | 0 =>
    let e := sapEntry x.sap (i / 32)
    decide (i < 512) && bitOf (if gather then e.rxMask else e.txMask) (i % 32)
  | 1 => decide (i < 8192) &&
    (if gather then x.strm.rx.any (fun e => e.stream == i / 64 && decide (i % 64 < e.chans))
     else x.strm.tx.any (fun e => e.stream == i / 64 && decide (i % 64 < e.chans)))
  | 2 => decide (i < 12288) && x.chain.refOk gather (i / 4096) (i % 4096)
  | 3 => gather && decide (i < 64) && x.silo.isSome
  | 4 => !gather && x.amp.any (fun e => e.chan == i)
  | 5 => !gather && (match x.silo with | some (ns, _) => decide (i < ns) | none => false)
  | 6 => match x.rings[i]? with | some r => !gather || decide (delay + x.nsmp ≤ r.cap) | none => false
  | 7 => !gather && decide (i < 128) && x.marv
  | 8 => decide (i + x.nsmp ≤ 0x800000)
  | _ => false
/-- Is every channel's reference of a descriptor good? -/
def RefCtx.refsOk (x : RefCtx) (gather : Bool) (d : Desc) : Bool :=
  (List.range d.count).all (fun c => x.refOk gather (refType d.w0) (d.index c) d.delay)

/-- Are the fields of a gather descriptor in range (Table 5-2)? -/
def gatherFieldsOk (d : Desc) : Bool :=
  decide (d.cast ≠ 3) && decide (bits d.w1 22 15 = 0) && decide (1 ≤ d.count) && decide (d.count ≤ 32) && decide (d.layout ≠ 3) &&
  decide (bits d.w2 4 1 = 0) && decide (bits d.w3 31 24 = 0) && (decide (refType d.w0 = 6) || decide (d.delay = 0))
/-- Are the fields of a scatter descriptor in range? -/
def scatterFieldsOk (d : Desc) : Bool :=
  decide (d.origin ≤ 1) && decide (bits d.w1 22 15 = 0) && decide (1 ≤ d.stride) && decide (1 ≤ d.count) && decide (d.count ≤ 32) &&
  decide (bits d.w2 4 0 = 0) && decide (d.w3 = 0) &&
  (if d.origin = 0 then decide (d.layout ≠ 3)
   else decide (bits d.w1 29 23 = 0) && decide (bits d.w1 14 8 = 0) && decide (d.sheaf = 0) && decide (d.driver + d.count ≤ 256))
/-- Does a descriptor's window lie in the half, and does it reach a core with a program? -/
def RefCtx.windowOk (x : RefCtx) (gather : Bool) (d : Desc) : Bool :=
  let inside := (windowWords d x.nsmp).all (fun w => decide (x.half.1 ≤ w) && decide (w ≤ x.half.2))
  if gather then inside && (if d.cast = 0 then x.has d.core else !(castCores d x.has).isEmpty)
  else decide (d.origin = 1) || (inside && x.has d.core)

/-- FABRIC cycles of a descriptor (Table 5-4); `ddr` says which rings lie in LPDDR5. -/
def descCost (nsmp : Nat) (ddr : Nat → Bool) (d : Desc) : Nat :=
  if refType d.w0 = 6 ∧ (List.range d.count).any (fun c => ddr (d.index c)) then 24 + d.count * nsmp else 10 + (d.count * nsmp + 1) / 2
/-- Does ring i of a BIND_RING list lie in LPDDR5? -/
def entDdr (rings : List RingEnt) (i : Nat) : Bool := match rings[i]? with | some r => !inGran r.addr | none => false
/-- Cost of both lists. -/
def listsCost (nsmp : Nat) (rings : List RingEnt) (g sc : List Desc) : Nat :=
  ((g ++ sc).map (descCost nsmp (entDdr rings))).foldl (· + ·) 0
/-- The sheaves of a gather list: core and number. -/
def sheavesOf (has : Nat → Bool) (g : List Desc) : List Nat :=
  (g.flatMap (fun d => (castSheaves d has).map (fun p => sheafKey p.1 p.2))).eraseDups
/-- The sheaves that a gather list completes. -/
def boundBy (has : Nat → Bool) (g : List Desc) : List Nat := sheavesOf has (g.filter Desc.last)

/-- The first entry of a list that a check refuses. -/
def firstBad (ok : Desc → Bool) (l : List Desc) : Option Nat := (l.zipIdx.find? (fun p => !ok p.1)).map (fun p => p.2)
/-- The check of a shadow against an image (R132): code, table and entry of the first refusal. Where several apply the order is RT_REF, RT_WINDOW, RT_COST,
RT_SHEAF, and RT_COST and a sheaf without LAST show table 0, entry 0: R132 gives neither. (DESIGN CHOICE, log 71, unsafe) -/
def routeCheck (i : Image) (g sc rc : List Desc) : Option (Nat × Nat × Nat) :=
  let x := i.ctx
  let sheaves := sheavesOf x.has i.gather
  let named (d : Desc) : Bool := (castSheaves d x.has).all (fun p => sheaves.contains (sheafKey p.1 p.2))
  let outNamed (d : Desc) : Bool := decide (d.origin = 1) || sheaves.any (fun k => decide (k = sheafKey d.core d.sheaf))
  let lasts := boundBy x.has g
  match firstBad (fun d => gatherFieldsOk d && x.refsOk true d) g with
  | some e => some (0x40, 0, e)
  | none =>
  match firstBad (fun d => scatterFieldsOk d && x.refsOk false d) sc with
  | some e => some (0x40, 1, e)
  | none =>
  match firstBad (fun d => decide (d.w0 < i.rings.length)) rc with
  | some e => some (0x40, 3, e)
  | none =>
  match firstBad (x.windowOk true) g with
  | some e => some (0x41, 0, e)
  | none =>
  match firstBad (x.windowOk false) sc with
  | some e => some (0x41, 1, e)
  | none =>
  if i.bindDecl < listsCost x.nsmp i.rings g sc then some (0x42, 0, 0)
  else
    match firstBad named g with
    | some e => some (0x43, 0, e)
    | none =>
    match firstBad outNamed sc with
    | some e => some (0x43, 1, e)
    | none => if sheaves.all (fun k => lasts.contains k) then none else some (0x43, 0, 0)

end Sys2Proof.Machine
end

