-- ==== Sys2Proof/Machine/IatorDecode.lean ====
section
/-!
DEFINITION. Iator instruction words (R75–R95): the decoded form, the decoder from 48-bit words, rejecting every reserved class,
sub-operation, code and bit, and the encoder back.
-/

namespace Sys2Proof.Machine

/-- FORM of a memory move or long operation (R77). -/
inductive Form where
  | pair | bcast | lane0 | lane1
  deriving DecidableEq, Repr
/-- MODE of a memory move (Table 2-5). -/
inductive AMode where
  | postOf | postInc | postDec | indexed | indirect
  deriving DecidableEq, Repr
/-- F0–F3 or A–D: read destination, LDI form, long-operation register (Table 3-4). -/
inductive RegFA where
  | f (i : Fin 4)
  | acc (i : Fin 4)
  deriving DecidableEq, Repr
/-- A register that a memory write stores: F, accumulator, or rounded accumulator (Table 3-4). -/
inductive WReg where
  | f (i : Fin 4)
  | acc (i : Fin 4)
  | rnd (i : Fin 4)
  deriving DecidableEq, Repr
/-- Sources of Table 3-5. -/
inductive SrcReg where
  | f (i : Fin 4) | acc (i : Fin 4) | rnd (i : Fin 4)
  | pt (i : Fin 8) | off (i : Fin 8) | md (i : Fin 8) | ga (i : Fin 4)
  | lc | la | csr | cid | nsmp | tnlo | tnhi | iepo
  deriving DecidableEq, Repr
/-- Destinations of Table 3-5. -/
inductive DstReg where
  | f (i : Fin 4) | acc (i : Fin 4)
  | pt (i : Fin 8) | off (i : Fin 8) | md (i : Fin 8) | ga (i : Fin 4)
  | csr
  deriving DecidableEq, Repr
/-- A move field (Table 3-3). -/
inductive Move where
  | none
  | read  (form : Form) (ptr : Fin 4) (mode : AMode) (reg : RegFA)
  | write (form : Form) (ptr : Fin 4) (mode : AMode) (reg : WReg)
  /-- P-data read: lane pair (split word) or broadcast (R81). -/
  | pdata (bcast : Bool) (ptr : Fin 4) (mode : AMode) (reg : RegFA)
  | reg   (src : SrcReg) (dst : DstReg) (swap : Bool)
  deriving DecidableEq, Repr

/-- CLASS 0x4 (Table 3-7). -/
inductive Op2 where
  | add | sub | tfr | cmp | max | min | maxa
  deriving DecidableEq, Repr
/-- CLASS 0x5 (Table 3-7). -/
inductive Op1 where
  | clr | rnd | neg | abs | asl | asr | fold | sat
  deriving DecidableEq, Repr
/-- CLASS 0x6 (R94). -/
inductive GOp where
  | gld | gst | gadd | gswp
  deriving DecidableEq, Repr

/-- A decoded instruction. -/
inductive Iop where
  | nop  (x y : Move)
  | tend (x y : Move)
  | rts  (x y : Move)
  | doI  (count : BitVec 16) (la : BitVec 14)
  | dor  (src : SrcReg) (bound : BitVec 16) (la : BitVec 14)
  | bra  (target : BitVec 14)
  | bcc  (cond : Fin 12) (lsel : Fin 4) (target : BitVec 14)
  | jsr  (target : BitVec 14)
  | ldi  (dst : DstReg) (imm : BitVec 24)
  | mul  (mac neg rnd : Bool) (dst s1 s2 : Fin 4) (x y : Move)
  | two  (op : Op2) (src : RegFA) (dst : Fin 4) (x y : Move)
  | one  (op : Op1) (dst : Fin 4) (count : BitVec 6) (x y : Move)
  | gran (op : GOp) (wide : Bool) (form : Form) (reg : RegFA) (ga : Fin 4) (post : Bool) (x y : Move)
  | hop  (pop wide : Bool) (form : Form) (reg : Fin 4) (hopper : BitVec 6) (x y : Move)
  deriving DecidableEq, Repr

/-! Fields -/

/-- Bits hi:lo of a word, as a number. -/
def fieldOf (w hi lo : Nat) : Nat := w / 2 ^ lo % 2 ^ (hi + 1 - lo)
def decForm (v : Nat) : Form := if v = 0 then .pair else if v = 1 then .bcast else if v = 2 then .lane0 else .lane1
def encForm : Form → Nat | .pair => 0 | .bcast => 1 | .lane0 => 2 | .lane1 => 3
def decMode (v : Nat) : Option AMode :=
  if v = 0 then some .postOf else if v = 1 then some .postInc else if v = 2 then some .postDec
  else if v = 3 then some .indexed else if v = 4 then some .indirect else none
def encMode : AMode → Nat | .postOf => 0 | .postInc => 1 | .postDec => 2 | .indexed => 3 | .indirect => 4
/-- A number cut to four or eight values. -/
def fin4 (v : Nat) : Fin 4 := ⟨v % 4, Nat.mod_lt _ (by decide)⟩
def fin8 (v : Nat) : Fin 8 := ⟨v % 8, Nat.mod_lt _ (by decide)⟩
def decRegFA (v : Nat) : Option RegFA :=
  if v < 4 then some (.f (fin4 v)) else if v < 8 then some (.acc (fin4 v)) else none
def encRegFA : RegFA → Nat | .f i => i.val | .acc i => 4 + i.val
def decWReg (v : Nat) : Option WReg :=
  if v < 4 then some (.f (fin4 v)) else if v < 8 then some (.acc (fin4 v)) else if v < 12 then some (.rnd (fin4 v)) else none
def encWReg : WReg → Nat | .f i => i.val | .acc i => 4 + i.val | .rnd i => 8 + i.val
/-- Table 3-5 as a source. -/
def decSrc (v : Nat) : Option SrcReg :=
  if v < 4 then some (.f (fin4 v)) else if v < 8 then some (.acc (fin4 v)) else if v < 12 then some (.rnd (fin4 v))
  else if v < 16 then none
  else if v < 24 then some (.pt (fin8 v)) else if v < 32 then some (.off (fin8 v)) else if v < 40 then some (.md (fin8 v))
  else if v < 44 then some (.ga (fin4 v))
  else if v = 44 then some .lc else if v = 45 then some .la else if v = 46 then some .csr
  else if v = 48 then some .cid else if v = 49 then some .nsmp else if v = 50 then some .tnlo
  else if v = 51 then some .tnhi else if v = 52 then some .iepo else none
def encSrc : SrcReg → Nat
  | .f i => i.val | .acc i => 4 + i.val | .rnd i => 8 + i.val | .pt i => 16 + i.val | .off i => 24 + i.val
  | .md i => 32 + i.val | .ga i => 40 + i.val | .lc => 44 | .la => 45 | .csr => 46
  | .cid => 48 | .nsmp => 49 | .tnlo => 50 | .tnhi => 51 | .iepo => 52
/-- Table 3-5 as a destination: source-only and reserved codes are rejected (R82). -/
def decDst (v : Nat) : Option DstReg :=
  if v < 4 then some (.f (fin4 v)) else if v < 8 then some (.acc (fin4 v))
  else if v < 16 then none
  else if v < 24 then some (.pt (fin8 v)) else if v < 32 then some (.off (fin8 v)) else if v < 40 then some (.md (fin8 v))
  else if v < 44 then some (.ga (fin4 v)) else if v = 46 then some .csr else none
def encDst : DstReg → Nat
  | .f i => i.val | .acc i => 4 + i.val | .pt i => 16 + i.val | .off i => 24 + i.val
  | .md i => 32 + i.val | .ga i => 40 + i.val | .csr => 46
/-- Is a code per-lane (R80)? -/
def SrcReg.perLane : SrcReg → Bool | .f _ => true | .acc _ => true | .rnd _ => true | _ => false
def DstReg.perLane : DstReg → Bool | .f _ => true | .acc _ => true | _ => false

/-- A move field; `x` says that it is the X field (KIND 100 stands there only). Table 3-3, R81, R82. -/
def decMove (x : Bool) (v : Nat) : Option Move :=
  let kind := fieldOf v 15 13
  let form := fieldOf v 12 11
  let ptr := fin4 (fieldOf v 10 9)
  let mode := decMode (fieldOf v 8 6)
  let reg := fieldOf v 5 2
  if kind = 0 then (if fieldOf v 12 0 = 0 then some .none else none)
  else if kind = 3 then
    match decSrc (fieldOf v 12 7), decDst (fieldOf v 6 1) with
    | some sr, some d =>
      if fieldOf v 0 0 = 1 ∧ ¬(sr.perLane ∧ d.perLane) then none else some (.reg sr d (decide (fieldOf v 0 0 = 1)))
    | _, _ => none
  else if fieldOf v 1 0 ≠ 0 then none
  else if kind = 1 then
    match mode, decRegFA reg with
    | some m, some r => some (.read (decForm form) ptr m r)
    | _, _ => none
  else if kind = 2 then
    if form = 1 then none
    else match mode, decWReg reg with
      | some m, some r => some (.write (decForm form) ptr m r)
      | _, _ => none
  else if kind = 4 then
    if x = false ∨ 2 ≤ form then none
    else match mode, decRegFA reg with
      | some m, some r => some (.pdata (decide (form = 1)) ptr m r)
      | _, _ => none
  else none
/-- The 16 bits of a move field. -/
def encMove : Move → Nat
  | .none => 0
  | .read f p m r => 1 * 8192 + encForm f * 2048 + p.val * 512 + encMode m * 64 + encRegFA r * 4
  | .write f p m r => 2 * 8192 + encForm f * 2048 + p.val * 512 + encMode m * 64 + encWReg r * 4
  | .pdata b p m r => 4 * 8192 + (if b then 2048 else 0) + p.val * 512 + encMode m * 64 + encRegFA r * 4
  | .reg sr d sw => 3 * 8192 + encSrc sr * 128 + encDst d * 2 + (if sw then 1 else 0)

def decOp2 (v : Nat) : Option Op2 :=
  if v = 0 then some .add else if v = 1 then some .sub else if v = 2 then some .tfr else if v = 3 then some .cmp
  else if v = 4 then some .max else if v = 5 then some .min else if v = 6 then some .maxa else none
def encOp2 : Op2 → Nat | .add => 0 | .sub => 1 | .tfr => 2 | .cmp => 3 | .max => 4 | .min => 5 | .maxa => 6
def decOp1 (v : Nat) : Option Op1 :=
  if v = 0 then some .clr else if v = 1 then some .rnd else if v = 2 then some .neg else if v = 3 then some .abs
  else if v = 4 then some .asl else if v = 5 then some .asr else if v = 6 then some .fold else if v = 7 then some .sat else none
def encOp1 : Op1 → Nat | .clr => 0 | .rnd => 1 | .neg => 2 | .abs => 3 | .asl => 4 | .asr => 5 | .fold => 6 | .sat => 7
def decGOp (v : Nat) : GOp := if v = 0 then .gld else if v = 1 then .gst else if v = 2 then .gadd else .gswp
def encGOp : GOp → Nat | .gld => 0 | .gst => 1 | .gadd => 2 | .gswp => 3

/-- Does COUNT fit the operation (R84): 1–55 for shifts, 0 for the others? -/
def countOk (op : Op1) (c : Nat) : Bool :=
  match op with
  | .asl => decide (1 ≤ c ∧ c ≤ 55)
  | .asr => decide (1 ≤ c ∧ c ≤ 55)
  | _ => decide (c = 0)
/-- The encodings of R94 that the loader refuses. -/
def granOk (op : GOp) (wide : Bool) (form : Form) (reg : RegFA) : Bool :=
  (match reg with | .f _ => !wide | .acc _ => true) &&
  (match op with
   | .gld => true
   | .gst => decide (form ≠ .bcast)
   | .gadd => decide (form ≠ .pair ∧ form ≠ .bcast)
   | .gswp => decide (form ≠ .pair ∧ form ≠ .bcast))
/-- FORMs of R95. -/
def hopOk (pop : Bool) (form : Form) : Bool :=
  match form with
  | .pair => false
  | .bcast => pop
  | _ => true

/-- Extended instructions, Table 3-8. -/
def decExt (v : Nat) : Option Iop :=
  let sub := fieldOf v 43 40
  let la := BitVec.ofNat 14 (fieldOf v 13 0)
  let n := BitVec.ofNat 16 (fieldOf v 31 16)
  if sub = 0 then
    if fieldOf v 39 32 = 0 ∧ fieldOf v 15 14 = 0 then some (.doI n la) else none
  else if sub = 1 then
    if fieldOf v 39 38 = 0 ∧ fieldOf v 15 14 = 0 then
      match decSrc (fieldOf v 37 32) with
      | some r => some (.dor r n la)
      | none => none
    else none
  else if sub = 2 then (if fieldOf v 39 14 = 0 then some (.bra la) else none)
  else if sub = 3 then
    if h : fieldOf v 39 36 < 12 ∧ fieldOf v 33 14 = 0 then some (.bcc ⟨fieldOf v 39 36, h.1⟩ (fin4 (fieldOf v 35 34)) la) else none
  else if sub = 4 then (if fieldOf v 39 14 = 0 then some (.jsr la) else none)
  else if sub = 5 then
    if fieldOf v 39 38 = 0 ∧ fieldOf v 31 24 = 0 then
      match decDst (fieldOf v 37 32) with
      | some d => some (.ldi d (BitVec.ofNat 24 (fieldOf v 23 0)))
      | none => none
    else none
  else none

/-- The operation part of a word whose moves are `x` and `y`. -/
def decOp (v : Nat) (x y : Move) : Option Iop :=
  let cls := fieldOf v 47 44
  if cls = 0 then
    if fieldOf v 39 32 ≠ 0 then none
    else if fieldOf v 43 40 = 0 then some (.nop x y)
    else if fieldOf v 43 40 = 1 then some (.tend x y)
    else if fieldOf v 43 40 = 2 then some (.rts x y) else none
  else if cls = 2 ∨ cls = 3 then
    if fieldOf v 35 32 ≠ 0 then none
    else some (.mul (decide (cls = 3)) (decide (fieldOf v 43 43 = 1)) (decide (fieldOf v 42 42 = 1)) (fin4 (fieldOf v 41 40))
      (fin4 (fieldOf v 39 38)) (fin4 (fieldOf v 37 36)) x y)
  else if cls = 4 then
    if fieldOf v 34 32 ≠ 0 then none
    else match decOp2 (fieldOf v 43 40), decRegFA (fieldOf v 39 37) with
      | some o, some r => some (.two o r (fin4 (fieldOf v 36 35)) x y)
      | _, _ => none
  else if cls = 5 then
    match decOp1 (fieldOf v 43 40) with
    | some o =>
      if countOk o (fieldOf v 37 32) then some (.one o (fin4 (fieldOf v 39 38)) (BitVec.ofNat 6 (fieldOf v 37 32)) x y) else none
    | none => none
  else if cls = 6 then
    if fieldOf v 32 32 ≠ 0 then none
    else match decRegFA (fieldOf v 38 36) with
      | some r =>
        let o := decGOp (fieldOf v 43 42)
        let w := decide (fieldOf v 41 41 = 1)
        let f := decForm (fieldOf v 40 39)
        if granOk o w f r then some (.gran o w f r (fin4 (fieldOf v 35 34)) (decide (fieldOf v 33 33 = 1)) x y) else none
      | none => none
  else if cls = 7 then
    let p := decide (fieldOf v 43 43 = 1)
    let f := decForm (fieldOf v 41 40)
    if hopOk p f then
      some (.hop p (decide (fieldOf v 42 42 = 1)) f (fin4 (fieldOf v 39 38)) (BitVec.ofNat 6 (fieldOf v 37 32)) x y)
    else none
  else none

/-- Decode an instruction word; `none` for a word the loader refuses by R75 or by a single-field rule of R82, R94 or R95. -/
def decodeNat (v : Nat) : Option Iop :=
  if fieldOf v 47 44 = 1 then decExt v
  else match decMove true (fieldOf v 31 16), decMove false (fieldOf v 15 0) with
    | some x, some y => decOp v x y
    | _, _ => none
/-- Decode a 48-bit word. -/
def decodeIop (w : IWord) : Option Iop := decodeNat w.toNat

/-- The operation field of a word, bits 47:32. -/
def encTop : Iop → Nat
  | .nop _ _ => 0x0000
  | .tend _ _ => 0x0100
  | .rts _ _ => 0x0200
  | .doI _ _ => 0x1000
  | .dor r _ _ => 0x1100 + encSrc r
  | .bra _ => 0x1200
  | .bcc c l _ => 0x1300 + c.val * 16 + l.val * 4
  | .jsr _ => 0x1400
  | .ldi d _ => 0x1500 + encDst d
  | .mul m n r d a b _ _ =>
    (if m then 0x3000 else 0x2000) + (if n then 0x800 else 0) + (if r then 0x400 else 0) + d.val * 256 + a.val * 64 + b.val * 16
  | .two o r d _ _ => 0x4000 + encOp2 o * 256 + encRegFA r * 32 + d.val * 8
  | .one o d c _ _ => 0x5000 + encOp1 o * 256 + d.val * 64 + c.toNat
  | .gran o w f r g p _ _ =>
    0x6000 + encGOp o * 1024 + (if w then 512 else 0) + encForm f * 128 + encRegFA r * 16 + g.val * 4 + (if p then 2 else 0)
  | .hop p w f r h _ _ => 0x7000 + (if p then 0x800 else 0) + (if w then 0x400 else 0) + encForm f * 256 + r.val * 64 + h.toNat
/-- The low half of a word, bits 31:0. -/
def encLow : Iop → Nat
  | .nop x y => encMove x * 65536 + encMove y
  | .tend x y => encMove x * 65536 + encMove y
  | .rts x y => encMove x * 65536 + encMove y
  | .doI n la => n.toNat * 65536 + la.toNat
  | .dor _ n la => n.toNat * 65536 + la.toNat
  | .bra t => t.toNat
  | .bcc _ _ t => t.toNat
  | .jsr t => t.toNat
  | .ldi _ i => i.toNat
  | .mul _ _ _ _ _ _ x y => encMove x * 65536 + encMove y
  | .two _ _ _ x y => encMove x * 65536 + encMove y
  | .one _ _ _ x y => encMove x * 65536 + encMove y
  | .gran _ _ _ _ _ _ x y => encMove x * 65536 + encMove y
  | .hop _ _ _ _ _ x y => encMove x * 65536 + encMove y
/-- Encode an instruction: the inverse of `decodeIop` on the instructions that `Iop.ok` admits. -/
def encodeIop (i : Iop) : IWord := BitVec.ofNat 48 (encTop i * 4294967296 + encLow i)

/-- A move that its field admits: P-data in the X field only, no broadcast write, SWAP between per-lane registers only (R82). -/
def Move.ok (x : Bool) : Move → Bool
  | .none => true
  | .read _ _ _ _ => true
  | .write f _ _ _ => decide (f ≠ .bcast)
  | .pdata _ _ _ _ => x
  | .reg sr d sw => !sw || (sr.perLane && d.perLane)
/-- The moves of an instruction. -/
def Iop.moves : Iop → Move × Move
  | .nop x y => (x, y)
  | .tend x y => (x, y)
  | .rts x y => (x, y)
  | .doI _ _ => (.none, .none)
  | .dor _ _ _ => (.none, .none)
  | .bra _ => (.none, .none)
  | .bcc _ _ _ => (.none, .none)
  | .jsr _ => (.none, .none)
  | .ldi _ _ => (.none, .none)
  | .mul _ _ _ _ _ _ x y => (x, y)
  | .two _ _ _ x y => (x, y)
  | .one _ _ _ x y => (x, y)
  | .gran _ _ _ _ _ _ x y => (x, y)
  | .hop _ _ _ _ _ x y => (x, y)
/-- Instructions that have an encoding: fields in range and moves that their fields admit. -/
def Iop.ok (i : Iop) : Bool :=
  i.moves.1.ok true && i.moves.2.ok false &&
  (match i with
   | .one o _ c _ _ => countOk o c.toNat
   | .gran o w f r _ _ _ _ => granOk o w f r
   | .hop p _ f _ _ _ _ => hopOk p f
   | _ => true)

end Sys2Proof.Machine
end

