-- ==== Sys2Proof/Machine/Flags.lean ====
section
/-!
DEFINITION. Iator arithmetic results and conditions: exact integer results narrowed to 56 bits with N, Z, V and E (R48, R51, R85),
rounding (R49), saturation to 24 bits (R50), and the branch conditions of Table 3-9.
-/

namespace Sys2Proof.Machine

/-- The conditions of one lane (R51). -/
structure Cond where
  n : Bool
  z : Bool
  v : Bool
  e : Bool
  deriving DecidableEq, Repr

/-- The 56-bit accumulator of an exact result: it wraps modulo 2^56 (R48). -/
def wrap56 (i : Int) : Acc := BitVec.ofInt 56 i
/-- Does an exact result lie outside the 56-bit range (R85)? -/
def wraps56 (i : Int) : Bool := decide (i < -(2 ^ 55)) || decide (2 ^ 55 ≤ i)
/-- Does a value fit 24 bits: bits 55:47 all equal (R50)? -/
def fits24 (a : Acc) : Bool := decide (-(2 ^ 47) ≤ a.toInt) && decide (a.toInt < 2 ^ 47)
/-- Conditions of a final result with the given V (R85). -/
def condOf (a : Acc) (v : Bool) : Cond := ⟨a.msb, decide (a = 0), v, !fits24 a⟩
/-- Conditions and accumulator of an exact result. -/
def resultOf (i : Int) : Acc × Cond := (wrap56 i, condOf (wrap56 i) (wraps56 i))

/-- A 24-bit value loaded into an accumulator (R47). -/
def load24 (v : W24) : Acc := BitVec.ofInt 56 (v.toInt * 2 ^ 24)
/-- Round half up at bit 23, exactly (R49). -/
def roundExact (i : Int) : Int := (i + 2 ^ 23) / 2 ^ 24 * 2 ^ 24
/-- An integer in units of 2^-23 saturated to 24 bits, with the limit flag (R50). -/
def sat24Int (i : Int) : W24 × Bool :=
  if i < -(2 ^ 23) then (0x800000, true) else if 2 ^ 23 ≤ i then (0x7FFFFF, true) else (BitVec.ofInt 24 i, false)
/-- A 24-bit move of an accumulator that does not round: bits 47:24 with the check of R50. -/
def move24 (a : Acc) : W24 × Bool := sat24Int (a.toInt / 2 ^ 24)
/-- A rounding move: rounded without wrapping, then saturated (R49, R50). -/
def moveRnd (a : Acc) : W24 × Bool := sat24Int ((a.toInt + 2 ^ 23) / 2 ^ 24)
/-- The 32-bit form of a long operation: bits 47:16, saturated (R94). -/
def move32 (a : Acc) : Word × Bool :=
  if fits24 a then (BitVec.ofInt 32 (a.toInt / 2 ^ 16), false)
  else if a.msb then (0x80000000, true) else (0x7FFFFFFF, true)
/-- A 32-bit container loaded into an accumulator (R63). -/
def load32 (w : Word) : Acc := BitVec.ofInt 56 (w.toInt * 2 ^ 16)

/-- The product of two factors in an accumulator's units: shifted left by one place (R46). -/
def product (a b : W24) : Int := a.toInt * b.toInt * 2
/-- |SRC| as ABS forms it: the most negative value stays itself (R85). -/
def absAcc (a : Acc) : Acc := wrap56 (if a.toInt < 0 then -a.toInt else a.toInt)
/-- A left shift: zeros in, and V when a shifted-out bit or bit 55 of the result differs from the original bit 55 (R84, R85). -/
def aslResult (a : Acc) (c : Nat) : Acc × Cond := resultOf (a.toInt * 2 ^ c)
/-- A right shift with bit 55 copied in. -/
def asrResult (a : Acc) (c : Nat) : Acc × Cond := resultOf (a.toInt / 2 ^ c)
/-- SAT (Table 3-7): the value and the limit flag. -/
def satResult (a : Acc) : Acc × Bool :=
  if fits24 a then (a, false) else if a.msb then (0xFF800000000000, true) else (0x007FFFFF000000, true)

/-- The four condition bits N Z V E as CSR holds them. -/
def Cond.bits (c : Cond) : Nat := (if c.n then 8 else 0) + (if c.z then 4 else 0) + (if c.v then 2 else 0) + (if c.e then 1 else 0)
/-- CSR bits 9:0 with both lanes' conditions replaced (Table 2-4). -/
def csrConds (csr : BitVec 10) (c0 c1 : Cond) : BitVec 10 :=
  BitVec.ofNat 10 (csr.toNat / 256 * 256 + c1.bits * 16 + c0.bits)
/-- CSR bits 9:0 with limit bits set. -/
def csrLimits (csr : BitVec 10) (l0 l1 : Bool) : BitVec 10 :=
  csr ||| (if l0 then 0x100 else 0) ||| (if l1 then 0x200 else 0)

/-- One condition of Table 3-9 in one lane. -/
def condHolds (cond : Nat) (csr : BitVec 10) (lane : Nat) : Bool :=
  let b := csr.toNat / 2 ^ (4 * lane)
  let n := bitOf b 3
  let z := bitOf b 2
  let v := bitOf b 1
  let e := bitOf b 0
  let l := bitOf csr.toNat (8 + lane)
  match cond with
  | 0 => n
  | 1 => !n
  | 2 => z
  | 3 => !z
  | 4 => v
  | 5 => !v
  | 6 => e
  | 7 => !e
  | 8 => !n && !z
  | 9 => n || z
  | 10 => l
  | _ => !l
/-- A Bcc is taken (R90): lane 0, lane 1, either, both. -/
def taken (cond lsel : Nat) (csr : BitVec 10) : Bool :=
  match lsel with
  | 0 => condHolds cond csr 0
  | 1 => condHolds cond csr 1
  | 2 => condHolds cond csr 0 || condHolds cond csr 1
  | _ => condHolds cond csr 0 && condHolds cond csr 1

end Sys2Proof.Machine
end

