-- ==== Sys2Proof/Machine/Marver.lean ====
section
/-!
DEFINITION. Marver: memory layout, pairs, interpolation, FIR, slew, the command list, group switches and update copies (R150–R168).
-/

namespace Sys2Proof.Machine

/-! Memory (Table 6-1) -/

def marvBase : Nat := 0x30000000
def histLen : Nat := 5376
def histAddr (src pos : Nat) : Nat := marvBase + src * 0x4000 + pos % histLen * 3
def tileAddr (t : Nat) : Nat := marvBase + 0x200000 + t * 0x60000
def firAddr (t p j : Nat) : Nat := tileAddr t + p * 144 + j % 48 * 3
def delayAddr (t p : Nat) : Nat := tileAddr t + 0x48000 + p * 4
def bankAddr (t slot bank : Nat) : Nat := tileAddr t + 0x4A000 + slot * 0xB000 + bank * 0x5800
def pairAddr (t slot bank p : Nat) : Nat := bankAddr t slot bank + p * 8
def tapAddr (t slot bank k : Nat) : Nat := bankAddr t slot bank + 0x4000 + k * 3
/-- The row of a Marver byte: three words of 3 bytes. (DEDUCED, log 39, unsafe) -/
def marvRow (a : Nat) : Nat :=
  if a < marvBase + 0x200000 then marvBase + (a - marvBase) / 0x4000 * 0x4000 + (a - marvBase) % 0x4000 / 9 * 9
  else marvBase + 0x200000 + (a - (marvBase + 0x200000)) / 0x60000 * 0x60000 + (a - (marvBase + 0x200000)) % 0x60000 / 9 * 9
/-- The rows that a run of bytes touches. -/
def marvRows (a n : Nat) : List Nat := ((List.range n).map (fun i => marvRow (a + i))).eraseDups
/-- The rows of a region are written whole: their errors are gone. -/
def State.freshRows (s : State) (a n : Nat) : State :=
  { s with mem14 := { s.mem14 with bad := s.mem14.bad.filter (fun b => !(decide (a ≤ b) && decide (b < a + n))) } }
def State.hist (s : State) (src pos : Nat) : W24 := BitVec.ofNat 24 (s.le (histAddr src pos) 3)
/-- The Binder writes a word by rewriting its row with new check bits (R152). -/
def State.setHist (s : State) (src pos : Nat) (v : W24) : State := (s.setLe (histAddr src pos) 3 v.toNat).clearBad (marvRow (histAddr src pos))
/-- Position arithmetic of the history: `a` places before `pos`. -/
def histBack (pos a : Nat) : Nat := (pos % histLen + histLen - a % histLen) % histLen

/-! Pairs (R153) -/

/-- A pair-table entry with its fields. -/
structure Pair where
  fstart : Nat
  delay  : Nat
  en     : Bool
  flen   : Nat
  gain   : Int
  deriving DecidableEq, Repr
def pairOf (w0 w1 : Nat) : Pair :=
  ⟨bits w0 30 20, bits w0 19 0, bitOf w1 30, bits w1 29 24, signedOf 24 (bits w1 23 0)⟩
/-- Does an entry keep the rules of R153? -/
def pairOk (w0 w1 : Nat) : Bool :=
  let p := pairOf w0 w1
  !bitOf w0 31 && !bitOf w1 31 && (decide (p.delay = 0) || decide (256 ≤ p.delay)) && decide (p.flen ≤ 48) &&
  decide (p.fstart + p.flen ≤ 2048)
/-- The active bank of group g (`MARV.ACT_BANK`). -/
def State.actBank (s : State) (g : Nat) : Nat := if bitOf (s.fld R.MARV_ACT_BANK) g then 1 else 0
def State.pair' (s : State) (t p : Nat) : Pair :=
  let a := pairAddr t s.marv.slot (s.actBank t) p
  pairOf (s.le a 4) (s.le (a + 4) 4)
def State.tap (s : State) (t k : Nat) : Int := signedOf 24 (s.le (tapAddr t s.marv.slot (s.actBank t) k) 3)

/-! Interpolation (R156) -/

/-- Numerator of Lagrange weight j (0..3 for P_{-1}..P_2) over 6 × 256³, from F = 256 f. -/
def lagrange (j : Nat) (f : Int) : Int :=
  match j with
  | 0 => -(f * (f - 256) * (f - 512))
  | 1 => 3 * ((f + 256) * (f - 256) * (f - 512))
  | 2 => -(3 * ((f + 256) * f * (f - 512)))
  | _ => (f + 256) * f * (f - 256)
/-- Coefficient c_j: weight × GAIN rounded half up to Q2.22. -/
def coeff (j : Nat) (f gain : Int) : Int := (2 * lagrange j f * gain + 6 * 256 ^ 3) / (2 * (6 * 256 ^ 3))
/-- v(n) at history position `pos` for integer delay d and fraction f; the flag says it saturated. (DEDUCED, log 39, unsafe) -/
def State.interp (s : State) (src pos d : Nat) (f gain : Int) : W24 × Bool :=
  let x (j : Nat) : Int := (s.hist src (histBack (pos + 1) (d + j))).toInt
  let sum := coeff 0 f gain * x 0 + coeff 1 f gain * x 1 + coeff 2 f gain * x 2 + coeff 3 f gain * x 3
  moveRnd (wrap56 (sum * 4))

/-! Slew (R155, R158) -/

/-- The change of a current delay c (1/256 sample) toward t in one tick. -/
def slewDelta (c t : Nat) (slew : Nat) : Int :=
  if c = 0 ∨ t = 0 then (t : Int) - c
  else if slew = 0 then (t : Int) - c
  else clampInt (-slew) slew ((t : Int) - c)
/-- The delay of sample n in units of 2^-20 sample: on the way, or the target itself when either end is 0. -/
def delayAt (c t : Nat) (delta : Int) (nsmp n : Nat) : Nat :=
  if c = 0 ∨ t = 0 then t * 4096
  else ((c : Int) * 4096 + delta * 4096 * (n + 1) / nsmp).toNat

/-! One pair for one tick -/

/-- The first history position of the block Marver works on: the block scattered in the previous tick (R152). -/
def State.marvBlock (s : State) : Nat := histBack (s.fld R.MARV_HIST_WPTR) s.nsmp

/-- Sample n of an enabled pair: v(n) goes to the FIR line, the pair's output into the partial sum (R156, R157). -/
def State.pairSample (s : State) (t src l : Nat) (q : Pair) (c : Nat) (delta : Int) (n : Nat) : State :=
  let p := 16 * src + l
  let pos := s.marvBlock + n
  let d := delayAt c q.delay delta s.nsmp n
  let (v, sat) := s.interp src pos (d / 1048576) ((d / 4096 % 256 : Nat) : Int) q.gain
  let s1 := s.setLe (firAddr t p pos) 3 v.toNat
  let s2 := if sat then (s1.orFld R.MARV_LIMIT_INTERP (2 ^ t)).setIrq R.MARV_IRQ_STATUS 3 else s1
  let out : Int :=
    if q.flen = 0 then v.toInt * 2 ^ 24
    else 4 * ((List.range q.flen).map (fun k =>
      s2.tap t (q.fstart + k) * (BitVec.ofNat 24 (s2.le (firAddr t p (histBack pos k)) 3)).toInt)).foldl (· + ·) 0
  let key := (16 * t + l) * 16 + n
  { s2 with marv := { s2.marv with part := FMap.set 0 s2.marv.part key (wrap56 ((FMap.get 0 s2.marv.part key).toInt + out)) } }
/-- A pair is swept: its N samples, then its new current delay (R158). A pair with EN = 0 contributes nothing; its delay stays. -/
def State.sweepPair (s : State) (t src l : Nat) : State :=
  let p := 16 * src + l
  let q := s.pair' t p
  if q.en then
    let c := s.le (delayAddr t p) 4 / 4096
    let delta := slewDelta c q.delay (FMap.get 0 s.marv.slew t)
    let s1 := (List.range s.nsmp).foldl (fun st n => st.pairSample t src l q c delta n) s
    s1.setLe (delayAddr t p) 4 (((c : Int) + delta).toNat * 4096)
  else s
/-- The cycles of a pair (Table 6-4). -/
def State.pairCost (s : State) (t p : Nat) : Nat :=
  let q := s.pair' t p
  if q.en then (4 + q.flen) * s.nsmp + 2 else 1

/-- Sweep the pairs of one lane in ascending source order while its running cost stays within `budget` (R161). -/
def State.sweepLane (s : State) (t l budget : Nat) : List Nat → Nat → State
  | [], _ => s
  | src :: r, spent =>
    let spent' := spent + s.pairCost t (16 * src + l)
    if spent' ≤ budget then (s.sweepPair t src l).sweepLane t l budget r spent' else s
/-- A lane's whole cost. -/
def State.laneCost (s : State) (t l : Nat) (srcs : List Nat) : Nat := (srcs.map (fun x => s.pairCost t (16 * x + l))).foldl (· + ·) 0

/-! Commands (R159, R160) -/

def MCmd.op (c : MCmd) : Nat := bits c.w0 31 28
def MCmd.tiles (c : MCmd) : Nat := bits c.w0 15 0
def MCmd.s0 (c : MCmd) : Nat := bits c.w1 6 0
def MCmd.count (c : MCmd) : Nat := bits c.w1 15 8
def MCmd.srcs (c : MCmd) : List Nat := (List.range c.count).map (· + c.s0)
/-- Tiles of a mask that no row error has stopped. -/
def State.tilesOf (s : State) (mask : Nat) : List Nat := (List.range 16).filter (fun t => bitOf mask t && !bitOf s.marv.stopped t)
/-- Lanes of a mask as drivers. -/
def State.driversOf (s : State) (mask : Nat) : List Nat := (s.tilesOf mask).flatMap (fun t => (List.range 16).map (fun l => 16 * t + l))
/-- The cost of a command. -/
def State.cmdCost (s : State) (c : MCmd) : Nat :=
  match c.op with
  | 1 => 16 + c.count
  | 2 => 4
  | 3 => 8 + (((List.range 16).filter (fun t => bitOf c.tiles t)).flatMap (fun t =>
      (List.range 16).map (fun l => s.laneCost t l c.srcs))).foldl Nat.max 0
  | 4 => 4 + s.nsmp
  | 5 => 8 + s.nsmp
  | _ => 1
/-- Sweep one tile with at most `budget` cycles for the pairs of every lane. -/
def State.sweepTile (s : State) (c : MCmd) (t budget : Nat) : State := (List.range 16).foldl (fun u l => u.sweepLane t l budget c.srcs 0) s
/-- Sweep with at most `budget t` cycles for the pairs of every lane of tile t. (DEDUCED, log 11, safe) -/
def State.sweepAll (s : State) (c : MCmd) (budget : Nat → Nat) : State := (s.tilesOf c.tiles).foldl (fun st t => st.sweepTile c t (budget t)) s
def State.clearLanes (s : State) (mask : Nat) : State :=
  (s.driversOf mask).foldl (fun st d => { st with marv := { st.marv with
    acc := st.marv.acc.drop (fun k => k / 16 == d), part := st.marv.part.drop (fun k => k / 16 == d) } }) s
def State.sumLanes (s : State) (mask shift : Nat) : State :=
  (s.driversOf mask).foldl (fun st d => (List.range s.nsmp).foldl (fun u n =>
    let k := d * 16 + n
    { u with marv := { u.marv with
      acc := FMap.set 0 u.marv.acc k (wrap56 ((FMap.get 0 u.marv.acc k).toInt + (FMap.get 0 u.marv.part k).toInt / 2 ^ shift)),
      part := FMap.set 0 u.marv.part k 0 } }) st) s
def State.emitLanes (s : State) (mask : Nat) : State :=
  (s.driversOf mask).foldl (fun st d =>
    let vs := (List.range s.nsmp).map (fun n => moveRnd (FMap.get 0 st.marv.acc (d * 16 + n)))
    let s1 := { st with marv := { st.marv with feeds := FMap.set [] st.marv.feeds d (vs.map Prod.fst) } }
    if vs.any Prod.snd then (s1.orFld R.MARV_LIMIT_EMIT (2 ^ (d / 16))).setIrq R.MARV_IRQ_STATUS 3 else s1) s

/-- The command at the list's position, when it has the given OP. -/
def State.marvNext (s : State) (op : Nat) : Option MCmd :=
  match s.marv.pos with
  | none => none
  | some i => match s.marv.cmds[i]? with
    | some c => if c.op = op then some c else none
    | none => none
/-- The command is finished: its cost is spent and the next one is due. -/
def State.marvDone (s : State) (c : MCmd) : State :=
  { s with marv := { s.marv with pos := s.marv.pos.map (· + 1), cycles := s.marv.cycles + s.cmdCost c } }
/-- LOAD. -/
def State.marvLoad (s : State) : State :=
  match s.marvNext 1 with
  | none => s
  | some c => ({ s with marv := { s.marv with opened := some (c.s0, c.count) } }).marvDone c
/-- CLEAR. -/
def State.marvClear (s : State) : State :=
  match s.marvNext 2 with
  | none => s
  | some c => (s.clearLanes c.tiles).marvDone c
/-- SUM. -/
def State.marvSum (s : State) : State :=
  match s.marvNext 4 with
  | none => s
  | some c => (s.sumLanes c.tiles (bits c.w1 3 0)).marvDone c
/-- EMIT. -/
def State.marvEmit (s : State) : State :=
  match s.marvNext 5 with
  | none => s
  | some c => (s.emitLanes c.tiles).marvDone c
/-- A list of n cycles, above DECL: OVERDECL and a MINOR message (R161). -/
def State.marvOver (s : State) (n : Nat) : State :=
  if s.fld R.MARV_DECL < n then (s.setIrq R.MARV_IRQ_STATUS 5).fcu' 4 4 0 else s
/-- The list stops without END: every feed of the tick is held-last, CYC_LAST reads 0x1_FFFF (R161, R167). -/
def State.marvStop (s : State) : State :=
  (({ s with marv := { s.marv with pos := none, feeds := [], ended := true } }.setFld R.MARV_CYC_LAST 0x1FFFF).setFld R.MARV_STATUS_BUSY 0).marvOver 0x1FFFF
/-! Row errors of a SWEEP (R167) -/

/-- An uncorrectable error that a SWEEP meets: its tile (none: a history row), the cycle of the failing read, the row, and whether it was injected. -/
structure RowStop where
  tile  : Option Nat
  cycle : Nat
  addr  : Nat
  inj   : Bool
  deriving DecidableEq, Repr
/-- The tile rows that the sweep of pair p of tile t reads: its entry, and when enabled its current delay, FIR line and taps. -/
def State.pairRows (s : State) (t p : Nat) : List Nat :=
  let q := s.pair' t p
  let words (n : Nat) (f : Nat → Nat) : List Nat := (List.range n).flatMap (fun k => marvRows (f k) 3)
  marvRows (pairAddr t s.marv.slot (s.actBank t) p) 8 ++ (if q.en then marvRows (delayAddr t p) 4 else []) ++
    (if q.en ∧ q.flen ≠ 0 then words q.flen (fun k => tapAddr t s.marv.slot (s.actBank t) (q.fstart + k)) ++
      words (q.flen + s.nsmp - 1) (fun m => firAddr t p (histBack (s.marvBlock + s.nsmp - 1) m)) else [])
/-- The history rows that the sweep of an enabled pair reads. -/
def State.pairHist (s : State) (t src l : Nat) : List Nat :=
  let q := s.pair' t (16 * src + l)
  let c := s.le (delayAddr t (16 * src + l)) 4 / 4096
  let delta := slewDelta c q.delay (FMap.get 0 s.marv.slew t)
  if q.en then
    (List.range s.nsmp).flatMap (fun n => (List.range 4).map (fun j =>
      marvRow (histAddr src (histBack (s.marvBlock + n + 1) (delayAt c q.delay delta s.nsmp n / 1048576 + j)))))
  else []
/-- The first pair of a lane whose rows hold a marked one: the cycles before it, its cost, and the row. -/
def State.laneStop (s : State) (t l : Nat) (rows : Nat → List Nat) : List Nat → Nat → Option (Nat × Nat × Nat)
  | [], _ => none
  | src :: r, spent =>
    match (rows src).find? s.isBad with
    | some a => some (spent, s.pairCost t (16 * src + l), a)
    | none => s.laneStop t l rows r (spent + s.pairCost t (16 * src + l))
/-- The first of several stops. -/
def firstStop (l : List RowStop) : Option RowStop :=
  l.foldl (fun m x => match m with
    | some y => if x.cycle < y.cycle then some x else some y
    | none => some x) none
/-- The stops of a SWEEP on rows already marked: the failing read is in the cycles of the pair that makes it, in which of them is free. (DEDUCED, log 39, unsafe) -/
def State.markedStops (s : State) (c : MCmd) : List RowStop :=
  if s.mem14.bad.isEmpty then []
  else (s.tilesOf c.tiles).flatMap (fun t => (List.range 16).flatMap (fun l =>
    let stop (tile : Option Nat) (r : Option (Nat × Nat × Nat)) : List RowStop := match r with
      | some (spent, cost, a) => [⟨tile, 8 + spent + Config.freeNat s.free % cost, a, false⟩]
      | none => []
    stop (some t) (s.laneStop t l (fun src => s.pairRows t (16 * src + l)) c.srcs 0) ++ stop none (s.laneStop t l (fun src => s.pairHist t src l) c.srcs 0)))
/-- An armed checker 2 or 3 falls on the first row that the list's first SWEEP reads (R167, R392). (DEDUCED, log 39, unsafe) -/
def State.armedStops (s : State) (c : MCmd) : List RowStop :=
  if s.marv.swept then []
  else if s.injArmed 2 then [⟨none, 8, marvRow (histAddr c.s0 s.marvBlock), true⟩]
  else if s.injArmed 3 then
    match (List.range 16).find? (fun t => bitOf c.tiles t) with
    | some t => [⟨some t, 8, marvRow (pairAddr t s.marv.slot (s.actBank t) (16 * c.s0)), true⟩]
    | none => []
  else []
/-- The stops that a command brings. -/
def RowErr.stops : RowErr → List RowStop
  | .corrected _ => []
  | .history cy a => [⟨none, cy, marvRow a, false⟩]
  | .tile t cy a => [⟨some t, cy, marvRow a, false⟩]
/-- A corrected row: counted and reported. -/
def State.rowCorrected (s : State) : RowErr → State
  | .corrected a => ((s.count R.MARV_ECC_CNT 1).setIrq R.MARV_IRQ_STATUS 4).fcu' 4 1 (marvRow a)
  | _ => s
/-- A double-bit error is marked and reported: KIND 2 of a history row, 3 of a tile row. -/
def State.rowReport (s : State) (x : RowStop) : State :=
  ((if x.inj then s else s.markBad x.addr).setIrq R.MARV_IRQ_STATUS 4).fcuInj 4 (if x.tile.isNone then 2 else 3) x.addr x.inj
/-- A tile stops its part of the list; its 16 feeds of the tick are held-last. -/
def State.tileStop (s : State) (x : RowStop) : State :=
  match x.tile with
  | none => s
  | some t => { s with marv := { s.marv with stopped := s.marv.stopped ||| 2 ^ t, feeds := s.marv.feeds.drop (fun d => d / 16 == t) } }.rowReport x
/-- The pairs of SWEEP c within its first `limit` cycles, with the errors that its reads find by then: a tile stops at its first one, the list at the
first one of a history row. -/
def State.sweepRun (s : State) (c : MCmd) (errs : List RowErr) (limit : Nat) : State :=
  let all := (s.armedStops c ++ errs.flatMap RowErr.stops ++ s.markedStops c).filter (fun x => decide (x.cycle < limit))
  let hist := firstStop (all.filter (fun x => x.tile.isNone))
  let top := match hist with | some x => x.cycle | none => limit
  let stops := (s.tilesOf c.tiles).filterMap (fun t => firstStop (all.filter (fun x => x.tile == some t && decide (x.cycle < top))))
  let budget (t : Nat) : Nat := (match stops.find? (fun x => x.tile == some t) with | some x => x.cycle | none => top) - 8
  let s1 := s.sweepAll c budget
  let s2 := { s1 with free := if s.mem14.bad.isEmpty then s1.free else s1.free + 1, marv := { s1.marv with swept := s1.marv.swept || decide (8 < limit) } }
  let s3 := errs.foldl (fun st e => st.rowCorrected e) s2
  let s4 := if (stops ++ hist.toList).any (fun x => x.inj) then s3.injDone else s3
  let s5 := stops.foldl (fun st x => st.tileStop x) s4
  match hist with
  | some x => s5.marvStop.rowReport x
  | none => s5
/-- SWEEP with the errors its reads find. -/
def State.marvSweep (s : State) (errs : List RowErr) : State :=
  match s.marvNext 3 with
  | none => s
  | some c =>
    let s1 := s.sweepRun c errs (s.cmdCost c)
    if s1.marv.pos.isNone then s1 else { s1 with marv := { s1.marv with pos := s1.marv.pos.map (· + 1), cycles := s1.marv.cycles + s.cmdCost c } }
/-- END: CYC_LAST is recorded and the ORIGIN 1 scatters may run (R161). -/
def State.marvEnd (s : State) : State :=
  match s.marvNext 0 with
  | none => s
  | some c =>
    let s1 := s.marvDone c
    let n := s1.marv.cycles
    let s2 := ({ s1 with marv := { s1.marv with pos := none, ended := true } }.setFld R.MARV_CYC_LAST n).setFld R.MARV_STATUS_BUSY 0
    let s3 := if s2.fld R.MARV_CYC_PEAK < n then s2.setFld R.MARV_CYC_PEAK n else s2
    s3.marvOver n
/-- The usable window starts: the list in force starts on the block scattered in the previous tick (R161). (DEDUCED, log 39, unsafe) -/
def State.marvStart (s : State) : State :=
  let m := s.marv
  let s1 := { s with marv := { m with cycles := 0, opened := none, feeds := [], stopped := 0, late := false,
                                      swept := false, ended := m.cmds.isEmpty, pos := if m.cmds.isEmpty then none else some 0 } }
  if m.cmds.isEmpty then s1 else s1.setFld R.MARV_STATUS_BUSY 1
/-- The deadline: a list not ended stops; `spent` is how long the command in progress has run, and a SWEEP in progress keeps the pairs it
has covered, or has stopped the list before the deadline on a history row (R161, R167). -/
def State.marvDeadline (s : State) (spent : Nat) : State :=
  match s.marv.pos with
  | none => s
  | some _ =>
    let s1 := match s.marvNext 3 with
      | some c => s.sweepRun c [] spent
      | none => s
    if s1.marv.pos.isNone then s1
    else (((({ s1.marvStop with marv := { s1.marvStop.marv with late := true } }).setFld R.TICK_LATE_MARV 1).setIrq R.TICK_IRQ_STATUS 5).fcu'
      1 2 (s.tick.num % 0x1000000000))

/-! Group switches (R162) -/

/-- A write of GSW_AT_HI. -/
def State.gswArm (s : State) : State :=
  let n := s.reg64 R.MARV_GSW_AT_LO R.MARV_GSW_AT_HI
  let refuse (code : Nat) : State := (s.setFld R.MARV_GSW_STATUS code).setIrq R.MARV_IRQ_STATUS 2
  if s.marv.gsw.isSome || s.marv.upd.isSome || s.bit R.MARV_STATUS_SYNCING then refuse 0x54
  else if n < s.tick.num + 2 then refuse 0x20
  else ({ s with marv := { s.marv with gsw := some (n, s.fld R.MARV_GSW_MASK) } }.setFld R.MARV_GSW_STATUS 1).setFld R.MARV_STATUS_GSW_ARMED 1
/-- Copy a group's active bank into its idle bank, whose rows are then written whole. -/
def State.syncBank (s : State) (g : Nat) : State :=
  let a := bankAddr g s.marv.slot (s.actBank g)
  let b := bankAddr g s.marv.slot (1 - s.actBank g)
  (s.setBytes b (s.bytes a 0x5800)).freshRows b 0x5800
/-- The armed groups switch at a boundary; the copy into the idle banks then runs. (DEDUCED, log 39, unsafe) -/
def State.gswFire (s : State) (mask : Nat) : State :=
  ((({ s with marv := { s.marv with gsw := none, copying := mask } }.setFld R.MARV_ACT_BANK (s.fld R.MARV_ACT_BANK ^^^ mask)).setFld R.MARV_GSW_STATUS 2).setFld
    R.MARV_STATUS_GSW_ARMED 0 |>.setFld R.MARV_STATUS_SYNCING 1).setIrq R.MARV_IRQ_STATUS 1
/-- The bank copy after a switch has ended: the idle banks of the switched groups equal the active ones. -/
def State.bankSynced (s : State) : State :=
  if s.bit R.MARV_STATUS_SYNCING then
    ((List.range 16).filter (fun g => bitOf s.marv.copying g)).foldl (fun st g => st.syncBank g) (s.setFld R.MARV_STATUS_SYNCING 0)
  else s

/-! Update lists (R163) -/

/-- Bytes of the record that starts with header words w0, w1. -/
def updBytes (w0 w1 : Nat) : Nat := 8 + bits w1 11 0 * (if bits w0 31 28 = 0 then 8 else 4)
/-- A record keeps the rules of its header and of R153. `d` are its data bytes. -/
def updRecOk (w0 w1 : Nat) (d : List Byte) : Bool :=
  let kind := bits w0 31 28
  let n := bits w1 11 0
  decide (kind ≤ 1) && decide (bits w0 23 11 = 0) && decide (bits w1 31 12 = 0) && decide (1 ≤ n) && decide (n ≤ 2048) &&
  decide (bits w0 10 0 + n ≤ 2048) &&
  (List.range n).all (fun i =>
    if kind = 0 then pairOk (leAt d (8 * i) 4) (leAt d (8 * i + 4) 4) else decide (leAt d (4 * i) 4 < 0x1000000))
/-- The offsets of the records of a list, when every record is good and an end record lies within it. Fuel: one record per 8 bytes. (DEDUCED, log 40, unsafe) -/
def updScan (l : List Byte) : Nat → Nat → Option (List Nat)
  | 0, _ => none
  | fuel + 1, o =>
    if l.length < o + 8 then none
    else
      let w0 := leAt l o 4
      if bits w0 31 28 = 15 then (if w0 = 0xF0000000 ∧ leAt l (o + 4) 4 = 0 then some [] else none)
      else
        let w1 := leAt l (o + 4) 4
        let n := updBytes w0 w1
        if l.length < o + n then none
        else if updRecOk w0 w1 ((l.drop (o + 8)).take (n - 8)) then (updScan l fuel (o + n)).map (fun r => o :: r)
        else none
/-- Write one record into the idle bank of its group. -/
def State.updWrite (s : State) (l : List Byte) (o : Nat) : State :=
  let w0 := leAt l o 4
  let w1 := leAt l (o + 4) 4
  let g := bits w0 27 24
  let b := 1 - s.actBank g
  let n := bits w1 11 0
  if bits w0 31 28 = 0 then s.setBytes (pairAddr g s.marv.slot b (bits w0 10 0)) ((l.drop (o + 8)).take (8 * n))
  else (List.range n).foldl (fun st i => st.setLe (tapAddr g s.marv.slot b (bits w0 10 0 + i)) 3 (leAt l (o + 8 + 4 * i) 4)) s
/-- The groups that a list names. -/
def updGroups (l : List Byte) (os : List Nat) : Nat := os.foldl (fun m o => m ||| 2 ^ bits (leAt l o 4) 27 24) 0
def State.updRefuse (s : State) (code : Nat) : State := (s.setFld R.MARV_UPD_STATUS_CODE code).setIrq R.MARV_IRQ_STATUS 2
/-- COPY: the whole list is checked, then the copy runs. (DEDUCED, log 40, unsafe) -/
def State.updCopy (s : State) : State :=
  let a := s.reg64 R.MARV_UPD_SRC_LO R.MARV_UPD_SRC_HI
  let len := s.fld R.MARV_UPD_LEN
  if s.marv.upd.isSome || s.bit R.MARV_STATUS_SYNCING then s.updRefuse 0x50
  else if s.img.running.isNone then s.updRefuse 0x51
  else match s.readShared 7 a len 0 with
    | (none, s1) => s1.updRefuse 0x51
    | (some l, s1) =>
      match updScan l (len / 4 + 1) 0 with
      | none => s1.updRefuse 0x51
      | some os =>
        let named := match s.marv.gsw with | some (_, m) => m &&& updGroups l os | none => 0
        if named ≠ 0 then s1.updRefuse 0x50
        else (({ s1 with marv := { s1.marv with upd := some (a, len, 0) } }.setFld R.MARV_UPD_STATUS_CODE 1).setFld
          R.MARV_UPD_STATUS_TOUCHED 0 |>.setFld R.MARV_UPD_DONE 0).setFld R.MARV_STATUS_COPYING 1
/-- The records of the running copy from its offset on. -/
def State.updRest (s : State) : List Byte × List Nat :=
  match s.marv.upd with
  | none => ([], [])
  | some (a, len, o) =>
    let l := s.bytes a len
    (l, match updScan l (len / 4 + 1) o with | some os => os | none => [])
/-- Write the next n records of the running copy. (DEDUCED, log 40, unsafe) -/
def State.updAdvance (s : State) (n : Nat) : State :=
  match s.marv.upd with
  | none => s
  | some (a, len, o) =>
    let (l, os) := s.updRest
    let now := os.take n
    let next := now.foldl (fun _ x => x + updBytes (leAt l x 4) (leAt l (x + 4) 4)) o
    let s1 := now.foldl (fun st x => st.updWrite l x) s
    ({ s1 with marv := { s1.marv with upd := some (a, len, next) } }.orFld R.MARV_UPD_STATUS_TOUCHED (updGroups l now)).setFld R.MARV_UPD_DONE next
/-- The copy ends with a code. -/
def State.updEnd (s : State) (code : Nat) : State :=
  (({ s with marv := { s.marv with upd := none } }.setFld R.MARV_STATUS_COPYING 0).setFld R.MARV_UPD_STATUS_CODE code).setIrq
    R.MARV_IRQ_STATUS (if code = 2 then 0 else 2)
/-- The copy completes: every record is written. -/
def State.updDone (s : State) : State :=
  match s.marv.upd with
  | none => s
  | some (_, len, _) => (s.updAdvance (len + 1)).updEnd 2
/-- ABORT after `n` more records were written. -/
def State.updAbort (s : State) (n : Nat) : State := if s.marv.upd.isSome then (s.updAdvance n).updEnd 0x53 else s

/-! Boundaries -/

/-- Every current delay takes its target at once (R164, R429). -/
def State.delaysToTargets (s : State) : State :=
  (List.range 16).foldl (fun st t => (List.range 2048).foldl (fun u p => u.setLe (delayAddr t p) 4 ((u.pair' t p).delay * 4096)) st) s
/-- History and FIR lines to 0, every row with new check bits (R164, R429). -/
def State.marvZero (s : State) : State :=
  { (s.freshRows marvBase 0x800000) with mem := s.mem.drop (fun a => (decide (marvBase ≤ a) && decide (a < marvBase + 0x200000)) ||
    (decide (marvBase + 0x200000 ≤ a) && decide (a < marvBase + 0x800000) && decide ((a - marvBase - 0x200000) % 0x60000 < 0x48000))) }
/-- Boundary T+1 of a switch: list and banks of the new image take over; armed and running group work is discarded (R164, R168). -/
def State.marvSwitch (s : State) (m : Option MarvList) (slot : Nat) : State :=
  let s1 := if s.marv.gsw.isSome then
      ((({ s with marv := { s.marv with gsw := none } }.setFld R.MARV_GSW_STATUS 0x55).setFld R.MARV_STATUS_GSW_ARMED 0)).setIrq R.MARV_IRQ_STATUS 2
    else s
  let s2 := if s1.marv.upd.isSome then s1.updEnd 0x52 else s1
  let cmds := match m with | some x => x.cmds | none => []
  let slews := match m with | some x => x.slews | none => []
  let s3 := ({ s2 with marv := { s2.marv with cmds := cmds, slot := slot, slew := slews } }.setFld R.MARV_ACT_BANK 0).setFld R.MARV_STATUS_SYNCING 0
  let s4 := (List.range 16).foldl (fun st g => st.setFld (R.MARV_SLEW g) (FMap.get 0 slews g)) s3
  let s5 := (s4.setBit R.MARV_STATUS_ACTIVE (!cmds.isEmpty))
  if s5.marv.keep then s5 else s5.delaysToTargets
/-- Each boundary: armed group switches fire, staged SLEW values take effect (R152, R158, R162). -/
def State.marvBoundary (s : State) (t : Nat) : State :=
  let s2 := match s.marv.gsw with
    | some (n, mask) => if n ≤ t then s.gswFire mask else s
    | none => s
  { s2 with marv := { s2.marv with wrote := [],
                                   slew := (List.range 16).foldl (fun m g => FMap.set 0 m g (s2.fld (R.MARV_SLEW g))) s2.marv.slew } }

end Sys2Proof.Machine
end

