-- ==== Sys2Proof/Machine/Operands.lean ====
section
/-!
DEFINITION. Iator operands: lane and shared registers (R42), pointer arithmetic (R52–R55), memory, P-data and register moves
(R76–R81), and what an instruction reads and writes for the scoreboard and the interlock (R56, R66).
-/

namespace Sys2Proof.Machine

/-! Lane registers -/

def Core.lane (k : Core) (l : Nat) : Lane := if l = 0 then k.lane0 else k.lane1
def Core.setLane (k : Core) (l : Nat) (v : Lane) : Core := if l = 0 then { k with lane0 := v } else { k with lane1 := v }
/-- F register i of lane l. -/
def Core.f (k : Core) (l i : Nat) : W24 := FMap.get 0 (k.lane l).f i
/-- Accumulator i of lane l. -/
def Core.acc (k : Core) (l i : Nat) : Acc := FMap.get 0 (k.lane l).a i
def Core.setF (k : Core) (l i : Nat) (v : W24) : Core := k.setLane l { k.lane l with f := FMap.set 0 (k.lane l).f i v }
def Core.setAcc (k : Core) (l i : Nat) (v : Acc) : Core := k.setLane l { k.lane l with a := FMap.set 0 (k.lane l).a i v }
/-- Write a 24-bit value into F or, by R47, into an accumulator. -/
def Core.setFA (k : Core) (l : Nat) (r : RegFA) (v : W24) : Core :=
  match r with
  | .f i => k.setF l i.val v
  | .acc i => k.setAcc l i.val (load24 v)
/-- A source of CLASS 0x4 as 56 bits (R84). -/
def Core.src56 (k : Core) (l : Nat) (r : RegFA) : Acc :=
  match r with
  | .f i => load24 (k.f l i.val)
  | .acc i => k.acc l i.val

/-! Shared registers -/

/-- All 24 bits of CSR (Table 2-4). -/
def Core.csrWord (k : Core) : W24 :=
  BitVec.ofNat 24 (k.csr.toNat + k.loops.length * 1024 + k.calls.length * 8192 + k.long.length * 65536)
/-- LC and LA of the innermost active loop; 0 while none is active. -/
def Core.lc (k : Core) : BitVec 16 := match k.loops with | [] => 0 | l :: _ => l.lc
def Core.la (k : Core) : BitVec 14 := match k.loops with | [] => 0 | l :: _ => l.la
/-- The special registers of Table 2-8 and the shared registers, read by a move as 24 bits (R42, R71). -/
def State.sharedReg (s : State) (n : Nat) (k : Core) : SrcReg → W24
  | .pt i => (FMap.get 0 k.pt i.val).setWidth 24
  | .off i => (FMap.get 0 k.off i.val).signExtend 24
  | .md i => (FMap.get 0 k.md i.val).setWidth 24
  | .ga i => (FMap.get 0 k.ga i.val).setWidth 24
  | .lc => k.lc.setWidth 24
  | .la => k.la.setWidth 24
  | .csr => k.csrWord
  | .cid => BitVec.ofNat 24 n
  | .nsmp => BitVec.ofNat 24 s.nsmp
  | .tnlo => BitVec.ofNat 24 s.tick.num
  | .tnhi => BitVec.ofNat 24 (s.tick.num / 16777216)
  | .iepo => match s.image with | some i => BitVec.ofNat 24 i.epoch | none => 0
  | .f _ => 0
  | .acc _ => 0
  | .rnd _ => 0

/-! Pointers -/

/-- The smallest k with 2^k at least m. -/
def ceilLog2 (m : Nat) : Nat := if m ≤ 1 then 0 else Nat.log2 (m - 1) + 1
/-- Advance a pointer by a step under the modulus arithmetic of R53. -/
def advance (p md : BitVec 15) (d : Int) : BitVec 15 :=
  if md = 0 then BitVec.ofInt 15 ((p.toNat : Int) + d)
  else
    let m : Int := md.toNat
    let base := p.toNat / 2 ^ ceilLog2 md.toNat * 2 ^ ceilLog2 md.toNat
    let t : Int := (p.toNat : Int) - base + d
    let t1 := if t ≥ m then t - m else t
    let t2 := if t1 < 0 then t1 + m else t1
    BitVec.ofInt 15 (base + t2)
/-- An offset whose magnitude exceeds a non-zero modulus (R55). -/
def offsetMisused (md : BitVec 15) (o : BitVec 16) : Bool := decide (md ≠ 0) && decide ((md.toNat : Int) < o.toInt.natAbs)
/-- A modulus that leaves the pointer outside its range (R55). -/
def modulusMisused (p md : BitVec 15) : Bool :=
  decide (md ≠ 0) && decide (md.toNat ≤ p.toNat % 2 ^ ceilLog2 md.toNat)

/-- A memory access of one move: the address used, the address of the pair's second word, and the pointer afterwards. `fv` stands
for the pointer that a misused offset gives (R55). (DEDUCED, log 27, safe) -/
def Core.access (k : Core) (p : Nat) (mode : AMode) (fv : Nat) : BitVec 15 × BitVec 15 × BitVec 15 :=
  let pt := FMap.get 0 k.pt p
  let md := FMap.get 0 k.md p
  let o := FMap.get 0 k.off p
  let byOf := if offsetMisused md o then BitVec.ofNat 15 fv else advance pt md o.toInt
  let used := match mode with | .indexed => byOf | _ => pt
  let after := match mode with
    | .postOf => byOf
    | .postInc => advance pt md 1
    | .postDec => advance pt md (-1)
    | .indexed => pt
    | .indirect => pt
  (used, advance used md 1, after)

/-! Moves -/

/-- What the moves of an instruction do: the core they leave, words written to X or Y memory (space, word, value), and limit bits. -/
structure MoveOut where
  core   : Core
  writes : List (Nat × Nat × W24)
  l0     : Bool
  l1     : Bool
  deriving DecidableEq, Repr

/-- The 24-bit value that a memory write takes from a lane's register, with its limit flag (Table 3-4). -/
def Core.writeVal (k : Core) (l : Nat) : WReg → W24 × Bool
  | .f i => (k.f l i.val, false)
  | .acc i => move24 (k.acc l i.val)
  | .rnd i => moveRnd (k.acc l i.val)

/-- Write a shared register with the low bits of a 24-bit value (R42, R79); a modulus that leaves its pointer outside the range gives
the pointer the free value `fv` (R55). Where one instruction writes both MDn and PTn, the test follows the order X field, then Y field: R55 and R100 do
not say which PTn it takes. (DESIGN CHOICE, log 71, unsafe) -/
def Core.setShared (k : Core) (d : DstReg) (v : W24) (fv : Nat) : Core :=
  match d with
  | .pt i => { k with pt := FMap.set 0 k.pt i.val (v.setWidth 15) }
  | .off i => { k with off := FMap.set 0 k.off i.val (v.setWidth 16) }
  | .md i =>
    let m : BitVec 15 := v.setWidth 15
    let k1 := { k with md := FMap.set 0 k.md i.val m }
    if modulusMisused (FMap.get 0 k.pt i.val) m then { k1 with pt := FMap.set 0 k1.pt i.val (BitVec.ofNat 15 fv) } else k1
  | .ga i => { k with ga := FMap.set 0 k.ga i.val (v.setWidth 23) }
  | .csr => { k with csr := v.setWidth 10 }
  | .f _ => k
  | .acc _ => k

/-- A register move into a lane from the register of lane `from` of the old core (R79, R80). -/
def laneMove (old : Core) (src : SrcReg) (dst : DstReg) (srcLane lane : Nat) (new : Core) : Core × Bool :=
  match src, dst with
  | .acc i, .acc j => (new.setAcc lane j.val (old.acc srcLane i.val), false)
  | .f i, .f j => (new.setF lane j.val (old.f srcLane i.val), false)
  | .f i, .acc j => (new.setAcc lane j.val (load24 (old.f srcLane i.val)), false)
  | .acc i, .f j => let (v, l) := move24 (old.acc srcLane i.val); (new.setF lane j.val v, l)
  | .rnd i, .f j => let (v, l) := moveRnd (old.acc srcLane i.val); (new.setF lane j.val v, l)
  | .rnd i, .acc j => let (v, l) := moveRnd (old.acc srcLane i.val); (new.setAcc lane j.val (load24 v), l)
  | _, _ => (new, false)

/-- One move of an instruction on core n: it reads the old core and writes the new one (R44). `base` is 0 in the X field and 4 in the Y
field. -/
def State.doMove (s : State) (n base : Nat) (old : Core) (m : Move) (fv : Nat) (o : MoveOut) : MoveOut :=
  match m with
  | .none => o
  | .read form ptr mode reg =>
    let p := base + ptr.val
    let (a, b, after) := old.access p mode fv
    let sp := base / 4
    let w := s.coreWord n sp a.toNat
    let k1 := match form with
      | .pair => (o.core.setFA 0 reg w).setFA 1 reg (s.coreWord n sp b.toNat)
      | .bcast => (o.core.setFA 0 reg w).setFA 1 reg w
      | .lane0 => o.core.setFA 0 reg w
      | .lane1 => o.core.setFA 1 reg w
    { o with core := { k1 with pt := FMap.set 0 k1.pt p after } }
  | .write form ptr mode reg =>
    let p := base + ptr.val
    let (a, b, after) := old.access p mode fv
    let sp := base / 4
    let (v0, s0) := old.writeVal 0 reg
    let (v1, s1) := old.writeVal 1 reg
    let o1 := match form with
      | .pair => { o with writes := o.writes ++ [(sp, a.toNat, v0), (sp, b.toNat, v1)], l0 := o.l0 || s0, l1 := o.l1 || s1 }
      | .lane1 => { o with writes := o.writes ++ [(sp, a.toNat, v1)], l1 := o.l1 || s1 }
      | _ => { o with writes := o.writes ++ [(sp, a.toNat, v0)], l0 := o.l0 || s0 }
    { o1 with core := { o1.core with pt := FMap.set 0 o1.core.pt p after } }
  | .pdata bcast ptr mode reg =>
    let p := ptr.val
    let (a, _, after) := old.access p mode fv
    let w := s.pWord n (a.toNat % 16384)
    let lo : W24 := w.setWidth 24
    let hi : W24 := (w >>> 24).setWidth 24
    let k1 := (o.core.setFA 0 reg lo).setFA 1 reg (if bcast then lo else hi)
    { o with core := { k1 with pt := FMap.set 0 k1.pt p after } }
  | .reg src dst swap =>
    if src.perLane && dst.perLane then
      let (k1, a) := laneMove old src dst (if swap then 1 else 0) 0 o.core
      let (k2, b) := laneMove old src dst (if swap then 0 else 1) 1 k1
      { o with core := k2, l0 := o.l0 || (if swap then b else a), l1 := o.l1 || (if swap then a else b) }
    else if dst.perLane then
      let v := s.sharedReg n old src
      let put (k : Core) (l : Nat) : Core := match dst with
        | .f j => k.setF l j.val v
        | .acc j => k.setAcc l j.val (load24 v)
        | _ => k
      { o with core := put (put o.core 0) 1 }
    else if src.perLane then
      let (v, sat) := match src with
        | .f i => (old.f 0 i.val, false)
        | .acc i => move24 (old.acc 0 i.val)
        | .rnd i => moveRnd (old.acc 0 i.val)
        | _ => (0, false)
      { o with core := o.core.setShared dst v fv, l0 := o.l0 || sat }
    else { o with core := o.core.setShared dst (s.sharedReg n old src) fv }

/-! What an instruction touches -/

/-- Lane registers as lane × 8 + code (F0–F3: 0–3, A–D: 4–7). -/
def laneKeys (form : Form) (code : Nat) : List Nat :=
  match form with
  | .lane0 => [code]
  | .lane1 => [8 + code]
  | _ => [code, 8 + code]
def Move.laneRegs : Move → List Nat
  | .none => []
  | .read f _ _ r => laneKeys f (encRegFA r)
  | .write f _ _ r => laneKeys f (match r with | .f i => i.val | .acc i => 4 + i.val | .rnd i => 4 + i.val)
  | .pdata _ _ _ r => laneKeys .pair (encRegFA r)
  | .reg sr d _ =>
    (match sr with
     | .f i => if d.perLane then laneKeys .pair i.val else [i.val]
     | .acc i => if d.perLane then laneKeys .pair (4 + i.val) else [4 + i.val]
     | .rnd i => if d.perLane then laneKeys .pair (4 + i.val) else [4 + i.val]
     | _ => []) ++
    (match d with | .f i => laneKeys .pair i.val | .acc i => laneKeys .pair (4 + i.val) | _ => [])
/-- The lane registers an instruction reads or writes (R66). -/
def Iop.laneRegs (i : Iop) : List Nat :=
  i.moves.1.laneRegs ++ i.moves.2.laneRegs ++
  (match i with
   | .dor (.f r) _ _ => [r.val]
   | .dor (.acc r) _ _ => [4 + r.val]
   | .dor (.rnd r) _ _ => [4 + r.val]
   | .ldi (.f r) _ => laneKeys .pair r.val
   | .ldi (.acc r) _ => laneKeys .pair (4 + r.val)
   | .mul _ _ _ d a b _ _ => laneKeys .pair (4 + d.val) ++ laneKeys .pair a.val ++ laneKeys .pair b.val
   | .two _ r d _ _ => laneKeys .pair (encRegFA r) ++ laneKeys .pair (4 + d.val)
   | .one _ d _ _ _ => laneKeys .pair (4 + d.val)
   | .gran _ _ f r _ _ _ _ => laneKeys f (encRegFA r)
   | .hop _ _ f r _ _ _ => laneKeys f (4 + r.val)
   | _ => [])
/-- Address registers a move addresses through or post-modifies with (R56), by the codes of Table 3-5. -/
def Move.addrRegs (base : Nat) : Move → List Nat
  | .read f p m _ => ptrRegs (base + p.val) m (decide (f = .pair))
  | .write f p m _ => ptrRegs (base + p.val) m (decide (f = .pair))
  | .pdata _ p m _ => ptrRegs (base + p.val) m false
  | _ => []
where
  ptrRegs (p : Nat) (m : AMode) (pair : Bool) : List Nat :=
    match m with
    | .postOf => [16 + p, 24 + p, 32 + p]
    | .indexed => [16 + p, 24 + p, 32 + p]
    | .postInc => [16 + p, 32 + p]
    | .postDec => [16 + p, 32 + p]
    | .indirect => if pair then [16 + p, 32 + p] else [16 + p]
/-- Address registers an instruction uses. -/
def Iop.addrRegs (i : Iop) : List Nat :=
  i.moves.1.addrRegs 0 ++ i.moves.2.addrRegs 4 ++
  (match i with
   | .gran _ _ _ _ g true _ _ => [24 + g.val]
   | _ => [])
/-- Address registers an instruction's moves or LDI write (R56, R93). -/
def DstReg.addrCode : DstReg → List Nat
  | .pt i => [16 + i.val]
  | .off i => [24 + i.val]
  | .md i => [32 + i.val]
  | _ => []
def Iop.addrWrites (i : Iop) : List Nat :=
  (match i.moves.1 with | .reg _ d _ => d.addrCode | _ => []) ++ (match i.moves.2 with | .reg _ d _ => d.addrCode | _ => []) ++
  (match i with | .ldi d _ => d.addrCode | _ => [])
/-- Does the X field read P memory as data (R57)? -/
def Iop.readsP (i : Iop) : Bool := match i.moves.1 with | .pdata _ _ _ _ => true | _ => false

/-- The X and Y words a move touches on the old core, with their space. -/
def Core.touched (k : Core) (base : Nat) (m : Move) (fv : Nat) : List (Nat × Nat) :=
  let words (form : Form) (p : Nat) (mode : AMode) : List (Nat × Nat) :=
    let (a, b, _) := k.access (base + p) mode fv
    if form = .pair then [(base / 4, a.toNat), (base / 4, b.toNat)] else [(base / 4, a.toNat)]
  match m with
  | .read f p mode _ => words f p.val mode
  | .write f p mode _ => words f p.val mode
  | _ => []
/-- Does a move of the instruction misuse an offset or a modulus (R55)? -/
def Core.misuse (k : Core) (i : Iop) : Bool :=
  let off (base : Nat) (m : Move) : Bool :=
    let chk (p : Nat) (mode : AMode) : Bool :=
      (decide (mode = .postOf) || decide (mode = .indexed)) && offsetMisused (FMap.get 0 k.md p) (FMap.get 0 k.off p)
    match m with
    | .read _ p mode _ => chk (base + p.val) mode
    | .write _ p mode _ => chk (base + p.val) mode
    | .pdata _ p mode _ => chk p.val mode
    | .reg _ (.md _) _ => true
    | _ => false
  off 0 i.moves.1 || off 4 i.moves.2 || (match i with | .ldi (.md _) _ => true | _ => false)

end Sys2Proof.Machine
end

