-- ==== Sys2Proof/Machine/Program.lean ====
section
/-!
DEFINITION. The loader's checks of a program (R44, R58, R75, R82, R88, R92, R94): the register rules of one instruction, and a walk over
every instruction that some path from the entry address reaches.
-/

namespace Sys2Proof.Machine

/-! One instruction (R44, R82) -/

/-- Registers that a part of an instruction writes: lane keys 0–15, shared registers 100 + Table 3-5 code. -/
def DstReg.writes : DstReg → List Nat
  | .f i => laneKeys .pair i.val
  | .acc i => laneKeys .pair (4 + i.val)
  | d => [100 + encDst d]
def Move.writes : Move → List Nat
  | .read f _ _ r => laneKeys f (encRegFA r)
  | .pdata _ _ _ r => laneKeys .pair (encRegFA r)
  | .reg _ d _ => d.writes
  | _ => []
def Iop.opWrites : Iop → List Nat
  | .ldi d _ => d.writes
  | .mul _ _ _ d _ _ _ _ => laneKeys .pair (4 + d.val)
  | .two o _ d _ _ => if o = .cmp then [] else laneKeys .pair (4 + d.val)
  | .one _ d _ _ _ => laneKeys .pair (4 + d.val)
  | .gran o _ f r _ _ _ _ => if o = .gst then [] else laneKeys f (encRegFA r)
  | .hop p _ f r _ _ _ => if p then laneKeys f (4 + r.val) else []
  | _ => []
def disjoint (a b : List Nat) : Bool := a.all (fun x => !b.contains x)
/-- Address registers a long operation uses: GAn, and OFn when it post-modifies. -/
def Iop.longAddr : Iop → List Nat
  | .gran _ _ _ _ g p _ _ => if p then [140 + g.val, 124 + g.val] else [140 + g.val]
  | _ => []
/-- No register is written twice, and no move writes a register that another part addresses through (R44, R82). A register of lane 0 and the register of
that name in lane 1 count as two: the rules do not say whether they are the same register. (DESIGN CHOICE, log 71, unsafe) -/
def Iop.legal (i : Iop) : Bool :=
  let (x, y) := i.moves
  let ax := (x.addrRegs 0).map (· + 100)
  let ay := (y.addrRegs 4).map (· + 100)
  disjoint x.writes y.writes && disjoint i.opWrites x.writes && disjoint i.opWrites y.writes &&
  disjoint x.writes (ay ++ i.longAddr) && disjoint y.writes (ax ++ i.longAddr)

/-! The walk -/

/-- A call in progress: return address, the subroutine's first address, and the caller's loops. -/
structure Frame where
  ret    : Nat
  target : Nat
  loops  : List (Nat × Nat)
  deriving DecidableEq, Repr
/-- A point on a path: address, loops opened in the routine (start, LA, innermost first), calls in progress. -/
structure PPoint where
  pc     : Nat
  loops  : List (Nat × Nat)
  frames : List Frame
  deriving DecidableEq, Repr

/-- Loop depth along the call path. -/
def PPoint.depth (p : PPoint) : Nat := p.loops.length + (p.frames.map (fun f => f.loops.length)).foldl (· + ·) 0
/-- After the instruction at `a` completes without a jump: loops that end there are left (their starts are on the path already). -/
def PPoint.after (p : PPoint) (a : Nat) : PPoint := { p with pc := a + 1, loops := p.loops.dropWhile (fun l => l.2 == a) }
/-- Does the address end the innermost loop? -/
def PPoint.atEnd (p : PPoint) : Bool := match p.loops with | [] => false | l :: _ => l.2 == p.pc
/-- Is a branch target legal (R58)? -/
def PPoint.target (p : PPoint) (t : Nat) : Bool :=
  decide (p.pc < t) && (match p.loops with | [] => true | l :: _ => decide (l.1 ≤ t) && decide (t ≤ l.2))

/-- May a loop whose last instruction is `la` open here (R58, R88)? -/
def PPoint.opens (p : PPoint) (la : Nat) : Bool :=
  decide (p.pc + 1 ≤ la) && decide (p.depth < 4) && !p.atEnd && (match p.loops with | [] => true | l :: _ => decide (la ≤ l.2))

/-- The points that follow an instruction, or none where a rule is broken. -/
def pathNext (p : PPoint) (i : Iop) (hoppers : Nat) : Option (List PPoint) :=
  match i with
  | .tend _ _ => if p.loops.isEmpty && p.frames.isEmpty then some [] else none
  | .rts _ _ =>
    match p.frames with
    | [] => none
    | f :: r => if p.loops.isEmpty then some [⟨f.ret, f.loops, r⟩] else none
  | .doI _ la =>
    if p.opens la.toNat then
      some [{ p with pc := p.pc + 1, loops := (p.pc + 1, la.toNat) :: p.loops }]
    else none
  | .dor _ _ la =>
    if p.opens la.toNat then
      some [{ p with pc := p.pc + 1, loops := (p.pc + 1, la.toNat) :: p.loops }]
    else none
  | .bra t => if p.target t.toNat && !p.atEnd then some [{ p with pc := t.toNat }] else none
  | .bcc _ _ t => if p.target t.toNat && !p.atEnd then some [{ p with pc := t.toNat }, p.after p.pc] else none
  | .jsr t =>
    if p.atEnd || decide (4 ≤ p.frames.length) || p.frames.any (fun f => f.target == t.toNat) then none
    else some [⟨t.toNat, [], ⟨p.pc + 1, t.toNat, p.loops⟩ :: p.frames⟩]
  | .hop _ _ _ _ h _ _ => if bitOf hoppers h.toNat then some [p.after p.pc] else none
  | _ => some [p.after p.pc]

/-- The routine a point lies in: the first address of its subroutine, or none for the program that starts at the entry address. -/
def PPoint.routine (p : PPoint) : Option Nat := p.frames.head?.map (fun f => f.target)
/-- The routines on the call path to a point: the callers of its subroutine. -/
def PPoint.callers (p : PPoint) : List (Option Nat) :=
  match p.frames with
  | [] => []
  | _ :: r => r.map (fun f => some f.target) ++ [none]
/-- The DO body that the instruction at a point opens. -/
def PPoint.body (word : Nat → IWord) (p : PPoint) : Option (Nat × Nat) :=
  match decodeIop (word p.pc) with
  | some (.doI _ la) => some (p.pc + 1, la.toNat)
  | some (.dor _ _ la) => some (p.pc + 1, la.toNat)
  | _ => none
/-- Does subroutine code lie inside a DO body, open or not, of a routine that calls it (R92)? `seen` holds every point of the program. (DEDUCED, log 66, safe) -/
def PPoint.inCallerBody (word : Nat → IWord) (seen : List PPoint) (p : PPoint) : Bool :=
  p.callers.any (fun c => seen.any (fun q => decide (q.routine = c) &&
    (match q.body word with | some (a, b) => decide (a ≤ p.pc) && decide (p.pc ≤ b) | none => false)))

/-- Walk every path: `word` reads P memory as the image leaves it, addresses lie in [lo, hi). Answers the first address at which a rule is
broken, or the points visited. (DEDUCED, log 66, safe) -/
def walkPaths (word : Nat → IWord) (lo hi hoppers : Nat) : Nat → List PPoint → List PPoint → Nat ⊕ List PPoint
  | 0, p :: _, _ => .inl p.pc
  | _, [], seen => .inr seen
  | fuel + 1, p :: todo, seen =>
    if seen.contains p then walkPaths word lo hi hoppers fuel todo seen
    else if p.pc < lo ∨ hi ≤ p.pc then .inl p.pc
    else match decodeIop (word p.pc) with
      | none => .inl p.pc
      | some i =>
        if !i.legal then .inl p.pc
        else match pathNext p i hoppers with
          | none => .inl p.pc
          | some next => walkPaths word lo hi hoppers fuel (next ++ todo) (p :: seen)

/-- More steps than a walk can take: a point has an address of 14 bits, at most 4 calls and at most 4 loops in each routine on the path, each two
addresses, which makes fewer than 2^700 points, and each is left once, for at most two others. (DEDUCED, log 66, safe) -/
def walkFuel : Nat := 2 ^ 1024
/-- Check the program that starts at `entry` in the half [lo, hi): the address of the first instruction that breaks a rule. (DEDUCED, log 66, safe) -/
def checkProgram (word : Nat → IWord) (lo hi entry hoppers : Nat) : Option Nat :=
  if entry < lo ∨ hi ≤ entry then some entry
  else match walkPaths word lo hi hoppers walkFuel [⟨entry, [], []⟩] [] with
    | .inl a => some a
    | .inr seen => (seen.reverse.find? (fun p => p.inCallerBody word seen)).map (fun p => p.pc)

end Sys2Proof.Machine
end

