-- ==== Sys2Proof/Machine/Crc.lean ====
section
/-!
DEFINITION. Check codes: CRC-32 of IEEE 802.3 (R201), CRC-16 with polynomial 0x1021 (R216), CRC-32C (R108, R284) and the Internet
checksum (R231).
-/

namespace Sys2Proof.Machine

/-- One step of a CRC register of width w, most significant bit first. (PRESUMED, log 29, unsafe) -/
def crcBit (w poly reg : Nat) (b : Bool) : Nat :=
  let top := bitOf reg (w - 1)
  let r := reg * 2 % 2 ^ w
  if top != b then r ^^^ poly else r
/-- The bits of a byte, least significant first (transmission order). -/
def byteBitsLsb (b : Byte) : List Bool := (List.range 8).map (fun i => b.getLsbD i)
/-- The bits of a byte, most significant first. -/
def byteBitsMsb (b : Byte) : List Bool := (List.range 8).map (fun i => b.getLsbD (7 - i))
/-- The w bits of a number reversed. -/
def reverseBits (w v : Nat) : Nat := ((List.range w).map (fun i => if bitOf v i then 2 ^ (w - 1 - i) else 0)).foldl (· + ·) 0

/-- The IEEE 802.3 FCS CRC-32 with the coefficient of x^31 as bit 31 (R201). (PRESUMED, log 29, unsafe) -/
def crc32 (l : List Byte) : Nat := (l.foldl (fun r b => (byteBitsLsb b).foldl (crcBit 32 0x04C11DB7) r) 0xFFFFFFFF) ^^^ 0xFFFFFFFF
/-- The four FCS bytes of a frame, as sent: the coefficient of x^31 first. (PRESUMED, log 29, unsafe) -/
def fcsBytes (l : List Byte) : List Byte := leBytes 4 (reverseBits 32 (crc32 l))
/-- Is the FCS at the end of a received frame right? -/
def fcsOk (l : List Byte) : Bool := decide (4 ≤ l.length) && decide (l.drop (l.length - 4) = fcsBytes (l.take (l.length - 4)))
/-- CRC-16, polynomial 0x1021, initial value 0xFFFF (R216). -/
def crc16 (l : List Byte) : Nat := l.foldl (fun r b => (byteBitsMsb b).foldl (crcBit 16 0x1021) r) 0xFFFF
/-- The CRC-32C register after more bytes (polynomial 0x1EDC6F41, bits least significant first). -/
def crc32cAdd (reg : Nat) (l : List Byte) : Nat := l.foldl (fun r b => (byteBitsLsb b).foldl (crcBit 32 0x1EDC6F41) r) reg
/-- The CRC-32C value of a register. -/
def crc32cOut (reg : Nat) : Nat := reverseBits 32 (reg ^^^ 0xFFFFFFFF)
/-- CRC-32C of bytes. (PRESUMED, log 29, unsafe) -/
def crc32c (l : List Byte) : Nat := crc32cOut (crc32cAdd 0xFFFFFFFF l)
/-- One's-complement sum of 16-bit big-endian words; an odd last byte is padded with 0. -/
def inetSum : List Byte → Nat
  | [] => 0
  | [a] => a.toNat * 256
  | a :: b :: r => a.toNat * 256 + b.toNat + inetSum r
/-- The Internet checksum of bytes. -/
def inetCheck (l : List Byte) : Nat :=
  let s := inetSum l
  let f1 := s % 65536 + s / 65536
  let f2 := f1 % 65536 + f1 / 65536
  65535 - f2 % 65536

end Sys2Proof.Machine
end

