-- ==== Sys2Proof/Machine/Time.lean ====
section
/-!
DEFINITION. The time unit: the counters of T0 and T1, boundary stamps and predictions, steps and sets, grandmaster loss, and domain
switches (R229, R242–R249).
-/

namespace Sys2Proof.Machine

/-- Units of a time counter per nanosecond: 2^-30 ns is the finest step that `ADJ_RATE` can make in a 4 ns cycle (R243). -/
def nsUnit : Nat := 0x40000000
/-- A counter's modulus: 48-bit seconds. -/
def timeMod : Nat := 0x1000000000000 * 1000000000 * nsUnit
/-- The counter of instance i. -/
def State.timeOf (s : State) (i : Nat) : Nat := FMap.get 0 s.ptp.cnt i
def State.setTime (s : State) (i v : Nat) : State := { s with ptp := { s.ptp with cnt := FMap.set 0 s.ptp.cnt i (v % timeMod) } }
/-- Nanosecond count of a counter value. -/
def nsOf (t : Nat) : Nat := t / nsUnit
/-- ADJ_RATE clamped to ±1,000 ppm. -/
def State.adjOf (s : State) (i : Nat) : Int := clampInt (-4294967) 4294967 (s.sfld (R.TIME_T_ADJ_RATE i))
/-- The counters advance by PTP cycles: 4 ns × (1 + ADJ_RATE × 2^-32) each (R243). (DESIGN CHOICE, log 4, unsafe; DEDUCED, log 44, unsafe) -/
def State.timeAdvance (s : State) (cycles : Nat) : State :=
  let step (st : State) (i : Nat) : State := st.setTime i (((st.timeOf i : Int) + (cycles : Int) * (4294967296 + st.adjOf i)).toNat)
  step (step s 0) 1
/-- The domain that the grid follows. -/
def State.selCur (s : State) : Nat := s.fld R.TIME_STATUS_SEL_CUR
/-- A stamp less or plus a path latency in picoseconds (R244). -/
def stampLess (t ps : Nat) : Nat := t - ps * nsUnit / 1000
def stampPlus (t ps : Nat) : Nat := t + ps * nsUnit / 1000

/-! Boundary stamps (R229, R248) -/

/-- The last boundary's stamp in a domain, and the predicted length of a tick. -/
def State.bndOf (s : State) (i : Nat) : Nat := FMap.get 0 s.ptp.bnd i
def State.tickLen (s : State) (i : Nat) : Int := (s.bndOf i : Int) - (FMap.get 0 s.ptp.bndPrev i : Nat)
/-- Predicted time of the m-th boundary after the last one, in units. -/
def State.predict (s : State) (i : Nat) (m : Int) : Int := (s.bndOf i : Int) + m * s.tickLen i
/-- The prediction of the m-th boundary after the last one, as made for it, with the tick length of its time (R229): a boundary that has passed
keeps its own prediction. -/
def State.predicted (s : State) (i : Nat) (m : Int) : Int × Int :=
  if m ≤ 1 then
    match s.ptp.preds[(1 - m).toNat]? with
    | some p => if i = 0 then p.1 else p.2
    | none => (s.predict i m, s.tickLen i)
  else (s.predict i m, s.tickLen i)
/-- Units to nanoseconds, rounded half up. -/
def roundNs (u : Int) : Int := (2 * u + nsUnit) / (2 * nsUnit)
/-- One grid tick is 250,000/3 ns (12,000 ticks a second, R15): in units of 2^-30/3 ns. -/
def tick3 : Int := 250000 * 0x40000000
/-- The residual register shows whole nanoseconds, rounded half up. (DEDUCED, log 24, unsafe) -/
def State.showResid (s : State) : State := s.setSFld R.TIME_SLEW_RESID ((2 * s.ptp.resid + 3 * nsUnit) / (6 * nsUnit))
/-- GRID_LOCKED follows its condition (Table 1-6): domain base, not slewing, and PHASE_ERR within 100 ns. -/
def State.showGrid (s : State) : State :=
  s.setBit R.TICK_STATUS_GRID_LOCKED (s.bit R.TICK_STATUS_RUNNING && !s.tick.localBase && !s.bit R.TICK_STATUS_SLEWING &&
    decide ((s.sfld R.TICK_PHASE_ERR).natAbs ≤ 100000))
/-- The slew residual has reached 0: SLEWING ends with SLEW_DONE (R248). -/
def State.slewOver (s : State) : State :=
  ((((({ s with ptp := { s.ptp with resid := 0 } }.setFld R.TIME_SLEW_RESID 0).setFld R.TIME_STATUS_SLEWING 0).setFld R.TICK_STATUS_SLEWING 0).setIrq
    R.TIME_IRQ_STATUS 3)).showGrid
/-- How far a slew moves the grid in one tick: SLEW_RATE in 2^-30/3 ns (0 acts as 1 ns per second). -/
def State.slewStep (s : State) : Int := ((if s.fld R.TIME_SLEW_RATE = 0 then 1 else s.fld R.TIME_SLEW_RATE) * nsUnit * 3 / 12000 : Nat)
/-- Every boundary is stamped in both domains, the next one is predicted, D is shown, and a running slew advances by one tick; the build-out of a
domain switch waits for the switch of the clock unit (R269). (DEDUCED, log 44, unsafe) -/
def State.timeBoundary (s : State) : State :=
  let stamp (st : State) (i : Nat) : State :=
    let t := st.timeOf i
    let st1 := { st with ptp := { st.ptp with bndPrev := FMap.set 0 st.ptp.bndPrev i (st.bndOf i), bnd := FMap.set 0 st.ptp.bnd i t } }
    (st1.setFld (R.TIME_T_BND_NS i) (nsOf t % 1000000000)).setFld (R.TIME_T_BND_SEC i) (nsOf t / 1000000000)
  let s1 := stamp (stamp s 0) 1
  let d : Int := ((s1.bndOf 1 : Int) - (s1.bndOf 0 : Nat)) / nsUnit
  let s2 := (s1.setFld R.TIME_DOM_OFS_NS (d % 1000000000).toNat).setSFld R.TIME_DOM_OFS_SEC (d / 1000000000)
  let s3 := { s2 with ptp := { s2.ptp with
    preds := (((s2.predict 0 1, s2.tickLen 0), (s2.predict 1 1, s2.tickLen 1)) :: s2.ptp.preds).take 16 } }
  if s3.bit R.TIME_STATUS_SLEWING ∧ (!s3.clk.auto ∨ (s3.bit R.CLK_STATUS_ALIGNING ∧ s3.fld R.CLK_STATUS_STATE ≠ 3)) then
    let r := s3.ptp.resid
    if r.natAbs ≤ s3.slewStep.natAbs then s3.slewOver
    else ({ s3 with ptp := { s3.ptp with resid := if 0 < r then r - s3.slewStep else r + s3.slewStep } }).showResid
  else s3

/-! Domain switches (R247, R248) -/

/-- The grid's offset to a domain is split into whole ticks and a remainder in (−half, +half] tick. `stamp` is the last boundary's time in
the domain. -/
def splitOffset (stamp : Nat) : Int × Int :=
  let u3 : Int := 3 * (stamp : Int)
  let half : Int := tick3 / 2
  let m := -((half - u3) / tick3)
  (m, u3 - m * tick3)
/-- For the clock unit a domain switch is a reference switch to the other PTP instance, followed by an automatic ALIGN (R269). -/
def State.clkDomain (s : State) (d : Nat) : State :=
  let st := s.fld R.CLK_STATUS_STATE
  let ref := s.fld R.CLK_STATUS_SEL_REF
  if s.bit R.CLK_STATUS_SEL_VALID ∧ (ref = 4 ∨ ref = 5) ∧ (st = 1 ∨ st = 2 ∨ st = 3) then
    let s1 := { s with clk := { s.clk with prev := if st = 3 then s.clk.prev else st, swEdges := 0, auto := true, nextAlign := true, domHeld := true } }
    let s2 := ((s1.setFld R.CLK_STATUS_SEL_REF (4 + d)).setFld R.CLK_STATUS_STATE 3).setIrq R.CLK_IRQ_STATUS 2
    if st = 3 then s2 else s2.setIrq R.CLK_IRQ_STATUS 0
  else s
/-- A switch to domain `d`, whose time at the last boundary is `stamp`. (DEDUCED, log 44, unsafe) -/
def State.domainSwitch (s : State) (d stamp : Nat) : State :=
  let (m, r) := splitOffset stamp
  let s1 := ({ s with ptp := { s.ptp with mr := !s.ptp.mr, resid := r } }.setFld R.TIME_STATUS_SEL_CUR d).setSFld
    R.TIME_GRID_OFS (m - (s.tick.num : Int))
  ((((s1.clkDomain d).setFld R.TIME_STATUS_SLEWING 1).setFld R.TICK_STATUS_SLEWING 1).showResid.showGrid.setIrq R.TIME_IRQ_STATUS 0).fcu' 28 3 d
/-- A write of `TIME.CTRL.SEL`. (DEDUCED, log 44, unsafe) -/
def State.selWrite (s : State) (d : Nat) : State := (s.setFld R.TIME_CTRL_SEL d).domainSwitch d (s.bndOf d)
/-- SLEW_DONE: the residual reaches 0 in this tick; a slew with more left goes on. (DEDUCED, log 44, unsafe) -/
def State.slewDone (s : State) : State :=
  if s.bit R.TIME_STATUS_SLEWING ∧ s.ptp.resid.natAbs ≤ s.slewStep.natAbs then s.slewOver else s
/-- No Announce for 3 intervals: GM_LOST, with a switch when the other instance is LOCKED, or holdover when both are lost (R242, R247). -/
def State.gmLost (s : State) (i : Nat) : State :=
  if s.bit (R.TIME_T_CTRL_EN i) && !s.bit (R.TIME_T_STATE_GM_LOST i) then
    let o := 1 - i
    let s1 := ((s.setFld (R.TIME_T_STATE_GM_LOST i) 1).setIrq R.TIME_IRQ_STATUS (1 + i)).fcu' 28 1 i
    let s2 := if s1.selCur = i ∧ s1.bit R.TIME_CTRL_AUTO_SW ∧ s1.fld (R.TIME_T_STATE_STATE o) = 2 ∧ !s1.bit (R.TIME_T_STATE_GM_LOST o) then
        s1.domainSwitch o (s1.bndOf o)
      else s1
    if s2.bit (R.TIME_T_STATE_GM_LOST o) then
      ((s2.setFld R.TIME_STATUS_HOLDOVER 1).setIrq R.TIME_IRQ_STATUS 4).fcu' 28 2 i
    else s2
  else s
/-- An Announce message of instance i. (DEDUCED, log 44, unsafe) -/
def State.announce (s : State) (i : Nat) : State :=
  ((s.count (R.TIME_T_ANN_CNT i) 1).setFld (R.TIME_T_STATE_GM_LOST i) 0).setFld R.TIME_STATUS_HOLDOVER 0

/-! Counter commands (R243) -/

/-- STEP_SEC and STEP_NS as units. -/
def State.stepUnits (s : State) (i : Nat) : Int :=
  (s.sfld (R.TIME_T_STEP_SEC i) * 1000000000 + s.sfld (R.TIME_T_STEP_NS i)) * nsUnit
/-- The counter of instance i jumps to `v`; for the selected instance that is a switch to the same domain, measured on the new count. (DEDUCED, log 44, unsafe) -/
def State.timeJump (s : State) (i : Nat) (v : Int) : State :=
  let w := v % timeMod
  let moved := w - (s.timeOf i : Int)
  let s1 := s.setTime i w.toNat
  if s.selCur = i then s1.domainSwitch i (((s.bndOf i : Int) + moved) % timeMod).toNat else s1
def State.timeStep (s : State) (i : Nat) : State := s.timeJump i ((s.timeOf i : Int) + s.stepUnits i)
def State.timeSet (s : State) (i : Nat) : State := s.timeJump i (s.stepUnits i)
/-- A read of `TIME.Tn_NS` latches the seconds and sub-nanoseconds. -/
def State.timeNsRead (s : State) (i : Nat) : State :=
  let t := s.timeOf i
  let sec := nsOf t / 1000000000
  (((s.setFld (R.TIME_T_NS i) (nsOf t % 1000000000)).setFld (R.TIME_T_SEC_LO i) (sec % 0x100000000)).setFld
    (R.TIME_T_SEC_HI i) (sec / 0x100000000)).setFld (R.TIME_T_SUBNS i) (t % nsUnit / 0x4000)

end Sys2Proof.Machine
end

