-- ==== Sys2Proof/Machine/Net.lean ====
section
/-!
DEFINITION. Network ports (R195–R223): modes and links, the receive order of Table 8-2, Winnow, host buffers, bridging, transmit queues,
shapers, launch times, PAUSE, wake patterns, MDIO and counters. Port 4 is MGMT.
-/

namespace Sys2Proof.Machine

def State.netPort (s : State) (n : Nat) : NetPort := FMap.get NetPort.zero s.net.ports n
def State.setNetPort (s : State) (n : Nat) (p : NetPort) : State := { s with net := { s.net with ports := FMap.set NetPort.zero s.net.ports n p } }
/-- The management port's number. -/
def mgmt : Nat := 4
/-- Fault source of a port's link. -/
def netSource (n : Nat) : Nat := 22 + n

/-! Frames -/

/-- What Winnow reads of a frame. -/
structure Hdr where
  dst    : Nat
  src    : Nat
  tagged : Bool
  tci    : Nat
  rtag   : Option Nat
  etype  : Nat
  /-- Offset of the first byte after the EtherType. -/
  off    : Nat
  deriving DecidableEq, Repr
/-- The header of an Ethernet frame: addresses, tag, R-TAG and EtherType. (PRESUMED, log 43, unsafe) -/
def parseHdr (l : List Byte) : Hdr :=
  let tagged := decide (beAt l 12 2 = 0x8100)
  let o1 := if tagged then 18 else 14
  let e1 := beAt l (o1 - 2) 2
  if e1 = 0xF1C1 then ⟨beAt l 0 6, beAt l 6 6, tagged, if tagged then beAt l 14 2 else 0, some (beAt l (o1 + 2) 2), beAt l (o1 + 4) 2, o1 + 6⟩
  else ⟨beAt l 0 6, beAt l 6 6, tagged, if tagged then beAt l 14 2 else 0, none, e1, o1⟩
def Hdr.pcp (h : Hdr) : Nat := if h.tagged then h.tci / 8192 else 0
/-- IPv4 without fragmentation carrying UDP: the offset of the UDP header. -/
def udpAt (l : List Byte) (h : Hdr) : Option Nat :=
  if h.etype = 0x0800 ∧ beAt l h.off 1 / 16 = 4 ∧ beAt l (h.off + 9) 1 = 17 ∧ beAt l (h.off + 6) 2 % 0x4000 = 0 then
    some (h.off + beAt l h.off 1 % 16 * 4)
  else none
/-- Destination kinds of Table 8-3: 0 unicast, 1 group, 2 broadcast. -/
def dstKind (dst : Nat) : Nat := if dst = 0xFFFFFFFFFFFF then 2 else if dst / 0x10000000000 % 2 = 1 then 1 else 0
/-- A perfect-match entry's address. -/
def State.pmAddr (s : State) (n e : Nat) : Nat := s.fld (R.NET_PM_HI_ADDR n e) * 0x100000000 + s.fld (R.NET_PM_LO n e)
/-- The first valid perfect-match entry that equals a unicast address (R200). -/
def State.pmMatch (s : State) (n dst : Nat) : Option Nat :=
  if dstKind dst = 0 then (List.range 16).find? (fun e => s.bit (R.NET_PM_HI_VALID n e) && decide (s.pmAddr n e = dst)) else none
/-- The hash bin of a group address (R201). -/
def hashBin (dst : Nat) : Nat := crc32 (beBytes 6 dst) / 0x800000
/-- Winnow's acceptance (R200). -/
def State.winnow (s : State) (n dst : Nat) : Bool :=
  s.bit (R.NET_CTRL_PROMISC n) || (s.pmMatch n dst).isSome ||
  (decide (dstKind dst = 2) && s.bit (R.NET_CTRL_BCAST_EN n)) ||
  (decide (dstKind dst = 1) && bitOf (s.fld (R.NET_HASH n (hashBin dst / 32))) (hashBin dst % 32))
/-- The receive stream whose stream-ID entry a frame matches (R202). -/
def State.sidMatch (s : State) (n : Nat) (l : List Byte) (h : Hdr) : Option Nat :=
  let hit (e : SidEnt) : Bool :=
    decide (e.port = n) && bitOf e.w0 31 &&
    (if bitOf e.w0 30 then
      match udpAt l h with
      | some u => decide (beAt l (h.off + 16) 4 = e.w1) && decide (beAt l (u + 2) 2 = e.w2 % 65536)
      | none => false
    else decide (h.etype = 0x22F0) && decide (beAt l (h.off + 4) 8 = e.w1 * 0x100000000 + e.w2))
  if n < 4 then (s.strm.sid.find? hit).map (fun e => e.w0 % 128) else none
/-- PTP messages go to the time unit (R203). -/
def isPtp (l : List Byte) (h : Hdr) : Bool :=
  decide (h.etype = 0x88F7) ||
  (match udpAt l h with | some u => decide (beAt l (u + 2) 2 = 319) || decide (beAt l (u + 2) 2 = 320) | none => false)
/-- Offset of the PTP message. (PRESUMED, log 43, unsafe) -/
def ptpAt (l : List Byte) (h : Hdr) : Nat := match udpAt l h with | some u => u + 8 | none => h.off
/-- Frames that the pair unit claims (R283). -/
def State.isHeartbeat (s : State) (l : List Byte) (h : Hdr) : Bool := decide (h.etype = 0x88B5) && decide (leAt l (h.off + 2) 2 = s.fld R.PAIR_ID)

/-! Counters (R218, R219) -/

/-- A Grange counter: it wraps, and a change of bit 31 sets its flag. -/
def State.gcnt (s : State) (n i : Nat) : State :=
  let v := s.fld (R.NET_GCNT n i)
  let s1 := s.setFld (R.NET_GCNT n i) (v + 1)
  if bitOf v 31 != bitOf ((v + 1) % 0x100000000) 31 then
    (if i < 32 then s1.setIrq (R.NET_GCNT_FLAG_LO n) i else s1.setIrq (R.NET_GCNT_FLAG_HI n) (i - 32))
  else s1
/-- Size bucket of a frame of k bytes. -/
def sizeBucket (maxLen k : Nat) : Nat :=
  if maxLen < k then 9 else if k < 65 then 0 else if k ≤ 127 then 1 else if k ≤ 255 then 2 else if k ≤ 511 then 3 else if k ≤ 1023 then 4
  else if k ≤ 1518 then 5 else if k ≤ 2047 then 6 else if k ≤ 4095 then 7 else 8
/-- A 64-bit octet counter. -/
def State.octets (s : State) (lo hi : Fld) (k : Nat) : State := s.setReg64 lo hi ((s.reg64 lo hi + k) % 0x10000000000000000)
/-- A frame was delivered or forwarded. -/
def State.rxOk (s : State) (n k : Nat) : State := (s.countSat (R.NET_RX_OK n) 1).octets (R.NET_RX_OCT_LO n) (R.NET_RX_OCT_HI n) k
def State.netIrq (s : State) (f : Fld) : State := s.setFld f 1

/-! Host receive queue (R204, R244) -/

/-- A descriptor as one number, word 0 lowest. -/
def descOf (w0 w1 w2 w3 : Nat) : Nat := w0 + 0x100000000 * (w1 + 0x100000000 * (w2 + 0x100000000 * w3))
def descWord (d k : Nat) : Nat := d / 0x100000000 ^ k % 0x100000000
def descAddr (d : Nat) : Nat := descWord d 0 + descWord d 1 % 16 * 0x100000000
/-- Transmit length: bits 13:12 lie in word 3. -/
def descLen (d : Nat) : Nat := bits (descWord d 1) 15 4 + bits (descWord d 3) 9 8 * 4096
/-- Deliver bytes into a buffer of `free` and push the filled descriptor into `rx`. Answers whether there was room. `stamp` is in units of
2^-30 ns; MGMT has no time stamps, and its fields take free values. -/
def State.deliver (s : State) (n free rx : Nat) (l : List Byte) (h : Hdr) (stamp : Nat) (trunc bad : Bool) : Bool × State :=
  if s.hopRoom rx = 0 ∨ s.hopCount free = 0 then (false, (s.countSat (R.NET_RX_NOBUF n) 1).netIrq (R.NET_IRQ_STATUS_RX_NOBUF n) |>.gcnt n 31)
  else
    let (d, s1) := s.hopPop free 0
    let (_, s2) := s1.writeShared 8 (descAddr d) l 0
    let k := l.length
    let w1 := h.pcp * 0x2000000 + (if h.tagged then 0x1000000 else 0) + ((s.pmMatch n h.dst).getD 0) * 0x100000 +
      dstKind h.dst * 0x40000 + (if bad then 0x20000 else 0) + (if trunc then 0x10000 else 0) + k % 4096 * 16 + descWord d 1 % 16
    let (ns, sec, s3) :=
      if n = mgmt then
        let (a, t) := s2.takeFree
        let (b, u) := t.takeFree
        (a % 0x100000000, b % 65536, u)
      else (nsOf stamp % 1000000000, nsOf stamp / 1000000000 % 65536, s2)
    (true, s3.hopPush rx (descOf (descWord d 0) w1 ns (sec * 65536 + k / 4096 % 4 * 256)) 0)
/-- Deliver to the host receive queue. -/
def State.hostDeliver (s : State) (n : Nat) (l : List Byte) (h : Hdr) (stamp : Nat) (trunc bad : Bool) : Bool × State :=
  s.deliver n (s.fld (R.NET_RXQ_CFG_FREE_HOP n)) (s.fld (R.NET_RXQ_CFG_RX_HOP n)) l h stamp trunc bad

/-! Bridging (R205, R206) -/

/-- Does port n forward a frame to the other port of its network? -/
def State.forwards (s : State) (n : Nat) (h : Hdr) : Bool :=
  let e := n ^^^ 1
  decide (n < 4) && s.bit (R.NET_CTRL_BRIDGE (n / 2 * 2)) &&
  !(decide (0x0180C2000000 ≤ h.dst) && decide (h.dst ≤ 0x0180C200000F)) &&
  (s.pmMatch n h.dst).isNone && !decide (h.src = s.pmAddr n 0) &&
  !s.bit (R.NET_CTRL_BLOCK n) && !s.bit (R.NET_CTRL_BLOCK e) && s.bit (R.NET_STATUS_LINK e) && !s.bit (R.NET_STATUS_TX_GATED n)
/-- Bytes in a forwarding buffer. -/
def NetPort.fwdBytes (p : NetPort) : Nat := (p.fwd.map (fun f => f.bytes.length)).foldl (· + ·) 0
/-- A forwarded frame joins the egress buffer of 96 KiB, or is dropped. -/
def State.forward (s : State) (n : Nat) (l : List Byte) (h : Hdr) (at0 at1 : Nat) : Bool × State :=
  let e := n ^^^ 1
  let p := s.netPort e
  if 98304 < p.fwdBytes + l.length then
    (false, ((s.countSat (R.NET_BR_DROP e) 1).netIrq (R.NET_IRQ_STATUS_BR_DROP e)).gcnt e 32)
  else
    let level := bits (s.fld (R.NET_PCP_MAP e)) (4 * h.pcp + 2) (4 * h.pcp)
    (true, (s.setNetPort e { p with fwd := p.fwd ++ [⟨level, l, at0, at1⟩] }).countSat (R.NET_BR_FWD e) 1)

/-! PAUSE (R215) -/

/-- A port's bit rate in Gb/s. -/
def State.netRate (s : State) (n : Nat) : Nat := if n < 4 ∧ s.fld (R.NET_CTRL_MODE n) ≠ 3 then 10 else 1
/-- A pause quantum, 512 bit times, in tenths of a nanosecond. -/
def State.quantum (s : State) (n : Nat) : Nat := 5120 / s.netRate n
/-- A PAUSE of `q` quanta takes effect now. -/
def State.pauseSet (s : State) (n q : Nat) : State :=
  ((s.setNetPort n { s.netPort n with pauseTime := q * s.quantum n }).setFld (R.NET_PAUSE_LEFT n) q).setBit (R.NET_STATUS_PAUSED n) (decide (q ≠ 0))
/-- A MAC control frame is consumed. -/
def State.macControl (s : State) (n : Nat) (l : List Byte) (h : Hdr) : State :=
  if beAt l h.off 2 = 1 ∧ (h.dst = 0x0180C2000001 ∨ h.dst = s.pmAddr n 0) then
    let s0 := s.countSat (R.NET_RX_PAUSE n) 1
    if s0.bit (R.NET_CTRL_PAUSE_RX n) then
      let s1 := s0.netIrq (R.NET_IRQ_STATUS_PAUSE n)
      let q := beAt l (h.off + 2) 2
      let p := s1.netPort n
      if p.flight.isSome ∧ q ≠ 0 then s1.setNetPort n { p with pauseNext := some q }
      else (s1.setNetPort n { p with pauseNext := none }).pauseSet n q
    else s0
  else s.countSat (R.NET_RX_CTL_UNSUP n) 1
/-- The pause time runs out. -/
def State.pauseExpire (s : State) (n : Nat) : State := if s.bit (R.NET_STATUS_PAUSED n) then s.pauseSet n 0 else s
/-- Part of a pause passes, in tenths of a nanosecond: PAUSE_LEFT shows the quanta that remain, the last one until it is over. -/
def State.pauseElapse (s : State) (n time : Nat) : State :=
  if s.bit (R.NET_STATUS_PAUSED n) then
    let left := (s.netPort n).pauseTime - time
    if left = 0 then s.pauseSet n 0
    else (s.setNetPort n { s.netPort n with pauseTime := left }).setFld (R.NET_PAUSE_LEFT n) ((left + s.quantum n - 1) / s.quantum n)
  else s

/-! Receive (R198–R203) -/

/-- Counters of every frame with a correct FCS. -/
def State.rxGood (s : State) (n k dst : Nat) : State :=
  (s.gcnt n (sizeBucket (s.fld (R.NET_MAX_LEN n)) k)).gcnt n (20 + dstKind dst)
/-- Steps 6 and 7 for a frame that passed; `fwd`: it was forwarded. -/
def State.rxLocal (s : State) (n : Nat) (l : List Byte) (h : Hdr) (at0 at1 : Nat) (fwd : Bool) : State :=
  let stamp := if s.selCur = 0 then at0 else at1
  if s.winnow n h.dst then
    match s.sidMatch n l h with
    | some r => { s with strm := { s.strm with inbox := s.strm.inbox ++ [RxFrame.mk n r l at0 at1] } }.rxOk n l.length
    | none =>
      if n < 4 ∧ isPtp l h then { s with ptp := { s.ptp with inbox := s.ptp.inbox ++ [RxFrame.mk n 0 l at0 at1] } }.rxOk n l.length
      else if n < 4 ∧ s.isHeartbeat l h then { s with pair := { s.pair with inbox := s.pair.inbox ++ [RxFrame.mk n 0 l at0 at1] } }.rxOk n l.length
      else match s.hostDeliver n l h stamp false false with
        | (true, s1) => s1.rxOk n l.length
        | (false, s1) => if fwd then s1.rxOk n l.length else s1
  else if fwd then s.rxOk n l.length
  else (s.countSat (R.NET_RX_FILTERED n) 1).gcnt n 30
/-- Is a wake pattern of a port matched (R216)? -/
def NetPort.wakeHit (p : NetPort) (pat : Nat) (l : List Byte) : Bool :=
  (List.range 128).all (fun i =>
    !bitOf (FMap.get 0 p.wake (pat * 64 + 32 + i / 32)) (i % 32) ||
    (decide (i < l.length) && decide (beAt l i 1 = FMap.get 0 p.wake (pat * 64 + i / 4) / 256 ^ (i % 4) % 256)))
/-- The enabled patterns that a frame with a good FCS matches, on NET0 and MGMT. -/
def State.wakeHits (s : State) (n : Nat) (l : List Byte) : List Nat :=
  if (n = 0 ∨ n = mgmt) ∧ fcsOk l then (List.range 8).filter (fun k => bitOf (s.fld (R.NET_WAKE_CTRL n)) k && (s.netPort n).wakeHit k l) else []
/-- A frame in standby is only tested against the wake patterns. -/
def State.wakeFrame (s : State) (n : Nat) (l : List Byte) : State :=
  if (s.wakeHits n l).isEmpty then s
  else ((s.wakeHits n l).foldl (fun st k => st.setIrq (R.NET_WAKE_STATUS_MATCH n) k) s).netIrq (R.NET_IRQ_STATUS_WAKE n)
/-- A received frame, FCS included, passes the steps of Table 8-2. (DEDUCED, log 11, safe; DEDUCED, log 42, unsafe) -/
def State.netReceive (s : State) (n : Nat) (l : List Byte) (pcsErr : Bool) : State :=
  if s.bit R.PWR_STATUS_STANDBY then s.wakeFrame n l
  else if s.bit (R.NET_CTRL_RX_EN n) && s.bit (R.NET_STATUS_LINK n) then
    let k := l.length
    let h := parseHdr l
    let lat := if n < 4 then s.fld (R.TIME_PORT_LAT_RX_PS n) else 0
    let at0 := stampLess (s.timeOf 0) lat
    let at1 := stampLess (s.timeOf 1) lat
    let good := fcsOk l
    let max := s.fld (R.NET_MAX_LEN n)
    if k < 64 then (s.countSat (R.NET_RX_RUNT n) 1).gcnt n 27
    else if max < k then
      let s1 := (s.countSat (R.NET_RX_TRUNC n) 1).gcnt n 29
      let s2 := if good then s1.rxGood n k h.dst else s1
      if s2.winnow n h.dst then
        match s2.hostDeliver n (l.take max) h (if s.selCur = 0 then at0 else at1) true (!good) with
        | (true, s3) => s3.rxOk n max
        | (false, s3) => s3
      else (s2.countSat (R.NET_RX_FILTERED n) 1).gcnt n 30
    else if pcsErr then (s.countSat (R.NET_RX_PCS_ERR n) 1).gcnt n 28
    else if !good then (s.countSat (R.NET_RX_FCS_ERR n) 1).gcnt n 26
    else
      let s1 := s.rxGood n k h.dst
      if h.etype = 0x8808 then s1.macControl n l h
      else if s1.forwards n h then
        let (ok, s2) := s1.forward n l h at0 at1
        s2.rxLocal n l h at0 at1 ok
      else s1.rxLocal n l h at0 at1 false
  else s

/-! Transmit (R208–R214) -/

/-- The hopper of queue q, when it is in use. -/
def State.txHop (s : State) (n q : Nat) : Option Nat := if s.bit (R.NET_TXQ_EN n q) then some (s.fld (R.NET_TXQ_HOPPER n q)) else none
/-- The head descriptor of a queue. -/
def State.txHead (s : State) (n q : Nat) : Option Nat :=
  match s.txHop n q with
  | some h => if s.hopCount h = 0 then none else (s.hop h).entries.head?
  | none => none
/-- The signed 32-bit difference L − now of a descriptor (R212). -/
def State.launchDiff (s : State) (d : Nat) : Int :=
  signedOf 32 ((descWord d 2 + 0x100000000 - nsOf (s.timeOf (if bitOf (descWord d 1) 17 then 1 else 0)) % 0x100000000) % 0x100000000)
def State.hasLaunch (_ : State) (n d : Nat) : Bool := decide (n < 4) && bitOf (descWord d 1) 19
/-- Is a head held for its launch time? -/
def State.launchHeld (s : State) (n d : Nat) : Bool := s.hasLaunch n d && decide (0 < s.launchDiff d)
/-- Is the queue's shaper credit at least 0 (R211)? -/
def State.creditOk (s : State) (n q : Nat) : Bool :=
  let bad (k : Nat) (c : Int) : Bool := decide (n < 4) && s.bit (R.NET_CBS_CFG_EN n k) && decide (s.fld (R.NET_CBS_CFG_QUEUE n k) = q) && decide (c < 0)
  !bad 0 (s.netPort n).credit0 && !bad 1 (s.netPort n).credit1
/-- Bytes of a frame on the wire without preamble and gap: padding and FCS included (R209). -/
def wireLen (d : Nat) : Nat := if bitOf (descWord d 1) 18 then Nat.max 60 (descLen d) + 4 else descLen d
/-- Would a frame of `k` bytes at level `lv` run past the launch time of a held head at a higher level (R212)? -/
def State.guarded (s : State) (n lv k : Nat) : Bool :=
  s.bit (R.NET_CTRL_LT_GUARD n) &&
  (List.range 8).any (fun q => decide (lv < q) &&
    (match s.txHead n q with
     | some d => s.launchHeld n d && decide (s.launchDiff d * s.netRate n < (k + 20) * 8)
     | none => false))
/-- May the port send at all: link up and TX_EN (R213)? -/
def State.txOpen (s : State) (n : Nat) : Bool := s.bit (R.NET_STATUS_LINK n) && s.bit (R.NET_CTRL_TX_EN n)
/-- Was transmit withheld at a launch time: `now` the state after the newest change, then the changes, newest first; a frame whose launch time is
before a change follows the state before it (R282). -/
def gatedAt (dom launch : Nat) (now : Bool) : List Gate → Bool
  | [] => now
  | g :: r =>
    let b := nsOf (if dom = 0 then g.at0 else g.at1) % 0x100000000
    if 0 ≤ signedOf 32 ((launch + 0x100000000 - b) % 0x100000000) then now else gatedAt dom launch g.was r
/-- Is transmit withheld from a descriptor's frame (R214, R282)? -/
def State.gated (s : State) (n d : Nat) : Bool :=
  let now := s.bit (R.NET_STATUS_TX_GATED n)
  if s.hasLaunch n d then gatedAt (if bitOf (descWord d 1) 17 then 1 else 0) (descWord d 2) now s.net.gates else now
/-- Is the head d of queue q withheld by the pair unit or the safe state (R214, R282, R387)? -/
def State.withheld (s : State) (n q d : Nat) : Bool :=
  let safe := s.bit R.FCU_STATUS_SAFE
  decide (n < 4) && (safe || s.gated n d) &&
  !(bitOf (s.fld R.PAIR_HB_CFG_PORTS) n && decide (s.fld R.PAIR_HB_CFG_QUEUE = q) && !safe)
/-- Is queue q's head eligible (R210)? -/
def State.eligible (s : State) (n q d : Nat) : Bool :=
  !s.launchHeld n d && s.creditOk n q && !s.bit (R.NET_STATUS_PAUSED n) && !s.guarded n q (wireLen d)
/-- Is queue q empty? -/
def State.txEmpty (s : State) (n q : Nat) : Bool := (s.txHead n q).isNone
/-- A positive credit is lost where the queue is empty and sends nothing (R211). -/
def State.creditReset (s : State) (n : Nat) : State :=
  let p := s.netPort n
  let gone (k : Nat) (c : Int) : Bool :=
    let q := s.fld (R.NET_CBS_CFG_QUEUE n k)
    decide (0 < c) && s.txEmpty n q && !(match p.flight with | some f => f.queue == q | none => false)
  if gone 0 p.credit0 || gone 1 p.credit1 then
    s.setNetPort n { p with
      credit0 := if gone 0 p.credit0 then 0 else p.credit0, credit1 := if gone 1 p.credit1 then 0 else p.credit1 }
  else s
/-- Push a completion (R208). -/
def State.complete (s : State) (n d status start : Nat) : State :=
  if s.bit (R.NET_TX_CPL_EN n) then
    let (ns, sec, s1) :=
      if n = mgmt then
        let (a, t) := s.takeFree
        let (b, u) := t.takeFree
        (a % 0x100000000, b % 65536, u)
      else (nsOf start % 1000000000, nsOf start / 1000000000 % 65536, s)
    s1.hopPush (s.fld (R.NET_TX_CPL_HOPPER n))
      (descOf (descWord d 0) (descWord d 1 % 0x10000000 + status * 0x10000000) ns (descWord d 3 % 65536 + sec * 65536)) 0
  else s
/-- The time of domain DOM, corrected by the transmit latency (R244). -/
def State.txStamp (s : State) (n d : Nat) : Nat :=
  stampPlus (s.timeOf (if bitOf (descWord d 1) 17 then 1 else 0)) (if n < 4 then s.fld (R.TIME_PORT_LAT_TX_PS n) else 0)
/-- A descriptor is done with: its completion, and the buffer of an engine unit is free again. -/
def State.txDone (s : State) (n d status start : Nat) : State :=
  let p := s.netPort n
  (s.setNetPort n { p with bufs := FMap.set [] p.bufs (descAddr d) [] }).complete n d status start
/-- Discard the head of queue q with STATUS 3 (R213). -/
def State.txDiscard (s : State) (n q : Nat) : State :=
  match s.txHop n q, s.txHead n q with
  | some h, some d => (((s.hopPop h 0).2.countSat (R.NET_TX_DISC n) 1).txDone n d 3 (s.txStamp n d)).creditReset n
  | _, _ => s
/-- Discard every head of queue q that would be eligible and may not leave, `fuel` of them at most. -/
def State.txDrain (s : State) (n q : Nat) : Nat → State
  | 0 => s
  | fuel + 1 => match s.txHead n q with
    | some d => if (!s.txOpen n || s.withheld n q d) && s.eligible n q d then (s.txDiscard n q).txDrain n q fuel else s
    | none => s
/-- Descriptors in queue q. -/
def State.txLen (s : State) (n q : Nat) : Nat := match s.txHop n q with | some h => (s.hop h).entries.length | none => 0
/-- Discard the eligible heads that may not leave, of every queue. -/
def State.txDrainAll (s : State) (n : Nat) : State := (List.range 8).foldl (fun st q => st.txDrain n q (st.txLen n q)) s
/-- The bytes that a port sends for a descriptor: padded, with the FCS appended (R209). -/
def frameBytes (d : Nat) (l : List Byte) : List Byte :=
  if bitOf (descWord d 1) 18 then
    let padded := l ++ List.replicate (60 - l.length) 0
    padded ++ fcsBytes padded
  else l
/-- Is a descriptor dropped for its length (R209)? -/
def State.txBad (s : State) (n d : Nat) : Bool :=
  let len := descLen d
  let fcs := bitOf (descWord d 1) 18
  decide (len < 14) || (decide (len < 64) && !fcs) || decide (s.fld (R.NET_MAX_LEN n) < len + (if fcs then 4 else 0))
/-- Drop the head of queue q for its length: STATUS 2, without transmission (R209). -/
def State.txDrop (s : State) (n q : Nat) : State :=
  match s.txHop n q, s.txHead n q with
  | some h, some d =>
    ((((s.hopPop h 0).2.countSat (R.NET_TX_LEN_ERR n) 1).netIrq (R.NET_IRQ_STATUS_TX_LEN n)).txDone n d 2 (s.txStamp n d)).creditReset n
  | _, _ => s
/-- How far after the counter's value a frame's time-stamp point lies, in units of 2^-30 ns: at most 6.4 ns at 10 Gb/s and 8 ns at 1 Gb/s (R212). (DEDUCED, log 42, unsafe) -/
def State.startOffset (s : State) (n w : Nat) : Nat := Nat.min w (if s.netRate n = 10 then 6871947673 else 8589934592)
/-- Start the head of queue q; `w0`, `w1`: how far after each counter's value its time-stamp point lies. -/
def State.txStart (s : State) (n q w0 w1 : Nat) : State :=
  match s.txHop n q, s.txHead n q with
  | some h, some d =>
    let len := descLen d
    let s1 := (s.hopPop h 0).2
    let late := s.hasLaunch n d && decide (s.launchDiff d < -(s.fld (R.NET_LT_TOL n) : Int))
    let s2 := if late then ((s1.countSat (R.NET_TX_LATE_LAUNCH n) 1).netIrq (R.NET_IRQ_STATUS_LATE_LAUNCH n)).gcnt n 33 else s1
    let (data, s3) := match FMap.get [] (s2.netPort n).bufs (descAddr d) with
      | [] => (match s2.readShared 8 (descAddr d) len 0 with
        | (some b, t) => (b, t)
        | (none, t) => ((List.range len).map (fun i => BitVec.ofNat 8 (Config.freeNat (t.free + i))), { t with free := t.free + len }))
      | b => (b, s2)
    let p := s3.netPort n
    s3.setNetPort n { p with
      flight := some ⟨q, d, frameBytes d data, if late then 1 else 0,
        s.txStamp n d + s.startOffset n (if bitOf (descWord d 1) 17 then w1 else w0)⟩, lastFwd := putBit p.lastFwd q false, sent := 0 }
  | _, _ => s
/-- The residence-time correction of a forwarded Sync or Delay_Req of the media profile, which UDP carries: by the instance whose DOMAIN is its
domainNumber, T0 if none is (R245). -/
def State.residence (s : State) (n : Nat) (f : FwdFrame) (w0 w1 : Nat) : List Byte :=
  let l := f.bytes
  let h := parseHdr l
  let inst := (List.range 2).find? (fun i => decide (s.fld (R.TIME_T_CTRL_DOMAIN i) = beAt l (ptpAt l h + 4) 1))
  match udpAt l h with
  | none => l
  | some u =>
    let m := u + 8
    let ty := beAt l m 1 % 16
    if isPtp l h ∧ (ty = 0 ∨ ty = 1) then
      let i := inst.getD 0
      let out := stampPlus (s.timeOf i) (s.fld (R.TIME_PORT_LAT_TX_PS n)) + s.startOffset n (if i = 0 then w0 else w1)
      let res : Int := ((out : Int) - (if i = 0 then f.at0 else f.at1 : Nat)) / 0x4000
      let cf := signedOf 64 (beAt l (m + 8) 8) + res
      let v := if 0x7FFFFFFFFFFFFFFF < cf then 0x7FFFFFFFFFFFFFFF else cf
      let body := l.take (u + 6) ++ [0, 0] ++ (l.drop (u + 8)).take 8 ++ beBytes 8 (unsignedOf 64 v) ++ ((l.take (l.length - 4)).drop (m + 16))
      body ++ fcsBytes body
    else l
/-- The oldest forwarded frame of a level. -/
def State.fwdHead (s : State) (n lv : Nat) : Option FwdFrame := (s.netPort n).fwd.find? (fun f => f.level == lv)
/-- Start the oldest forwarded frame of a level. -/
def State.fwdStart (s : State) (n lv w0 w1 : Nat) : State :=
  match s.fwdHead n lv with
  | none => s
  | some f =>
    let p := s.netPort n
    s.setNetPort n { p with fwd := p.fwd.erase f, lastFwd := putBit p.lastFwd lv true, sent := 0,
                            flight := some ⟨8, 0, s.residence n f w0 w1, 0,
                              stampPlus (s.timeOf 0) (s.fld (R.TIME_PORT_LAT_TX_PS n)) + s.startOffset n w0⟩ }
/-- What level lv may start now: 0 nothing, 1 its queue, 2 its forwarded frames (R210). -/
def State.levelPick (s : State) (n lv : Nat) : Nat :=
  let loc : Bool := match s.txHead n lv with
    | some d => !s.withheld n lv d && s.eligible n lv d
    | none => false
  let fwd : Bool := match s.fwdHead n lv with
    | some f => !s.bit (R.NET_STATUS_TX_GATED n) && !s.bit (R.NET_STATUS_PAUSED n) && !s.guarded n lv f.bytes.length
    | none => false
  if loc ∧ fwd then (if bitOf (s.netPort n).lastFwd lv then 1 else 2) else if loc then 1 else if fwd then 2 else 0
/-- Change the credit of shaper k by c, within its clamps (R211). -/
def State.creditAdd (s : State) (n k : Nat) (c : Int) : State :=
  let p := s.netPort n
  let clamp (v : Int) : Int := clampInt (s.sfld (R.NET_CBS_LO n k) * 10000000) (s.sfld (R.NET_CBS_HI n k) * 10000000) v
  s.setNetPort n (if k = 0 then { p with credit0 := clamp (p.credit0 + c) } else { p with credit1 := clamp (p.credit1 + c) })
/-- Credit of shaper k rises over `ns` nanoseconds while its queue holds a frame and is not sending (R211). (DEDUCED, log 42, unsafe) -/
def State.creditRise (s : State) (n k ns : Nat) : State :=
  let q := s.fld (R.NET_CBS_CFG_QUEUE n k)
  let sending : Bool := match (s.netPort n).flight with | some f => f.queue == q | none => false
  if s.bit (R.NET_CBS_CFG_EN n k) && !s.txEmpty n q && !sending then s.creditAdd n k (s.fld (R.NET_CBS_IDLE n k) * ns * 10 : Nat) else s
/-- Credit of shaper k falls for `wire` bits of its queue's frame that have left the port, at idleSlope − port rate (R211). (DEDUCED, log 42, unsafe) -/
def State.creditFall (s : State) (n k q wire : Nat) : State :=
  if n < 4 ∧ s.bit (R.NET_CBS_CFG_EN n k) ∧ s.fld (R.NET_CBS_CFG_QUEUE n k) = q then
    s.creditAdd n k ((s.fld (R.NET_CBS_IDLE n k) * wire * (10 / s.netRate n) : Nat) - (wire * 10000000 : Nat))
  else s
/-- Both shapers' credits fall for bits of a frame of queue q. -/
def State.creditsFall (s : State) (n q wire : Nat) : State := ((s.creditFall n 0 q wire).creditFall n 1 q wire).creditReset n
/-- Nanoseconds pass at port n: credits rise, the frame in flight goes on, a pause runs down. -/
def State.netElapse (s : State) (n ns : Nat) : State :=
  let s1 := if n < 4 then (s.creditRise n 0 ns).creditRise n 1 ns else s
  let s2 := if (s1.netPort n).flight.isSome then s1.setNetPort n { s1.netPort n with sent := (s1.netPort n).sent + ns } else s1
  (s2.pauseElapse n (10 * ns)).txDrainAll n
/-- Nanoseconds pass at every port; heads that may not leave are discarded as they become eligible (R213). (DEDUCED, log 42, unsafe) -/
def State.portsElapse (s : State) (ns : Nat) : State :=
  if s.domOn 9 then (List.range 5).foldl (fun st n => st.netElapse n ns) s else s
/-- The link is free: the highest level with an eligible frame starts; a head dropped for its length makes way for the next, `fuel` of them at
most. -/
def State.netPick (s : State) (n w0 w1 : Nat) : Nat → State
  | 0 => s
  | fuel + 1 => match (List.range 8).reverse.find? (fun lv => decide (s.levelPick n lv ≠ 0)) with
    | none => s
    | some lv =>
      if s.levelPick n lv = 1 then
        (if (match s.txHead n lv with | some d => s.txBad n d | none => false) then (s.txDrop n lv).netPick n w0 w1 fuel else s.txStart n lv w0 w1)
      else s.fwdStart n lv w0 w1
/-- Descriptors in all queues of a port. -/
def State.txTotal (s : State) (n : Nat) : Nat := ((List.range 8).map (fun q => s.txLen n q)).foldl (· + ·) 0
/-- A frame may start: heads that may not leave are discarded, then the scheduler picks (R210). (DEDUCED, log 42, unsafe) -/
def State.netStart (s : State) (n w0 w1 : Nat) : State :=
  let s1 := s.txDrainAll n
  if (s1.netPort n).flight.isSome || !s1.txOpen n then s1 else s1.netPick n w0 w1 (s1.txTotal n + 1)
/-- The frame in flight has left: counters and completion. (DEDUCED, log 42, unsafe) -/
def State.netComplete (s : State) (n : Nat) : State :=
  let p := s.netPort n
  match p.flight with
  | none => s
  | some f =>
    let s1 := s.setNetPort n { p with flight := none, pauseNext := none }
    let s2 := match p.pauseNext with | some q => s1.pauseSet n q | none => s1
    let k := f.bytes.length
    let s3 := ((((s2.countSat (R.NET_TX_OK n) 1).octets (R.NET_TX_OCT_LO n) (R.NET_TX_OCT_HI n) k).gcnt n
      (10 + sizeBucket (s.fld (R.NET_MAX_LEN n)) k)).gcnt n (23 + dstKind (beAt f.bytes 0 6))).creditsFall n f.queue ((k + 20) * 8)
    if f.queue = 8 then s3 else s3.txDone n f.desc f.status f.start
/-- The launch time of queue q's head is reached: the head is eligible from now on (R212), and discarded where it may not leave (R213). -/
def State.launchReached (s : State) (n q : Nat) : State := s.txDrain n q (s.txLen n q)

/-! Links (R196) -/

/-- LINK changes: interrupt and report. -/
def State.linkChanged (s : State) (n : Nat) (up : Bool) : State :=
  ((s.setBit (R.NET_STATUS_LINK n) up).netIrq (R.NET_IRQ_STATUS_LINK n)).fcu' (netSource n) (if up then 2 else 1) 0
/-- The frame in flight is lost and completes with STATUS 3; eligible heads are discarded (R213). (DEDUCED, log 42, unsafe) -/
def State.linkLost (s : State) (n : Nat) : State :=
  let p := s.netPort n
  let s1 := s.setNetPort n { p with flight := none, pauseNext := none }
  let s2 := match p.flight with
    | some f => if f.queue = 8 then s1 else
        ((s1.countSat (R.NET_TX_DISC n) 1).creditsFall n f.queue (Nat.min (p.sent * s.netRate n) ((f.bytes.length + 20) * 8))).txDone n f.desc 3 f.start
    | none => s1
  s2.txDrainAll n
/-- The pause resolution of IEEE 802.3 Annex 28B from what the engine advertises, both bits or none, and the partner's PAUSE (bit 0) and ASM_DIR
(bit 1): 0 none, 1 symmetric, 2 receive. (PRESUMED, log 69, unsafe) -/
def pauseRes (advert : Bool) (partner : Nat) : Nat :=
  if !advert then 0 else if bitOf partner 0 then 1 else if bitOf partner 1 then 2 else 0
/-- Is a port powered down in standby (R426)? (DEDUCED, log 64, unsafe) -/
def State.netAsleep (s : State) (n : Nat) : Bool := s.bit R.PWR_STATUS_STANDBY && decide (1 ≤ n ∧ n ≤ 3)
/-- The link comes up; `partner` holds the PAUSE and ASM_DIR bits of the other side (R196). (DEDUCED, log 11, safe; PRESUMED, log 69, unsafe) -/
def State.netLinkUp (s : State) (n partner eq : Nat) : State :=
  if s.bit (R.NET_STATUS_LINK n) || (decide (n < 4) && decide (s.fld (R.NET_CTRL_MODE n) = 0)) || s.netAsleep n then s
  else
    let mode := s.fld (R.NET_CTRL_MODE n)
    let s1 := if n < 4 ∧ mode = 2 then
        (((s.setFld (R.NET_STATUS_TRAINING n) 0).setFld (R.NET_TXEQ_PRE n) (bits eq 5 0)).setFld (R.NET_TXEQ_MAIN n) (bits eq 13 8)).setFld
          (R.NET_TXEQ_POST n) (bits eq 21 16)
      else if n < 4 ∧ mode = 3 ∧ s.bit (R.NET_CTRL_AN_EN n) then (s.setFld (R.NET_STATUS_AN_DONE n) 1).setFld (R.NET_STATUS_PAUSE_RES n)
        (pauseRes (s.netPort n).advert partner)
      else s
    (s1.setFld (R.NET_STATUS_LOCAL_FAULT n) 0).linkChanged n true
def State.netLinkDown (s : State) (n : Nat) (localFault remoteFault : Bool) : State :=
  let s1 := if n < 4 then (s.setBit (R.NET_STATUS_LOCAL_FAULT n) localFault).setBit (R.NET_STATUS_REMOTE_FAULT n) remoteFault else s
  if s1.bit (R.NET_STATUS_LINK n) then (s1.linkChanged n false).linkLost n else s1
/-- The PCS restarts: link down, auto-negotiation and training from the start. -/
def State.pcsRestart (s : State) (n : Nat) : State :=
  let s0 := if s.bit (R.NET_STATUS_LINK n) then (s.linkChanged n false).linkLost n else s.linkLost n
  let s1 := s0.setNetPort n { s0.netPort n with advert := s.bit (R.NET_CTRL_PAUSE_RX n) }
  if n < 4 then
    (((s1.setFld (R.NET_STATUS_AN_DONE n) 0).setFld (R.NET_STATUS_PAUSE_RES n) 0).setBit (R.NET_STATUS_TRAINING n)
      (decide (s1.fld (R.NET_CTRL_MODE n) = 2)))
  else s1
/-- A write of MODE. -/
def State.modeWrite (s : State) (n mode : Nat) : State := if n < 4 then (s.setFld (R.NET_CTRL_MODE n) mode).pcsRestart n else s
/-- KR training has not completed within 500 ms. -/
def State.trainFail (s : State) (n : Nat) : State :=
  if n < 4 ∧ s.bit (R.NET_STATUS_TRAINING n) then
    ((s.setFld (R.NET_STATUS_TRAIN_FAIL n) 1).netIrq (R.NET_IRQ_STATUS_TRAIN_FAIL n)).fcu' (netSource n) 3 0
  else s
/-- Setting RX_EN (R204). -/
def State.rxEnWrite (s : State) (n : Nat) : State :=
  let desc (h : Nat) : Bool := decide (s.fld (R.HOP_Q_CFG_USE h) = 2)
  if s.fld (R.NET_RX_BUF_LEN n) < s.fld (R.NET_MAX_LEN n) ∨ !desc (s.fld (R.NET_RXQ_CFG_RX_HOP n)) ∨ !desc (s.fld (R.NET_RXQ_CFG_FREE_HOP n)) then
    s.setFld (R.NET_STATUS_CFG_ERR n) 1
  else s.setFld (R.NET_CTRL_RX_EN n) 1
/-- TX_EN is written; clearing it discards the eligible heads. -/
def State.txEnWrite (s : State) (n : Nat) (on : Bool) : State := (s.setBit (R.NET_CTRL_TX_EN n) on).txDrainAll n
/-- Transmit streams show whether the pair unit withholds transmit (Table 9-7). -/
def State.strmGated (s : State) (gated : Bool) : State :=
  (List.range 128).foldl (fun st r => if st.fld (R.STRM_TX_STATE_STATE r) = 0 then st
    else st.setFld (R.STRM_TX_STATE_STATE r) (if gated then 2 else 1)) s
/-- Withholding of every NETn port changes (R214, R282). (DEDUCED, log 42, unsafe) -/
def State.netGate (s : State) (gated : Bool) : State :=
  let was := s.bit (R.NET_STATUS_TX_GATED 0)
  let near (g : Gate) : Bool := decide (nsOf (s.timeOf 0) < nsOf g.at0 + 0x80000000)
  let s1 := if was = gated then s
    else { s with net := { s.net with gates := ⟨s.timeOf 0, s.timeOf 1, was⟩ :: s.net.gates.filter near } }
  ((List.range 4).foldl (fun st n => (st.setBit (R.NET_STATUS_TX_GATED n) gated).txDrainAll n) s1).strmGated gated

/-! Wake patterns, MDIO, octet counters -/

/-- The test of a wake pattern (R216). -/
def NetPort.wakeOk (p : NetPort) (k : Nat) : Bool :=
  let sel := (List.range 128).filter (fun i => bitOf (FMap.get 0 p.wake (k * 64 + 32 + i / 32)) (i % 32))
  !sel.isEmpty &&
  decide (crc16 (sel.map (fun i => BitVec.ofNat 8 (FMap.get 0 p.wake (k * 64 + i / 4) / 256 ^ (i % 4)))) = FMap.get 0 p.wake (k * 64 + 36) % 65536)
/-- A write of WAKE_CTRL: bits that become 1 are tested. -/
def State.wakeCtrl (s : State) (n v : Nat) : State :=
  if n = 0 ∨ n = mgmt then
    let old := s.fld (R.NET_WAKE_CTRL n)
    (List.range 8).foldl (fun st k =>
      if bitOf v k ∧ !bitOf old k then
        (if (st.netPort n).wakeOk k then st.setIrq (R.NET_WAKE_CTRL n) k else st.setIrq (R.NET_WAKE_STATUS_BAD n) k)
      else if bitOf v k then st
      else st.clrFld (R.NET_WAKE_CTRL n) (2 ^ k)) s
  else s
/-- The word that WAKE_SEL selects. -/
def State.wakeKey (s : State) (n : Nat) : Nat := s.fld (R.NET_WAKE_SEL_PATTERN n) * 64 + s.fld (R.NET_WAKE_SEL_WORD n)
def State.wakeData (s : State) (n : Nat) : Nat := if n = 0 ∨ n = mgmt then FMap.get 0 (s.netPort n).wake (s.wakeKey n) else 0
def State.setWakeData (s : State) (n v : Nat) : State :=
  if (n = 0 ∨ n = mgmt) ∧ s.fld (R.NET_WAKE_SEL_WORD n) ≤ 36 then
    let p := s.netPort n
    s.setNetPort n { p with wake := FMap.set 0 p.wake (s.wakeKey n) (if s.fld (R.NET_WAKE_SEL_WORD n) = 36 then v % 65536 else v % 0x100000000) }
  else s
/-- A write of MDIO_CMD: with BUSY = 1 a clause 22 cycle starts. -/
def State.mdioWrite (s : State) (v : Nat) : State :=
  ((((s.setFld R.MGMT_MDIO_CMD_OP (bits v 27 26)).setFld R.MGMT_MDIO_CMD_PHYAD (bits v 25 21)).setFld R.MGMT_MDIO_CMD_REGAD (bits v 20 16)).setFld
    R.MGMT_MDIO_CMD_DATA (bits v 15 0)).setFld R.MGMT_MDIO_CMD_BUSY (bits v 31 31)
/-- The MDIO cycle ends; a read leaves the data of the PHY. -/
def State.mdioDone (s : State) (data : Nat) : State :=
  if s.bit R.MGMT_MDIO_CMD_BUSY then
    let s1 := s.setFld R.MGMT_MDIO_CMD_BUSY 0
    if s.fld R.MGMT_MDIO_CMD_OP = 2 then s1.setFld R.MGMT_MDIO_CMD_DATA data else s1
  else s
/-- A read of an octet counter's LO register: HI latches bits 63:32, and both are cleared (R218). Answers bits 31:0. The latched HI is
kept by port and direction. -/
def State.octetRead (s : State) (n : Nat) (tx : Bool) : Nat × State :=
  let lo := if tx then R.NET_TX_OCT_LO n else R.NET_RX_OCT_LO n
  let hi := if tx then R.NET_TX_OCT_HI n else R.NET_RX_OCT_HI n
  let k := 2 * n + (if tx then 1 else 0)
  (s.fld lo, { s with net := { s.net with octHi := FMap.set 0 s.net.octHi k (s.fld hi) } }.setReg64 lo hi 0)

end Sys2Proof.Machine
end

