-- ==== Sys2Proof/Machine/Strm.lean ====
section
/-!
DEFINITION. The stream engine and PTP steering (R224–R241, R244): frames built from scattered blocks, received frames checked,
eliminated and placed, presentation, loss, and the delivery of PTP messages. The field positions inside AAF, CRF, R-TAG, IPv4, UDP and
RTP headers are those of the named standards.
-/

namespace Sys2Proof.Machine


/-! Rates and formats -/

/-- Samples per second of the running image. -/
def State.rateHz (s : State) : Nat := s.nsmp * 12000
/-- nsr code (Table 9-1). -/
def State.nsrCode (s : State) : Nat := match s.fld R.TICK_STATUS_RATE with | 0 => 5 | 1 => 7 | _ => 9
/-- AES67 packet samples P (Table 9-5). -/
def State.aesP (s : State) (ptime : Nat) : Nat :=
  s.nsmp / 4 * (match ptime with | 0 => 6 | 1 => 12 | 2 => 16 | _ => 48)
/-- Bytes per sample of a format. -/
def sampleBytes (format : Nat) : Nat := match format with | 0 => 4 | 1 => 3 | 2 => 3 | _ => 2
/-- Longest transmit frame of an entry at a rate of nsmp samples a tick, FCS included (R228). -/
def TxEnt.maxFrame (e : TxEnt) (nsmp : Nat) : Nat :=
  let eth := 14 + (if bitOf e.flags 1 then 4 else 0) + (if bitOf e.flags 0 then 6 else 0) + 4
  if e.format ≤ 1 then eth + 24 + e.chans * nsmp * sampleBytes e.format
  else if e.format ≤ 3 then
    eth + 20 + 8 + 12 + e.chans * sampleBytes e.format * (nsmp / 4 * (match e.ptime with | 0 => 6 | 1 => 12 | 2 => 16 | _ => 48))
  else eth + 20 + 48

/-! Transmit -/

/-- Key of a sample to transmit. -/
def txKey (stream ch count : Nat) : Nat := (stream * 64 + ch) * 512 + count % 512
/-- A block for transmit channel `index` in the current tick. -/
def State.txBlock (s : State) (index : Nat) (vs : List Word) : State :=
  { s with strm := { s.strm with block := FMap.setRun 0 s.strm.block (index * 16) vs, wrote := index :: s.strm.wrote.filter (· != index) } }
/-- Samples of a transmit channel are scattered in the current tick. -/
def State.strmScatter (s : State) (index : Nat) (vs : List Word) : State :=
  (s.txBlock index vs).setHeld (heldKey 1 1 index) (vs.getLast?.getD 0)
/-- The transmit channels of the maps in force and waiting. -/
def State.txChannels (s : State) : List Nat :=
  (s.strm.txMap ++ s.strm.txPend.flatMap (fun e => e.2)).flatMap (fun e => if e.format = 4 then [] else (List.range e.chans).map (fun c => e.stream * 64 + c))
/-- The tick ends: a transmit channel whose block was not scattered takes its last sample throughout (R25, R26, R30). -/
def State.strmClose (s : State) : State :=
  (s.txChannels.filter (fun i => !s.strm.wrote.contains i)).foldl (fun st i =>
    st.txBlock i (List.replicate s.nsmp (s.heldSample (heldKey 1 1 i)))) s
/-- At boundary t the block of the ended tick takes the media span that starts at the next boundary (R231). -/
def State.txMove (s : State) (t : Nat) : State :=
  let ents := s.strm.txMap.filter (fun e => decide (e.format ≠ 4))
  let first := (t + 1) * s.nsmp
  let buf := ents.foldl (fun m e => (List.range e.chans).foldl (fun m c => (List.range s.nsmp).foldl (fun m n =>
    FMap.set 0 m (txKey e.stream c (first + n)) (FMap.get 0 s.strm.block ((e.stream * 64 + c) * 16 + n))) m) m) s.strm.txBuf
  let since := ents.foldl (fun m e => if FMap.get 0 m e.stream = 0 then FMap.set 0 m e.stream (first + 1) else m) s.strm.txFrom
  { s with strm := { s.strm with txBuf := buf, txFrom := since, block := [], wrote := [] } }

/-- A container as the wire samples of a format (R230, R231). -/
def wireSample (format : Nat) (w : Word) : List Byte :=
  match format with
  | 0 => beBytes 4 w.toNat
  | 3 =>
    let v : Int := signedOf 24 (w.toNat / 256)
    beBytes 2 (unsignedOf 16 (clampInt (-32768) 32767 ((v + 128) / 256)))
  | _ => beBytes 3 (w.toNat / 256)
/-- The samples of a stream, `n` of them from a grid sample count; zero on a fenced engine, held-last during a hold. (DEDUCED, log 37, unsafe) -/
def State.txSamples (s : State) (e : TxEnt) (first n : Nat) : List Byte :=
  (List.range n).flatMap (fun i => (List.range e.chans).flatMap (fun c =>
    wireSample e.format (if s.fenced then 0 else if s.outHeld then s.heldSample (heldKey 2 1 (e.stream * 64 + c))
      else FMap.get 0 s.strm.txBuf (txKey e.stream c (first + i)))))
/-- Addresses, tag, R-TAG and EtherType (R230, R239). -/
def State.ethHead (s : State) (n : Nat) (e : TxEnt) (seq etype : Nat) : List Byte :=
  beBytes 6 e.mac ++ beBytes 6 (s.pmAddr n 0) ++ (if bitOf e.flags 1 then beBytes 2 0x8100 ++ beBytes 2 e.tci else []) ++
  (if bitOf e.flags 0 then beBytes 2 0xF1C1 ++ [0, 0] ++ beBytes 2 (seq % 65536) else []) ++ beBytes 2 etype
/-- Low 32 bits of a predicted time in nanoseconds. -/
def low32 (u : Int) : Nat := (roundNs u % 0x100000000).toNat
/-- The time-uncertain bit: the selected instance is not LOCKED. -/
def State.tuBit (s : State) : Nat := if s.fld (R.TIME_T_STATE_STATE s.selCur) = 2 then 0 else 1
/-- The AAF frame of a stream for the media span from boundary j, without FCS, with its launch time. (PRESUMED, log 43, unsafe) -/
def State.aafFrame (s : State) (n : Nat) (e : TxEnt) (j : Nat) : List Byte × Nat :=
  let ts := low32 (s.predict s.selCur ((j : Int) - s.tick.num))
  let b := sampleBytes e.format
  (s.ethHead n e j 0x22F0 ++ [2, BitVec.ofNat 8 (0x81 + (if s.ptp.mr then 8 else 0)), BitVec.ofNat 8 j, BitVec.ofNat 8 s.tuBit] ++
    beBytes 8 e.id ++ beBytes 4 ts ++ [BitVec.ofNat 8 (if e.format = 0 then 2 else 3)] ++ beBytes 2 (s.nsrCode * 4096 + e.chans) ++ [24] ++
    beBytes 2 (e.chans * s.nsmp * b) ++ [0, 0] ++ s.txSamples e (j * s.nsmp) s.nsmp, ts)
/-- The CRF PDU for boundary j (R232). (PRESUMED, log 43, unsafe) -/
def State.crfFrame (s : State) (n : Nat) (e : TxEnt) (j : Nat) : List Byte × Nat :=
  let at' (m : Nat) : Int := s.predict s.selCur ((j + m : Int) - s.tick.num)
  (s.ethHead n e j 0x22F0 ++ [4, BitVec.ofNat 8 (0x80 + (if s.ptp.mr then 8 else 0) + s.tuBit), BitVec.ofNat 8 j, 1] ++ beBytes 8 e.id ++
    beBytes 4 s.rateHz ++ beBytes 2 48 ++ beBytes 2 s.nsmp ++ (List.range 6).flatMap (fun m => beBytes 8 (unsignedOf 64 (roundNs (at' m)))),
    low32 (at' 0))
/-- The AES67 packet p of a stream (R231). (PRESUMED, log 43, unsafe) -/
def State.aesFrame (s : State) (n : Nat) (e : TxEnt) (p : Nat) : List Byte × Nat :=
  let P := s.aesP e.ptime
  let first := p * P
  let sel := s.selCur
  let (b, len) := s.predicted sel ((first / s.nsmp : Int) - s.tick.num)
  let start : Int := b + len * (first % s.nsmp : Nat) / s.nsmp
  let launch : Int := start + len * (((P + s.nsmp - 1) / s.nsmp - 1 : Nat) : Int)
  let rtp : Int := (2 * start * s.rateHz + 1000000000 * nsUnit) / (2 * 1000000000 * nsUnit) + e.rtpOfs
  let pay := s.txSamples e first P
  let udpLen := 8 + 12 + pay.length
  let ip (ck : Nat) : List Byte := [0x45, BitVec.ofNat 8 (e.dscp * 4)] ++ beBytes 2 (20 + udpLen) ++ [0, 0, 0x40, 0, BitVec.ofNat 8 e.ttl, 17] ++
    beBytes 2 ck ++ beBytes 4 e.srcIp ++ beBytes 4 e.dstIp
  (s.ethHead n e p 0x0800 ++ ip (inetCheck (ip 0)) ++ beBytes 2 e.udpSrc ++ beBytes 2 e.udpDst ++ beBytes 2 udpLen ++ [0, 0] ++
    [0x80, BitVec.ofNat 8 e.pt] ++ beBytes 2 (p % 65536) ++ beBytes 4 (rtp % 0x100000000).toNat ++ beBytes 4 e.id ++ pay, low32 launch)
/-- The frame that a stream sends for the block of media span j: its sequence number, and on a port its bytes and launch time. -/
def State.streamFrame (s : State) (e : TxEnt) (j : Nat) : Option (Nat × (Nat → List Byte × Nat)) :=
  if e.format ≤ 1 then some (j, fun n => s.aafFrame n e j)
  else if e.format = 4 then (if j % 6 = 0 then some (j, fun n => s.crfFrame n e j) else none)
  else
    let P := s.aesP e.ptime
    let p := ((j + 1) * s.nsmp) / P - 1
    if P ≤ (j + 1) * s.nsmp ∧ j * s.nsmp ≤ p * P + P - 1 ∧ FMap.get 0 s.strm.txFrom e.stream ≤ p * P + 1 ∧ FMap.get 0 s.strm.txFrom e.stream ≠ 0 then
      some (p, fun n => s.aesFrame n e p)
    else none
/-- The last grid sample count that frame `seq` of a stream carries. -/
def State.lastCount (s : State) (e : TxEnt) (seq : Nat) : Nat := if e.format ≤ 1 then seq * s.nsmp + s.nsmp - 1 else (seq + 1) * s.aesP e.ptime - 1
/-- A frame is queued: its last samples are the last ones delivered of its channels (R30, R386). -/
def State.txDelivered (s : State) (e : TxEnt) (seq : Nat) : State :=
  if e.format = 4 then s
  else (List.range e.chans).foldl (fun t c =>
    if t.fenced then t.setHeld (heldKey 2 1 (e.stream * 64 + c)) 0
    else if t.outHeld then t
    else t.setHeld (heldKey 2 1 (e.stream * 64 + c)) (FMap.get 0 t.strm.txBuf (txKey e.stream c (t.lastCount e seq)))) s
/-- Queue a frame that an engine unit built on queue q of port n, when the hopper has room. -/
def State.unitQueue (s : State) (n q launch : Nat) (lt : Bool) (l : List Byte) : Bool × State :=
  match s.txHop n q with
  | none => (false, s)
  | some h =>
    if s.hopRoom h = 0 then (false, s)
    else
      let (a, s1) := s.takeFree
      let k := l.length
      let w1 := (if lt then 0x80000 else 0) + 0x40000 + s.selCur * 0x20000 + k % 4096 * 16 + a / 0x100000000 % 16
      let s2 := s1.hopPush h (descOf (a % 0x100000000) w1 launch (k / 4096 % 4 * 256)) 0
      let p := s2.netPort n
      (true, s2.setNetPort n { p with bufs := FMap.set [] p.bufs (a % 0x1000000000) l })
/-- The transmit entry of a stream. -/
def State.txEnt (s : State) (stream : Nat) : Option TxEnt := s.strm.txMap.find? (fun e => e.stream == stream)
/-- Build the frame of a stream from the block of the previous tick, and queue it on its ports (R233). A port without room is tried
again by a later build of the same tick. -/
def State.strmBuild (s : State) (stream : Nat) : State :=
  match s.txEnt stream with
  | none => s
  | some e =>
    let left := FMap.get 0 s.strm.todo stream
    if left = 0 then s
    else match s.streamFrame e (s.tick.num + 1) with
      | none => { s with strm := { s.strm with todo := FMap.set 0 s.strm.todo stream 0 } }
      | some (seq, make) =>
        ((List.range 4).filter (fun n => bitOf left n)).foldl (fun st n =>
          let (l, launch) := make n
          let (ok, t) := st.unitQueue n e.queue launch true l
          if ok then
            (({ t with strm := { t.strm with todo := FMap.set 0 t.strm.todo stream (putBit (FMap.get 0 t.strm.todo stream) n false) } }.count
              (R.STRM_TX_FRAMES stream) 1).setFld (R.STRM_TX_SEQ stream) seq).txDelivered e seq
          else t) s
/-- Cycle 80,000: every frame not yet queued is dropped (R233). -/
def State.strmCutoff (s : State) : State :=
  s.strm.txMap.foldl (fun st e =>
    if FMap.get 0 st.strm.todo e.stream ≠ 0 ∧ (st.streamFrame e (st.tick.num + 1)).isSome then
      let t := { st with strm := { st.strm with todo := FMap.set 0 st.strm.todo e.stream 0 } }
      ((t.count (R.STRM_TX_DROP e.stream) 1).setIrq R.STRM_IRQ_STATUS 6).fcu' 27 2 e.stream
    else { st with strm := { st.strm with todo := FMap.set 0 st.strm.todo e.stream 0 } }) s

/-! Receive -/

def State.rxStream (s : State) (r : Nat) : RxStream := FMap.get RxStream.zero s.strm.rx r
def State.setRxStream (s : State) (r : Nat) (v : RxStream) : State := { s with strm := { s.strm with rx := FMap.set RxStream.zero s.strm.rx r v } }
def State.rxEnt (s : State) (r : Nat) : Option RxEnt := s.strm.rxMap.find? (fun e => e.stream == r)
def State.strmIrq (s : State) (k : Nat) : State := s.setIrq R.STRM_IRQ_STATUS k
/-- The LOST bit's register of a stream. -/
def lostReg (r : Nat) : Fld := if r < 32 then R.STRM_LOST_LO else if r < 64 then R.STRM_LOST_HI else if r < 96 then R.STRM_LOST_X0 else R.STRM_LOST_X1

/-- A checked frame (R234): media time of its first sample in units of 1/rate × 2^-30 ns or as an AAF time, and its samples as containers,
sample by sample. -/
structure RxAudio where
  /-- Media time of the first sample × rate, in units of 2^-30 ns. -/
  timeRate : Int
  samples  : List (List Word)
  deriving DecidableEq, Repr

/-- Cut a payload into containers, `ch` per sample. -/
def rxSamples (format ch : Nat) (pay : List Byte) : List (List Word) :=
  let b := sampleBytes format
  (List.range (pay.length / (ch * b))).map (fun i => (List.range ch).map (fun c =>
    BitVec.ofNat 32 (beAt pay ((i * ch + c) * b) b * (match format with | 0 => 1 | 3 => 65536 | _ => 256))))
/-- AAF checks. (PRESUMED, log 43, unsafe) -/
def State.rxAaf (s : State) (e : RxEnt) (l : List Byte) (h : Hdr) (now : Nat) : Option RxAudio :=
  let o := h.off
  let len := beAt l (o + 20) 2
  let b := sampleBytes e.format
  let depth := beAt l (o + 19) 1
  let b1 := beAt l (o + 1) 1
  if h.etype = 0x22F0 ∧ beAt l o 1 = 2 ∧ bitOf b1 7 ∧ bits b1 6 4 = 0 ∧ bitOf b1 0 ∧ !bitOf (beAt l (o + 22) 1) 4 ∧
      beAt l (o + 16) 1 = (if e.format = 0 then 2 else 3) ∧ beAt l (o + 17) 2 / 4096 = s.nsrCode ∧ beAt l (o + 17) 2 % 1024 = e.chans ∧
      1 ≤ depth ∧ depth ≤ (if e.format = 0 then 32 else 24) ∧ len ≠ 0 ∧ len % (e.chans * b) = 0 ∧ o + 24 + len + 4 ≤ l.length then
    let ns : Int := (nsOf now : Int) + signedOf 32 ((beAt l (o + 12) 4 + 0x100000000 - nsOf now % 0x100000000) % 0x100000000)
    some ⟨ns * nsUnit * s.rateHz, rxSamples e.format e.chans ((l.drop (o + 24)).take len)⟩
  else none
/-- AES67 checks. -/
def State.rxAes (s : State) (e : RxEnt) (l : List Byte) (h : Hdr) (now : Nat) : Option RxAudio :=
  let o := h.off
  let u := o + 20
  let len := beAt l (u + 4) 2
  let r := u + 8
  let pay := (l.drop (r + 12)).take (len - 20)
  let b := sampleBytes e.format
  let pseudo : List Byte := (l.drop (o + 12)).take 8 ++ [0, 17] ++ (l.drop (u + 4)).take 2
  if h.etype = 0x0800 ∧ beAt l o 1 = 0x45 ∧ inetCheck ((l.drop o).take 20) = 0 ∧ beAt l (o + 6) 2 % 0x4000 = 0 ∧
      (beAt l (u + 6) 2 = 0 ∨ inetCheck (pseudo ++ (l.drop u).take len) = 0) ∧ beAt l r 1 = 0x80 ∧ beAt l (r + 1) 1 % 128 = e.pt ∧
      20 ≤ len ∧ u + len + 4 ≤ l.length ∧ pay.length ≠ 0 ∧ pay.length % (e.chans * b) = 0 then
    let nowS : Int := (2 * (now : Int) * s.rateHz + 1000000000 * nsUnit) / (2 * 1000000000 * nsUnit)
    let d := signedOf 32 (((beAt l (r + 4) 4 : Int) - e.rtpOfs - nowS) % 0x100000000).toNat
    some ⟨(nowS + d) * 1000000000 * nsUnit, rxSamples e.format e.chans pay⟩
  else none
/-- The grid position of sample i: samples from the last boundary, rounded to the nearest (R235). -/
def State.gridPos (s : State) (timeRate : Int) (i : Nat) : Int :=
  let sel := s.selCur
  let t : Int := timeRate + (i : Int) * 1000000000 * nsUnit - (s.bndOf sel : Int) * s.rateHz
  let den : Int := s.tickLen sel * s.rateHz
  (2 * t * s.nsmp + den) / (2 * den)
/-- Place one sample of every channel; answers whether a position was already filled. -/
def State.placeSample (s : State) (r block n : Nat) (cs : List Word) : Bool × State :=
  let x := s.rxStream r
  let key (c : Nat) : Nat := (block * 64 + c) * 16 + n
  let taken := cs.zipIdx.any (fun p => decide (FMap.get 0 x.fill (key p.2) ≠ 0))
  if taken then (true, s)
  else (false, s.setRxStream r { x with fill := cs.zipIdx.foldl (fun m p => FMap.set 0 m (key p.2) (p.1.toNat + 1)) x.fill })
/-- Place the samples of a frame (R235, R236). -/
def State.placeFrame (s : State) (r : Nat) (e : RxEnt) (a : RxAudio) (late : Bool) : State :=
  let c : Int := s.tick.num
  let target (i : Nat) : Int × Nat :=
    let q := s.gridPos a.timeRate i
    (c + q / s.nsmp + e.pres, (q % s.nsmp).toNat)
  let n := a.samples.length
  let sel := s.selCur
  let inst : Int := s.predict sel 0 * s.rateHz + s.tickLen sel * s.rateHz * s.gridPos a.timeRate 0 / s.nsmp
  let s0 := s.setSFld (R.STRM_RX_PHASE r) (roundNs ((a.timeRate - inst) / s.rateHz))
  if (List.range n).any (fun i => decide (c + 31 < (target i).1)) then (s0.count (R.STRM_RX_EARLY r) 1).strmIrq 3
  else
    let isLate (b : Int) : Bool := decide (b < c) || (late && decide (b = c))
    let s1 := if (List.range n).any (fun i => isLate (target i).1) then (s0.count (R.STRM_RX_LATE r) 1).strmIrq 2 else s0
    let (shift, s2) := (a.samples.zipIdx).foldl (fun (p : Bool × State) q =>
      let (b, pos) := target q.2
      if isLate b then p
      else
        let (hit, t) := p.2.placeSample r b.toNat pos q.1
        (p.1 || hit, t)) (false, s1)
    if shift then (s2.count (R.STRM_RX_SHIFT r) 1).strmIrq 7 else s2
/-- Shift a history by one position: an unfilled last position counts LOST. -/
def histShift (h : Nat) : Nat × Nat := (h * 2 % 0x100000000, if bitOf h 31 then 0 else 1)
/-- Shift by d positions. -/
def histShiftBy : Nat → Nat → Nat → Nat × Nat
  | h, 0, lost => (h, lost)
  | h, d + 1, lost =>
    let (h1, l) := histShift h
    histShiftBy h1 d (lost + l)
/-- The vector recovery algorithm of IEEE 802.1CB on a sequence number (R240). Answers whether the frame passes. -/
def State.recover (s : State) (r seq : Nat) : Bool × State :=
  let x := s.rxStream r
  if x.takeAny then
    (true, (s.setRxStream r { x with takeAny := false, seq := seq, hist := 1, quiet := 0 }).count (R.STRM_RX_PASSED r) 1)
  else
    let d := signedOf 16 ((seq + 65536 - x.seq) % 65536)
    if 32 ≤ d ∨ d ≤ -32 then (false, (s.count (R.STRM_RX_ROGUE r) 1).strmIrq 5)
    else if d ≤ 0 then
      let k := d.natAbs
      if bitOf x.hist k then (false, s.count (R.STRM_RX_DISCARDED r) 1)
      else (true, ((s.setRxStream r { x with hist := putBit x.hist k true, quiet := 0 }).count (R.STRM_RX_PASSED r) 1).count (R.STRM_RX_OOO r) 1)
    else
      let (h, lost) := histShiftBy x.hist d.toNat 0
      (true, ((s.setRxStream r { x with hist := putBit h 0 true, seq := seq, quiet := 0 }).count (R.STRM_RX_PASSED r) 1).count (R.STRM_RX_LOST r) lost)
/-- The counts of active streams. -/
def State.strmCounts (s : State) : State :=
  (s.setFld R.STRM_STATUS_RX_ACTIVE ((List.range 128).filter (fun r => decide (s.fld (R.STRM_RX_STATE_STATE r) = 2))).length).setFld
    R.STRM_STATUS_TX_ACTIVE s.strm.txMap.length
/-- A valid frame arrived: the stream is ACTIVE (R237). -/
def State.strmValid (s : State) (r : Nat) : State :=
  let st := s.fld (R.STRM_RX_STATE_STATE r)
  let s1 := s.setRxStream r { s.rxStream r with idle := 0 }
  if st = 2 then s1
  else
    let s2 := (s1.setFld (R.STRM_RX_STATE_STATE r) 2).strmCounts
    if st = 3 then (s2.clrFld (lostReg r) (2 ^ (r % 32))).strmIrq 1 else s2
/-- The PDU of a CRF frame that passes its checks: its last timestamp in units. -/
def rxCrf (l : List Byte) (h : Hdr) : Option Int :=
  let o := h.off
  let len := beAt l (o + 16) 2
  if h.etype = 0x22F0 ∧ beAt l o 1 = 4 ∧ beAt l (o + 3) 1 = 1 ∧ 8 ≤ len ∧ len % 8 = 0 ∧ o + 20 + len + 4 ≤ l.length then
    some (beAt l (o + 20 + len - 8) 8 * nsUnit)
  else none
/-- The last timestamp of a CRF frame against the nearest boundary of the grid (R232). -/
def State.crfShow (s : State) (r : Nat) (t : Int) : State :=
  let sel := s.selCur
  let m := (2 * (t - s.bndOf sel) + s.tickLen sel) / (2 * s.tickLen sel)
  { s with strm := { s.strm with crf := FMap.set 0 s.strm.crf r (unsignedOf 32 (roundNs (t - s.predict sel m))) } }
/-- What a frame that passes R234 does once it is not eliminated: a CRF timestamp, or the samples of an audio frame. -/
inductive RxWork where
  | crf (t : Int)
  | audio (a : RxAudio)
  deriving DecidableEq, Repr
/-- The checks of R234 on a frame of an entry. -/
def State.rxCheck (s : State) (e : RxEnt) (l : List Byte) (h : Hdr) (now : Nat) : Option RxWork :=
  if e.elim ∧ h.rtag.isNone then none
  else if e.format = 4 then (rxCrf l h).map .crf
  else if e.format ≤ 1 then (s.rxAaf e l h now).map .audio
  else (s.rxAes e l h now).map .audio
/-- A frame that elimination lets pass. -/
def State.rxAccept (s : State) (r : Nat) (e : RxEnt) (w : RxWork) (late : Bool) : State :=
  match w with
  | .crf t => s.crfShow r t
  | .audio a => s.placeFrame r e a late
/-- The stream engine takes the next frame from Winnow; `late`: it is complete later than 5.333 µs before the next boundary. -/
def State.strmReceive (s : State) (late : Bool) : State :=
  match s.strm.inbox with
  | [] => s
  | f :: rest =>
    let s0 := { s with strm := { s.strm with inbox := rest } }
    let r := f.stream
    match s0.rxEnt r with
    | none => s0
    | some e =>
      let h := parseHdr f.bytes
      let now := if s.selCur = 0 then f.at0 else f.at1
      let s1 := s0.count (if f.port < 2 then R.STRM_RX_FRAMES_A r else R.STRM_RX_FRAMES_B r) 1
      match s1.rxCheck e f.bytes h now with
      | none => (s1.count (R.STRM_RX_HDR_ERR r) 1).strmIrq 4
      | some w =>
        let s2 := s1.strmValid r
        if e.elim then
          match s2.recover r (h.rtag.getD 0) with
          | (true, s3) => s3.rxAccept r e w late
          | (false, s3) => s3
        else s2.rxAccept r e w late
/-- 12 ticks without a valid frame: LOST (R237). -/
def State.strmLost (s : State) (r : Nat) : State :=
  if s.fld (R.STRM_RX_STATE_STATE r) = 2 ∧ 12 ≤ (s.rxStream r).idle then
    ((((s.setFld (R.STRM_RX_STATE_STATE r) 3).strmCounts.setIrq (lostReg r) (r % 32)).count (R.STRM_RX_LOST_CNT r) 1).strmIrq 0).fcu' 27 1 r
  else s
/-- The recovery reset time of a stream expires: 12 ticks in which it passed no frame (R240). -/
def State.recoveryReset (s : State) (r : Nat) : State :=
  match s.rxEnt r with
  | some e =>
    if e.elim ∧ !(s.rxStream r).takeAny ∧ 12 ≤ (s.rxStream r).quiet then
      (s.setRxStream r { s.rxStream r with takeAny := true, hist := 0 }).count (R.STRM_RX_RESETS r) 1
    else s
  | none => s
/-- The block of a received channel that is gathered in the current tick: block num − 1 (R235); missing samples, and every sample of a LOST
stream, are held-last (R237). -/
def State.strmGather (s : State) (index : Nat) : List Word × State :=
  let r := index / 64
  let c := index % 64
  let x := s.rxStream r
  let k := heldKey 0 1 index
  let step (p : List Word × Word) (n : Nat) : List Word × Word :=
    let v := if s.fld (R.STRM_RX_STATE_STATE r) = 3 then 0 else FMap.get 0 x.fill (((s.tick.num - 1) * 64 + c) * 16 + n)
    let w := if v = 0 then p.2 else BitVec.ofNat 32 (v - 1)
    (p.1 ++ [w], w)
  let (vs, last) := (List.range s.nsmp).foldl step ([], s.heldSample k)
  (vs, s.setHeld k last)

/-! Maps and boundaries (R241) -/

/-- Receive entries and stream-ID tables change (T−1). -/
def State.strmRxMap (s : State) (m : StrmMap) : State :=
  let s1 := (List.range 128).foldl (fun st r =>
    let old := st.rxEnt r
    let new := m.rx.find? (fun e => e.stream == r)
    let clear (t : State) : State := (t.setRxStream r RxStream.zero).clrFld (lostReg r) (2 ^ (r % 32))
    let show' (t : State) (e : RxEnt) : State :=
      (((t.setFld (R.STRM_RX_STATE_CHANNELS r) e.chans).setFld (R.STRM_RX_STATE_PRES r) e.pres).setFld (R.STRM_RX_STATE_FORMAT r) e.format).setBit
        (R.STRM_RX_STATE_ELIM r) e.elim
    match new with
    | none => (show' (clear st) ⟨r, 0, 0, 0, false, 0, 0⟩).setFld (R.STRM_RX_STATE_STATE r) 0
    | some e =>
      let same := match old with
        | some o => decide (o.format = e.format) && decide (o.chans = e.chans) && decide (o.pres = e.pres)
        | none => false
      if same then show' st e else (show' (clear st) e).setFld (R.STRM_RX_STATE_STATE r) 1) s
  { s1 with strm := { s1.strm with rxMap := m.rx, sid := m.sid } }.strmCounts
/-- Transmit entries change: the first block of the new image is built next. A stream that is new starts with 0 (R31). (DEDUCED, log 37, unsafe) -/
def State.strmTxMap (s : State) (tx : List TxEnt) : State :=
  let gated := s.bit (R.NET_STATUS_TX_GATED 0)
  let s1 := (List.range 128).foldl (fun st r =>
    match tx.find? (fun e => e.stream == r) with
    | none => (((st.setFld (R.STRM_TX_STATE_CHANNELS r) 0).setFld (R.STRM_TX_STATE_FORMAT r) 0).setFld (R.STRM_TX_STATE_STATE r) 0)
    | some e => (((st.setFld (R.STRM_TX_STATE_CHANNELS r) e.chans).setFld (R.STRM_TX_STATE_FORMAT r) e.format).setFld
        (R.STRM_TX_STATE_STATE r) (if gated then 2 else 1))) s
  let keep := s1.strm.txMap.map (·.stream)
  let stays (r : Nat) : Bool := keep.contains r && tx.any (fun e => e.stream == r)
  { s1 with strm := { s1.strm with txMap := tx, txFrom := s1.strm.txFrom.filter (fun p => stays p.1) },
            held := s1.held.filter (fun p => !(decide (heldKey 2 1 0 ≤ p.1) && decide (p.1 < heldKey 2 2 0)) || stays ((p.1 - heldKey 2 1 0) / 64)) }.strmCounts
/-- Boundary t; `ended`: a tick came before it. Transmit maps come due, every transmit stream has the frame of the ended tick to build (R230),
idle ticks count, old blocks go. Before a first boundary nothing was sent: the sample counts of AES67 packets start anew. -/
def State.strmBoundary (s : State) (t : Nat) (ended : Bool) : State :=
  let now := s.strm.txPend.filter (fun e => decide (e.1 ≤ t))
  let s1 := now.foldl (fun st e => st.strmTxMap e.2) { s with strm := { s.strm with txPend := s.strm.txPend.filter (fun e => decide (t < e.1)) } }
  let s2 := if ended then s1.txMove t else { s1 with strm := { s1.strm with block := [], wrote := [], txFrom := [] } }
  let todo := s2.strm.txMap.foldl (fun m e => FMap.set 0 m e.stream (if ended ∨ e.format = 4 then e.ports else 0)) []
  let rx := s2.strm.rxMap.foldl (fun m e =>
    let x := FMap.get RxStream.zero m e.stream
    FMap.set RxStream.zero m e.stream { x with idle := x.idle + 1, quiet := x.quiet + 1, fill := x.fill.filter (fun p => decide (t ≤ p.1 / 1024 + 1)) })
    s2.strm.rx
  { s2 with strm := { s2.strm with todo := todo, rx := rx } }
/-- Block reset of STRM (R429): receive streams return to WAITING with empty buffers. -/
def State.strmReset (s : State) : State :=
  let s1 := s.strm.rxMap.foldl (fun st e =>
    ((st.setRxStream e.stream RxStream.zero).clrFld (lostReg e.stream) (2 ^ (e.stream % 32))).setFld (R.STRM_RX_STATE_STATE e.stream) 1) s
  { s1 with strm := { s1.strm with inbox := [], block := [], wrote := [], todo := [], crf := [] } }.strmCounts

/-! PTP messages (R244) -/

/-- The instance that a PTP message matches: EN, PORTS, DOMAIN, and the transport of its profile. -/
def State.ptpInstance (s : State) (f : RxFrame) (h : Hdr) : Option Nat :=
  let m := ptpAt f.bytes h
  (List.range 2).find? (fun i => s.bit (R.TIME_T_CTRL_EN i) && bitOf (s.fld (R.TIME_T_CTRL_PORTS i)) f.port &&
    decide (s.fld (R.TIME_T_CTRL_DOMAIN i) = beAt f.bytes (m + 4) 1) &&
    decide (s.fld (R.TIME_T_CTRL_PROFILE i) = if h.etype = 0x88F7 then 0 else 1))
/-- The time unit takes the next PTP message from Winnow. -/
def State.ptpReceive (s : State) : State :=
  match s.ptp.inbox with
  | [] => s
  | f :: rest =>
    let s0 := { s with ptp := { s.ptp with inbox := rest } }
    let h := parseHdr f.bytes
    match s0.ptpInstance f h with
    | none => (s0.hostDeliver f.port f.bytes h (if s.selCur = 0 then f.at0 else f.at1) false false).2
    | some i =>
      let s1 := (s0.deliver f.port (s.fld (R.TIME_T_Q_FREE_HOP i)) (s.fld (R.TIME_T_Q_RX_HOP i)) f.bytes h (if i = 0 then f.at0 else f.at1) false false).2
      if beAt f.bytes (ptpAt f.bytes h) 1 % 16 = 11 then s1.announce i else s1

end Sys2Proof.Machine
end

