-- ==== Sys2Proof/Machine/ImgParse.lean ====
section
/-!
DEFINITION. The bytes of a tick image (R104–R108): header, section table, the section bodies of every type, and the FORMAT and CRC checks
of Table 4-4.
-/

namespace Sys2Proof.Machine

/-- A refusal of the loader: code of Table 4-4, section index (0xFFF: the header) and byte offset in it. -/
structure Bad where
  code : Nat
  sect : Nat
  off  : Nat
  deriving DecidableEq, Repr

/-- A section-table entry (R105) with its index. -/
structure Sect where
  idx    : Nat
  type   : Nat
  target : Nat
  off    : Nat
  len    : Nat
  crc    : Nat
  deriving DecidableEq, Repr

def hdrBad (off : Nat) : Option Bad := some ⟨0x10, 0xFFF, off⟩
def fmtBad (s : Sect) (off : Nat) : Option Bad := some ⟨0x10, s.idx, off⟩
/-- A check of a section: FORMAT at the offset that the check gives. -/
def sectBad (s : Sect) : Option Nat → Option Bad
  | some o => fmtBad s o
  | none => none
/-- The first refusal among checks in order. -/
def firstOf : List (Option Bad) → Option Bad
  | [] => none
  | some b :: _ => some b
  | none :: r => firstOf r
/-- A refusal when the condition fails. -/
def need (ok : Bool) (b : Option Bad) : Option Bad := if ok then none else b
/-- An offset when the condition fails. -/
def needAt (ok : Bool) (o : Nat) : Option Nat := if ok then none else some o
/-- The first offset among checks in order. -/
def firstAt : List (Option Nat) → Option Nat
  | [] => none
  | some o :: _ => some o
  | none :: r => firstAt r

def imgSects (l : List Byte) : List Sect :=
  (List.range (leAt l 0x0C 4)).map (fun i =>
    let o := 0x80 + 16 * i
    ⟨i, leAt l o 2, leAt l (o + 2) 2, leAt l (o + 4) 4, leAt l (o + 8) 4, leAt l (o + 12) 4⟩)
def bodyOf (l : List Byte) (s : Sect) : List Byte := (l.drop s.off).take s.len
def sectsOf (ss : List Sect) (type : Nat) : List Sect := ss.filter (fun s => s.type == type)
/-- The sections of a core. -/
def coreSects (ss : List Sect) (type core : Nat) : List Sect := ss.filter (fun s => s.type == type && s.target == core)
/-- The body of an image-wide section. -/
def imgBody (l : List Byte) (ss : List Sect) (type : Nat) : Option (List Byte) := (ss.find? (fun s => s.type == type)).map (bodyOf l)

/-! Header and section table -/

def knownType (t : Nat) : Bool :=
  [0x01, 0x02, 0x03, 0x04, 0x05, 0x10, 0x11, 0x12, 0x20, 0x21, 0x30, 0x31, 0x32, 0x33, 0x34, 0x40, 0x41, 0x42, 0x7F].contains t
def coreType (t : Nat) : Bool := decide (1 ≤ t) && decide (t ≤ 4)
/-- Types that may appear once for the image. -/
def onceType (t : Nat) : Bool := !coreType t && decide (t ≠ 0x42)
/-- The header's FORMAT checks (R104); a RATE or a PLACEMENT above 2, for which Table 4-2 names no code, is one of them. (DESIGN CHOICE, log 71, unsafe) -/
def headerBad (l : List Byte) (srcLen : Nat) : Option Bad :=
  firstOf [need (decide (0x80 ≤ l.length) && decide (leAt l 0 4 = 0x56595449)) (hdrBad 0), need (decide (leAt l 4 2 = 1)) (hdrBad 4),
    need (decide (leAt l 8 4 = srcLen)) (hdrBad 8), need (decide (1 ≤ leAt l 0x0C 4) && decide (leAt l 0x0C 4 ≤ 4095)) (hdrBad 0x0C),
    need (decide (leAt l 0x20 1 ≤ 2) && decide (leAt l 0x21 1 ≤ 2)) (hdrBad 0x20),
    need (decide (leAt l 6 2 ≠ 0) || decide (leAt l 0x22 2 < 16)) (hdrBad 0x22),
    need (decide (leAt l 6 2 ≠ 0) || ((l.drop 0x48).take 0x38).all (fun b => b == 0)) (hdrBad (0x48 + ((l.drop 0x48).take 0x38).findIdx (fun b => b != 0)))]
/-- Bodies aligned, behind the table, apart from one another, and the image ends with the last of them. -/
def layoutBad (l : List Byte) (ss : List Sect) : Option Bad :=
  let tabEnd := 0x80 + 16 * ss.length
  let apart (a b : Sect) : Bool := decide (a.idx = b.idx) || decide (a.off + a.len ≤ b.off) || decide (b.off + b.len ≤ a.off)
  let placed (s : Sect) : Bool := decide (s.off % 16 = 0) && decide (tabEnd ≤ s.off) && decide (s.off + s.len ≤ l.length) && ss.all (apart s)
  match ss.find? (fun s => !placed s) with
  | some s => fmtBad s 0
  | none => need (decide ((ss.map (fun s => s.off + s.len)).foldl Nat.max 0 = l.length)) (hdrBad 8)
/-- Types, targets and multiplicity (R105, R106). The TARGET of an image-wide section is not checked: no rule refuses one that is not 0xFFFF. (DESIGN CHOICE, log 71, unsafe) -/
def tableBad (ss : List Sect) (mask : Nat) : Option Bad :=
  let twice (s : Sect) : Bool :=
    ss.any (fun t => decide (t.idx < s.idx) && t.type == s.type && (onceType s.type || (s.type == 1 && t.target == s.target)))
  let sound (s : Sect) : Bool :=
    knownType s.type && (!coreType s.type || (decide (s.target < 64) && bitOf mask s.target)) && !twice s &&
    (s.type != 0x7F || (s.idx + 1 == ss.length && s.len == 64 && ss.all (fun t => decide (t.off ≤ s.off))))
  match ss.find? (fun s => !sound s) with
  | some s => fmtBad s 0
  | none => need ((List.range 64).all (fun n => !bitOf mask n || ss.any (fun s => s.type == 1 && s.target == n))) (hdrBad 0x30)

/-! Section bodies -/

/-- Entry offsets of a counted body. -/
def entries (start size n : Nat) : List Nat := (List.range n).map (fun i => start + size * i)
/-- The first entry that a check refuses. -/
def badEntry (os : List Nat) (ok : Nat → Bool) : Option Nat := os.find? (fun o => !ok o)

/-- CORE_DECL (R106). -/
def declBad (b : List Byte) : Option Nat :=
  firstAt [needAt (decide (32 ≤ b.length)) 0, needAt (decide (leAt b 2 2 = 0)) 0, needAt (decide (leAt b 8 4 < 2 ^ 27) && decide (leAt b 12 4 < 2 ^ 27)) 8,
    needAt (decide (leAt b 0x18 4 ≤ 8) && decide (b.length = 32 + 8 * leAt b 0x18 4)) 0x18, needAt (decide (leAt b 0x1C 4 = 0)) 0x1C]
def parseDecl (b : List Byte) : CoreDecl :=
  ⟨leAt b 0 2, leAt b 4 4, leAt b 8 4, leAt b 12 4, leAt b 0x10 8,
    (entries 0x20 8 (leAt b 0x18 4)).map (fun o => (leAt b o 4, leAt b (o + 4) 4))⟩
/-- CARRY_MAP (R115). -/
def carryBad (b : List Byte) : Option Nat :=
  firstAt [needAt (decide (12 ≤ b.length) && decide (b.length = 12 + 12 * leAt b 8 4)) 8,
    badEntry (entries 12 12 (leAt b 8 4)) (fun o => decide (leAt b o 1 < 64) && decide (leAt b (o + 1) 1 ≤ 1) && decide (leAt b (o + 2) 1 < 64) &&
      decide (leAt b (o + 3) 1 ≤ 1) && decide (leAt b (o + 4) 2 + leAt b (o + 8) 2 ≤ 32768) &&
      decide (leAt b (o + 6) 2 + leAt b (o + 8) 2 ≤ 32768) && decide (leAt b (o + 10) 2 = 0))]
def parseCarry (b : List Byte) : List CarryEnt :=
  (entries 12 12 (leAt b 8 4)).map (fun o =>
    ⟨leAt b o 1, leAt b (o + 1) 1, leAt b (o + 2) 1, leAt b (o + 3) 1, leAt b (o + 4) 2, leAt b (o + 6) 2, leAt b (o + 8) 2⟩)
/-- Descriptor lists, and the latency table: a count, then entries of four words. -/
def parseDescs (b : List Byte) : List Desc :=
  (entries 4 16 (leAt b 0 4)).map (fun o => ⟨leAt b o 4, leAt b (o + 4) 4, leAt b (o + 8) 4, leAt b (o + 12) 4⟩)
def countedBad (b : List Byte) (size most : Nat) : Option Nat :=
  needAt (decide (4 ≤ b.length) && decide (leAt b 0 4 ≤ most) && decide (b.length = 4 + size * leAt b 0 4)) 0
/-- BIND_RING (R134). -/
def ringsBad (b : List Byte) : Option Nat :=
  firstAt [countedBad b 16 4096,
    badEntry (entries 4 16 (leAt b 0 4)) (fun o =>
      let a := leAt b o 8
      let cap := leAt b (o + 8) 4
      let w := leAt b (o + 12) 4
      decide (a % 4 = 0) && decide (16 ≤ cap) && decide (cap ≤ 16777215) && decide (bits w 30 24 = 0) && decide (16 ≤ bits w 23 0) &&
      decide (bits w 23 0 ≤ cap) && (inGran a || (decide (ddrBase ≤ a) && decide (a + 4 * cap ≤ ddrBase + 0x400000000))))]
def parseRings (b : List Byte) : List RingEnt :=
  (entries 4 16 (leAt b 0 4)).map (fun o => ⟨leAt b o 8, leAt b (o + 8) 4, bits (leAt b (o + 12) 4) 23 0, bitOf (leAt b (o + 12) 4) 31⟩)
/-- MARV_PAIR (R154). -/
def popcount16 (m : Nat) : Nat := ((List.range 16).filter (fun g => bitOf m g)).length
def groupSize : Nat := 4 + 2048 * 8 + 2048 * 4
def marvPairBad (b : List Byte) : Option Nat :=
  let m := leAt b 0 4
  firstAt [needAt (decide (4 ≤ b.length) && decide (m < 65536) && decide (b.length = 4 + groupSize * popcount16 m)) 0,
    badEntry (entries 4 groupSize (popcount16 m)) (fun o => decide (leAt b o 4 < 65536)),
    badEntry ((entries 4 groupSize (popcount16 m)).flatMap (fun o => entries (o + 4) 8 2048)) (fun o => pairOk (leAt b o 4) (leAt b (o + 4) 4)),
    badEntry ((entries 4 groupSize (popcount16 m)).flatMap (fun o => entries (o + 4 + 16384) 4 2048)) (fun o => decide (leAt b o 4 < 0x1000000))]
/-- The provided groups with the offset of their part. -/
def marvGroups (b : List Byte) : List (Nat × Nat) :=
  ((List.range 16).filter (fun g => bitOf (leAt b 0 4) g)).zip (entries 4 groupSize (popcount16 (leAt b 0 4)))
def parseCmds (b : List Byte) : List MCmd := (entries 4 8 (leAt b 0 4)).map (fun o => ⟨leAt b o 4, leAt b (o + 4) 4⟩)
/-- The rules of a command list (R159): the range of the last LOAD and the tiles cleared so far go along. -/
def cmdsBad (groups : Nat) : List MCmd → Nat → Option (Nat × Nat) → Nat → Option Nat
  | [], i, _, _ => some i
  | c :: r, i, opened, cleared =>
    let zero := decide (bits c.w0 27 16 = 0)
    let range := decide (c.w1 < 65536) && !bitOf c.w1 7 && decide (1 ≤ c.count) && decide (c.count ≤ 128) && decide (c.s0 + c.count ≤ 128)
    let sub := (List.range 16).all (fun t => !bitOf c.tiles t || bitOf cleared t)
    match c.op with
    | 0 => if zero ∧ c.tiles = 0 ∧ c.w1 = 0 ∧ r.isEmpty then none else some i
    | 1 => if zero ∧ c.tiles = 0 ∧ range then cmdsBad groups r (i + 1) (some (c.s0, c.count)) cleared else some i
    | 2 => if zero ∧ c.w1 = 0 then cmdsBad groups r (i + 1) opened (cleared ||| c.tiles) else some i
    | 3 =>
      let inside : Bool := match opened with | some (a, n) => decide (a ≤ c.s0) && decide (c.s0 + c.count ≤ a + n) | none => false
      let provided := (List.range 16).all (fun t => !bitOf c.tiles t || bitOf groups t)
      if zero ∧ range ∧ inside ∧ provided then cmdsBad groups r (i + 1) opened cleared else some i
    | 4 => if zero ∧ c.w1 ≤ 8 ∧ sub then cmdsBad groups r (i + 1) opened cleared else some i
    | 5 => if zero ∧ c.w1 = 0 ∧ sub then cmdsBad groups r (i + 1) opened cleared else some i
    | _ => some i
def marvCmdBad (groups : Nat) (b : List Byte) : Option Nat :=
  match firstAt [countedBad b 8 1024, needAt (decide (1 ≤ leAt b 0 4)) 0] with
  | some o => some o
  | none => (cmdsBad groups (parseCmds b) 0 none 0).map (fun i => 4 + 8 * i)
/-- SAP_MAP (R177). -/
def sapMapBad (b : List Byte) : Option Nat :=
  firstAt [countedBad b 16 16,
    badEntry (entries 4 16 (leAt b 0 4)) (fun o => decide (leAt b o 1 < 16) && decide (leAt b (o + 1) 1 ≤ 2) && decide (leAt b (o + 2) 2 = 0) &&
      decide (leAt b (o + 12) 4 = 0))]
def parseSap (b : List Byte) : List SapMapEnt :=
  (entries 4 16 (leAt b 0 4)).map (fun o => ⟨leAt b o 1, leAt b (o + 1) 1, leAt b (o + 4) 4, leAt b (o + 8) 4⟩)
/-- STRM_MAP (R225–R228). -/
def parseTxEnt (b : List Byte) (o : Nat) : TxEnt :=
  { stream := leAt b o 1, format := leAt b (o + 1) 1, chans := leAt b (o + 2) 1, ptime := leAt b (o + 3) 1, ports := leAt b (o + 4) 1,
    queue := leAt b (o + 5) 1, flags := leAt b (o + 6) 2, tci := leAt b (o + 8) 2, mac := leAt b (o + 0x0A) 6, id := leAt b (o + 0x10) 8,
    srcIp := leAt b (o + 0x18) 4, dstIp := leAt b (o + 0x1C) 4, udpSrc := leAt b (o + 0x20) 2, udpDst := leAt b (o + 0x22) 2,
    ttl := leAt b (o + 0x24) 1, dscp := leAt b (o + 0x25) 1, pt := leAt b (o + 0x26) 1, rtpOfs := leAt b (o + 0x28) 4 }
def parseRxEnt (b : List Byte) (o : Nat) : RxEnt :=
  { stream := leAt b o 1, format := leAt b (o + 1) 1, chans := leAt b (o + 2) 1, pres := leAt b (o + 3) 1, elim := bitOf (leAt b (o + 4) 1) 0,
    pt := leAt b (o + 5) 1, rtpOfs := leAt b (o + 8) 4 }
def parseSidEnt (b : List Byte) (o : Nat) : SidEnt :=
  { port := leAt b o 1, index := leAt b (o + 1) 1, w0 := leAt b (o + 4) 4, w1 := leAt b (o + 8) 4, w2 := leAt b (o + 12) 4, w3 := leAt b (o + 16) 4 }
/-- Channels fit the format: 1–64, 0 for CRF. -/
def chansOk (format chans : Nat) : Bool :=
  if format = 4 then decide (chans = 0) else decide (format ≤ 3) && decide (1 ≤ chans) && decide (chans ≤ 64)
def txEntOk (nsmp : Nat) (b : List Byte) (o : Nat) : Bool :=
  let e := parseTxEnt b o
  let aes := decide (e.format = 2) || decide (e.format = 3)
  decide (e.stream < 128) && chansOk e.format e.chans && (!aes || (decide (e.ptime ≤ 3) && decide (96 ≤ e.pt) && decide (e.pt ≤ 127))) &&
  decide (e.ports < 16) && decide (bits e.ports 1 0 ≠ 3) && decide (bits e.ports 3 2 ≠ 3) && decide (e.queue < 8) && decide (e.flags < 4) &&
  decide (e.dscp < 64) && decide (leAt b (o + 0x27) 1 = 0) && decide (leAt b (o + 0x2C) 4 = 0) && decide (e.maxFrame nsmp ≤ 9216)
def rxEntOk (b : List Byte) (o : Nat) : Bool :=
  let e := parseRxEnt b o
  decide (e.stream < 128) && chansOk e.format e.chans && decide (e.pres < 32) && decide (leAt b (o + 4) 1 ≤ 1) && decide (e.pt < 128) &&
  decide (leAt b (o + 6) 2 = 0) && decide (leAt b (o + 12) 4 = 0)
def sidEntOk (rx : List RxEnt) (b : List Byte) (o : Nat) : Bool :=
  let e := parseSidEnt b o
  decide (e.port < 4) && decide (leAt b (o + 2) 2 = 0) && decide (bits e.w0 29 7 = 0) && (!bitOf e.w0 30 || decide (e.w2 < 65536)) &&
  decide (e.w3 = 0) && rx.any (fun r => r.stream == e.w0 % 128)
/-- Is a key different from those of the entries before it? -/
def freshKey (key : Nat → Nat) (start size o : Nat) : Bool :=
  (entries start size ((o - start) / size)).all (fun p => decide (key p ≠ key o))
def strmTables (b : List Byte) : List Nat × List Nat × List Nat :=
  let t := leAt b 0 4
  let r := leAt b 4 4
  (entries 16 48 t, entries (16 + 48 * t) 16 r, entries (16 + 48 * t + 16 * r) 20 (leAt b 8 4))
def parseStrm (b : List Byte) : StrmMap :=
  let (t, r, x) := strmTables b
  ⟨t.map (parseTxEnt b), r.map (parseRxEnt b), x.map (parseSidEnt b)⟩
def strmMapBad (nsmp : Nat) (b : List Byte) : Option Nat :=
  let (t, r, x) := strmTables b
  let r0 := 16 + 48 * t.length
  let x0 := r0 + 16 * r.length
  match needAt (decide (16 ≤ b.length) && decide (leAt b 0 4 ≤ 128) && decide (leAt b 4 4 ≤ 128) && decide (leAt b 12 4 = 0) &&
      decide (b.length = 16 + 48 * leAt b 0 4 + 16 * leAt b 4 4 + 20 * leAt b 8 4)) 0 with
  | some o => some o
  | none =>
    firstAt [badEntry t (fun o => txEntOk nsmp b o && freshKey (fun p => leAt b p 1) 16 48 o),
      badEntry r (fun o => rxEntOk b o && freshKey (fun p => leAt b p 1) r0 16 o),
      badEntry x (fun o => sidEntOk (r.map (parseRxEnt b)) b o && freshKey (fun p => leAt b p 2) x0 20 o)]
/-- CHAIN_MAP (R316). -/
def parseChain (b : List Byte) : ChainMap :=
  ⟨bitOf (leAt b 0 4) 0, leAt b 4 2, leAt b 6 2, leAt b 8 4,
    (List.range 4096).foldl (fun m s => FMap.set 0 m s (leAt b (16 + s / 4) 1 / 4 ^ (s % 4) % 4)) []⟩
/-- The checks of a CHAIN_MAP (R316). (DEDUCED, log 30, unsafe) -/
def chainMapBad (pairOn : Bool) (b : List Byte) : Option Nat :=
  firstAt [needAt (decide (b.length = 1040) && decide (leAt b 0 4 ≤ 1) && !(pairOn && decide (leAt b 0 4 = 1))) 0,
    needAt (decide (leAt b 4 2 ≤ 4096) && decide (leAt b 6 2 ≤ 4096)) 4, needAt (decide (leAt b 8 4 ≤ 4096)) 8,
    needAt (decide (leAt b 12 4 = 0)) 12, ((List.range 4096).find? (fun s => decide (leAt b (16 + s / 4) 1 / 4 ^ (s % 4) % 4 = 3))).map (fun s => 16 + s / 4)]
/-- AMP_MAP (R330). -/
def parseAmp (b : List Byte) : List AmpMapEnt := (entries 4 4 (leAt b 0 4)).map (fun o => ⟨leAt b o 1, bitOf (leAt b (o + 1) 1) 0⟩)
def ampMapBad (b : List Byte) : Option Nat :=
  firstAt [countedBad b 4 32,
    badEntry (entries 4 4 (leAt b 0 4)) (fun o => decide (leAt b o 1 < 32) && decide (leAt b (o + 1) 1 ≤ 1) && decide (leAt b (o + 2) 2 = 0) &&
      freshKey (fun p => leAt b p 1) 4 4 o)]
/-- SILO_MAP (R138). -/
def siloMapBad (b : List Byte) : Option Nat :=
  needAt (decide (b.length = 8) && decide (1 ≤ leAt b 0 4) && decide (leAt b 0 4 ≤ 64) && decide (leAt b 4 4 ≤ 1)) 0
/-- Is an endpoint code in range (R107)? -/
def endpointOk (e : Nat) : Bool :=
  let i := e % 0x10000000
  match e / 0x10000000 with
  | 0 => decide (i < 512)
  | 1 => decide (i < 8192)
  | 2 => decide (i < 12288)
  | 3 => decide (i < 64)
  | 4 => decide (i < 32)
  | 5 => decide (i < 64)
  | _ => false
/-- LATENCY (R107). -/
def latencyBad (b : List Byte) : Option Nat :=
  firstAt [countedBad b 16 65535,
    badEntry (entries 4 16 (leAt b 0 4)) (fun o =>
      let a := leAt b o 4
      let z := leAt b (o + 4) 4
      endpointOk a && endpointOk z && decide (a / 0x10000000 < 4) && decide (z / 0x10000000 ≠ 3) &&
      decide (bits (leAt b (o + 12) 4) 7 2 = 0) && decide (leAt b (o + 12) 4 < 65536))]
/-- DIGEST (R108). -/
def digestBad (b : List Byte) : Option Nat :=
  firstAt [needAt (decide (8 ≤ b.length) && decide (leAt b 4 4 ≤ 1024) && decide (b.length = 8 + 4 * leAt b 4 4)) 4,
    badEntry (entries 8 4 (leAt b 4 4)) (fun o => endpointOk (leAt b o 4) && decide (leAt b o 4 / 0x10000000 ≠ 3))]
/-- A part of a memory: a start, then units of a size. (DEDUCED, log 30, unsafe) -/
def partBad (unit : Nat) (b : List Byte) : Option Nat := needAt (decide (4 ≤ b.length) && decide ((b.length - 4) % unit = 0)) 0
/-- A part of a core memory: the bits above a unit's `used` low bytes are reserved (DEDUCED, Table 4-3). (DEDUCED, log 30, unsafe) -/
def corePartBad (unit used : Nat) (b : List Byte) : Option Nat :=
  firstAt [partBad unit b, badEntry (entries 4 unit ((b.length - 4) / unit)) (fun o => decide (leAt b (o + used) (unit - used) = 0))]
/-- The FORMAT check of one section's body. -/
def bodyBad (l : List Byte) (ss : List Sect) (pairOn : Bool) (s : Sect) : Option Nat :=
  let b := bodyOf l s
  let nsmp := samplesOf (leAt l 0x20 1)
  match s.type with
  | 0x01 => declBad b
  | 0x02 => corePartBad 8 6 b
  | 0x03 => corePartBad 4 3 b
  | 0x04 => corePartBad 4 3 b
  | 0x05 => carryBad b
  | 0x10 => countedBad b 16 8192
  | 0x11 => countedBad b 16 8192
  | 0x12 => ringsBad b
  | 0x20 => marvCmdBad (match imgBody l ss 0x21 with | some m => leAt m 0 4 | none => 0) b
  | 0x21 => marvPairBad b
  | 0x30 => sapMapBad b
  | 0x31 => strmMapBad nsmp b
  | 0x32 => chainMapBad pairOn b
  | 0x33 => ampMapBad b
  | 0x34 => siloMapBad b
  | 0x40 => latencyBad b
  | 0x41 => digestBad b
  | 0x42 => partBad 1 b
  | _ => none

/-- The image that sound bytes describe. -/
def parseImage (l : List Byte) : Image :=
  let ss := imgSects l
  let body (t : Nat) : List Byte := (imgBody l ss t).getD []
  let mask := leAt l 0x30 8
  { epoch := leAt l 0x10 8, hash := leAt l 0x18 8, rate := leAt l 0x20 1, placement := leAt l 0x21 1, flags := leAt l 0x22 2,
    marvDecl := leAt l 0x24 4, bindDecl := leAt l 0x28 4, declMax := leAt l 0x2C 4, coreMask := mask, patchBase := leAt l 0x38 4,
    patchSize := leAt l 0x3C 4,
    cores := (List.range 64).foldl (fun m n => match coreSects ss 1 n with
      | s :: _ => FMap.set CoreDecl.none m n (parseDecl (bodyOf l s))
      | [] => m) [],
    predEpoch := (imgBody l ss 0x05).map (fun b => leAt b 0 8), carry := parseCarry (body 0x05), gather := parseDescs (body 0x10),
    scatter := parseDescs (body 0x11), rings := parseRings (body 0x12), latency := parseDescs (body 0x40), settle := leAt (body 0x41) 0 4,
    omitted := (entries 8 4 (leAt (body 0x41) 4 4)).map (fun o => leAt (body 0x41) o 4),
    marv := if (imgBody l ss 0x20).isSome ∨ (imgBody l ss 0x21).isSome then
        some ⟨match imgBody l ss 0x20 with | some b => parseCmds b | none => [], leAt (body 0x21) 0 4,
          (marvGroups (body 0x21)).foldl (fun m g => FMap.set 0 m g.1 (leAt (body 0x21) g.2 4)) []⟩
      else none,
    sap := parseSap (body 0x30), strm := parseStrm (body 0x31), chain := parseChain (body 0x32), amp := parseAmp (body 0x33),
    silo := (imgBody l ss 0x34).map (fun b => (leAt b 0 4, leAt b 4 4)) }
/-- The FORMAT checks of the descriptor lists (R125, R132): fields, references, and a core with a program for each. -/
def listsBad (l : List Byte) (ss : List Sect) (i : Image) : Option Bad :=
  let x := i.ctx
  let reach (d : Desc) : Bool := if d.cast = 0 then x.has d.core else !(castCores d x.has).isEmpty
  let at' (t : Nat) (e : Option Nat) : Option Bad := match e, (sectsOf ss t) with
    | some k, s :: _ => fmtBad s (4 + 16 * k)
    | _, _ => none
  let _ := l
  firstOf [at' 0x10 (firstBad (fun d => gatherFieldsOk d && x.refsOk true d && reach d) i.gather),
    at' 0x11 (firstBad (fun d => scatterFieldsOk d && x.refsOk false d && (decide (d.origin = 1) || x.has d.core)) i.scatter)]
/-- All FORMAT checks, then all CRC checks (Table 4-4). (DEDUCED, log 30, unsafe) -/
def formatBad (l : List Byte) (srcLen : Nat) (pairOn : Bool) : Option Bad :=
  match headerBad l srcLen with
  | some b => some b
  | none =>
    let ss := imgSects l
    match firstOf [layoutBad l ss, tableBad ss (leAt l 0x30 8), firstOf (ss.map (fun s => sectBad s (bodyBad l ss pairOn s)))] with
    | some b => some b
    | none =>
      let i := parseImage l
      match listsBad l ss i with
      | some b => some b
      | none =>
        firstOf [need (decide (leAt l 0x44 4 = crc32c (l.take 0x44))) (some ⟨0x11, 0xFFF, 0x44⟩),
          (ss.find? (fun s => decide (s.crc ≠ crc32c (bodyOf l s)))).map (fun s => ⟨0x11, s.idx, 0⟩)]

end Sys2Proof.Machine
end

