-- ==== Sys2Proof/Machine/Dom.lean ====
section
/-!
DEFINITION. Power domains (R423, R424): which domains an image needs, which are wanted, switching on with zeroed memories and off with
the loss of all state; what an access to a domain that is off meets.
-/

namespace Sys2Proof.Machine

/-- The domains that an image needs (Table 17-2): clusters with programs, Marver, serial ports, amplifier control. -/
def Image.domNeeds (i : Image) : Nat :=
  maskOf 4 (fun c => i.coreMask / 2 ^ (16 * c) % 65536 ≠ 0) * 4 + (if i.hasList then 64 else 0) +
  (if i.sap.any (fun e => e.rxMask ≠ 0 || e.txMask ≠ 0) then 1024 else 0) + (if i.amp.isEmpty then 0 else 2048)
/-- A domain whose state is a matter of image needs or requests: 2–6, 10 and 11. -/
def domSwitched (d : Nat) : Bool := decide (2 ≤ d ∧ d ≤ 6) || decide (d = 10) || decide (d = 11)
/-- The needs of the images in slots that are READY or RUNNING. -/
def State.slotNeeds (s : State) : Nat :=
  let one (st : Nat) (i : Option Image) : Nat := match i with | some x => if st = 2 ∨ st = 3 then x.domNeeds else 0 | none => 0
  one (s.fld R.IMG_STATUS_A_STATE) s.img.slotA ||| one (s.fld R.IMG_STATUS_B_STATE) s.img.slotB
/-- The domains that are wanted: by Table 17-2, or by `PWR.DOM_REQ` while AUTO = 0. AMP is never on without amplifier control. -/
def State.domWanted (s : State) : Nat :=
  let ports := (List.range 16).any (fun n => s.sapState n ≠ 0)
  let base := if s.bit R.PWR_CTRL_AUTO then s.slotNeeds ||| 0x203 ||| (if ports then 1024 else 0) else s.fld R.PWR_DOM_REQ ||| 1
  if s.hasAmp then base else base - (base &&& 2048)
/-- Can every domain that an image needs be switched on? -/
def State.domCan (s : State) (i : Image) : Bool :=
  s.bit R.PWR_CTRL_AUTO || decide (i.domNeeds &&& (s.fld R.PWR_DOM_REQ ||| s.fld R.PWR_DOM_STATUS_ON) = i.domNeeds)
/-- The domain of a register block, where it lies in one (Table 17-2). (DEDUCED, log 12, unsafe) -/
def domOfBlock (blk : Nat) : Option Nat :=
  if blk = 0x4003 then some 1 else if blk = 0x4006 then some 6 else if blk = 0x4008 then some 10
  else if 0x400A ≤ blk ∧ blk ≤ 0x4010 ∨ blk = 0x4012 then some 9 else if blk = 0x4014 then some 11 else none
/-- The domain of a bus address, where it lies in one that can be off. (DEDUCED, log 12, unsafe) -/
def domOfAddr (a : Nat) : Option Nat :=
  if 0x20000000 ≤ a ∧ a < 0x22000000 then some (2 + a / 0x800000 % 4)
  else if marvBase ≤ a ∧ a < marvBase + 0x800000 then some 6
  else if 0x40000000 ≤ a ∧ a < 0x401F0000 then domOfBlock (a / 0x10000)
  else none
/-- Registers of the blocks of a domain return to their reset values. -/
def State.dropBlocks (s : State) (d : Nat) : State := { s with regs := s.regs.drop (fun k => decide (domOfBlock (k / 32 / 0x10000) = some d)) }
/-- A domain switches off and loses all its state. (DEDUCED, log 12, unsafe) -/
def State.domOff (s : State) (d : Nat) : State :=
  let gone (a : Nat) : Bool := decide (a < 0x40000000) && decide (domOfAddr a = some d)
  let s1 := ({ s with mem := s.mem.drop gone, mem14 := { s.mem14 with bad := s.mem14.bad.filter (fun a => !gone a) } }.dropBlocks d)
  let s2 := (s1.setFld R.PWR_DOM_STATUS_ON (putBit (s.fld R.PWR_DOM_STATUS_ON) d false)).setFld R.PWR_DOM_STATUS_BUSY
    (putBit (s.fld R.PWR_DOM_STATUS_BUSY) d false)
  if 2 ≤ d ∧ d ≤ 5 then { s2 with cores := s2.cores.drop (fun n => decide (n / 16 = d - 2)) }
  else if d = 1 then { s2 with clk := ClkSt.reset }
  else if d = 6 then { s2 with marv := MarvSt.reset }
  else if d = 10 then { s2 with sap := SapSt.reset }
  else if d = 11 then { s2 with amp := AmpSt.reset, pins := { s2.pins with ampSdclk := false } }.ampPins
  else s2
/-- A domain is on: its memories were zeroed on the way. AMP is never switched on without amplifier control (R2); with it, AMP_SDCLK runs. -/
def State.domUp (s : State) (d : Nat) : State :=
  if d = 11 ∧ !s.hasAmp then s
  else
    let s1 := if d = 11 then { s with pins := { s.pins with ampSdclk := true } } else s
    (s1.setFld R.PWR_DOM_STATUS_ON (putBit (s.fld R.PWR_DOM_STATUS_ON) d true)).setFld R.PWR_DOM_STATUS_BUSY (putBit (s.fld R.PWR_DOM_STATUS_BUSY) d false)
/-- Every domain of a mask is on. -/
def State.domsUp (s : State) (mask : Nat) : State :=
  (List.range 12).foldl (fun t d => if bitOf mask d ∧ !t.domOn d then t.domUp d else t) s
/-- Domains that are wanted and off begin to switch on: BUSY. -/
def State.domsAsk (s : State) : State :=
  (List.range 12).foldl (fun t d =>
    if bitOf t.domWanted d ∧ !t.domOn d ∧ d ≠ 7 ∧ d ≠ 8 then t.setFld R.PWR_DOM_STATUS_BUSY (putBit (t.fld R.PWR_DOM_STATUS_BUSY) d true) else t) s
/-- Automatic switching: domains that nothing needs any more switch off, wanted ones begin to switch on. -/
def State.domTurn (s : State) : State :=
  if s.bit R.PWR_CTRL_AUTO ∧ !s.bit R.PWR_STATUS_STANDBY then
    ((List.range 12).foldl (fun t d => if domSwitched d ∧ t.domOn d ∧ !bitOf t.domWanted d then t.domOff d else t) s).domsAsk
  else s
/-- DOMAIN_POWER_UP_COMPLETE. -/
def State.domComplete (s : State) (d : Nat) : State :=
  if d ≠ 7 ∧ d ≠ 8 ∧ bitOf s.domWanted d ∧ !s.domOn d ∧ !s.bit R.PWR_STATUS_STANDBY then s.domUp d else s
/-- The domains that a load in progress needs, read from the image's bytes. -/
def State.loadNeeds (s : State) : Nat :=
  match s.img.loading with
  | some (_, a, len) => (parseImage (s.bytes a len)).domNeeds
  | none => 0
/-- The domains that the running image, or the load in progress, needs. -/
def State.domHeld (s : State) : Nat := (match s.image with | some i => i.domNeeds | none => 0) ||| s.loadNeeds
/-- Is the block of a domain in use (R437)? -/
def State.domInUse (s : State) (d : Nat) : Bool :=
  if d = 1 then s.bit R.TICK_CTRL_RUN
  else if d = 9 then s.bit R.TICK_CTRL_RUN || (List.range 5).any (fun n => s.bit (R.NET_STATUS_LINK n)) || decide (s.fld R.CHAIN_STATUS ≠ 0)
  else if d = 10 then (List.range 16).any (fun n => s.sapState n ≠ 0)
  else if d = 11 then (List.range 32).any (fun n => s.ampState n ≠ 0)
  else false
/-- Requests of `PWR.DOM_REQ` with AUTO = 0 apply: a domain that is held stays on, with REFUSED. (DEDUCED, log 64, unsafe) -/
def State.domReqApply (s : State) (req : Nat) : State :=
  let off (d : Nat) : Bool := decide (1 ≤ d) && decide (d ≠ 7) && decide (d ≠ 8) && !bitOf req d
  let refused := (List.range 12).any (fun d => off d && s.domOn d && bitOf s.domHeld d)
  let keep := maskOf 12 (fun d => off d && s.domOn d && bitOf s.domHeld d)
  let s1 := s.setFld R.PWR_DOM_REQ (req ||| 1 ||| keep)
  let s2 := if refused then s1.setIrq R.PWR_IRQ_STATUS 1 else s1
  ((List.range 12).foldl (fun t d => if off d ∧ s.domOn d ∧ !bitOf keep d then t.domOff d else t) s2).domsAsk
/-- Would a request switch off a domain whose block is in use? (DEDUCED, log 8, safe) -/
def State.domReqUnsafe (s : State) (req : Nat) : Bool :=
  (List.range 12).any (fun d => decide (1 ≤ d) && !bitOf req d && s.domOn d && !bitOf s.domHeld d && s.domInUse d)
/-- An access meets a domain that is off: an error response, and PWR DOMAIN. -/
def State.domFault (s : State) (d : Nat) : State := s.fcu' 53 4 d
/-- The domain that keeps an access from its target. The AMP block of a part without amplifier control still answers: it reads as zero and
ignores writes (R2). (DEDUCED, log 12, unsafe) -/
def State.domBlocks (s : State) (a : Nat) : Option Nat :=
  match domOfAddr a with
  | some d => if s.domOn d ∨ (d = 11 ∧ !s.hasAmp) then none else some d
  | none => none

end Sys2Proof.Machine
end

