-- ==== Sys2Proof/Machine/Log.lean ====
section
/-!
DEFINITION. The MRAM: log ring (R403, R404) and configuration store (R405).
-/

namespace Sys2Proof.Machine

def sramBase : Nat := 0x1000000
def mramBase : Nat := 0x2000000
/-- Bus address of log record `seq`. -/
def logAddr (seq : Nat) : Nat := mramBase + seq % 3072 * 64
/-- Pad bytes with zeros to `n`. -/
def padTo (n : Nat) (l : List Byte) : List Byte := (l ++ List.replicate (n - l.length) 0).take n
/-- The 64 bytes of a record (Table 16-3). -/
def LogRec.image (r : LogRec) (seq : Nat) : List Byte :=
  let body := leBytes 4 seq ++ leBytes 1 r.type ++ [0, 0, 0] ++ leBytes 8 r.tick ++ leBytes 8 (r.sec % 2 ^ 48) ++ leBytes 4 r.ns ++ padTo 32 r.pay
  body ++ leBytes 4 (crc32c body)
/-- Does a record's CHECK hold? A record of zeros does not. (DEDUCED, log 56, unsafe) -/
def logValid (l : List Byte) : Bool := decide (l.any (fun b => b ≠ 0)) && decide (leAt l 60 4 = crc32c (l.take 60))
/-- LOG_RECORD_WRITE: the oldest buffered record goes to the ring; records dropped before are then reported by one DROPPED record. (DEDUCED, log 56, unsafe) -/
def State.logWrite (s : State) : State :=
  match s.grng.logBuf with
  | [] => s
  | r :: rest =>
    let seq := s.fld R.GRNG_LOG_HEAD
    let s1 := ({ s with grng := { s.grng with logBuf := rest } }.setBytes (logAddr seq) (r.image seq)).setFld R.GRNG_LOG_HEAD (seq + 1)
    if s1.grng.dropped = 0 then s1
    else { s1 with grng := { s1.grng with dropped := 0 } }.logOffer 7 (leBytes 4 s1.grng.dropped)
/-- The next SEQ after the newest valid record of the ring. (DEDUCED, log 56, unsafe) -/
def State.logScan (s : State) : Nat :=
  s.mem.foldl (fun m e =>
    if mramBase ≤ e.1 ∧ e.1 < mramBase + 0x30000 then
      let a := e.1 / 64 * 64
      if m ≤ s.le a 4 ∧ logValid (s.bytes a 64) then s.le a 4 + 1 else m
    else m) 0
/-- The words of record `seq` when the ring holds it. -/
def State.logRead (s : State) (seq : Nat) : Option (List Byte) :=
  let l := s.bytes (logAddr seq) 64
  if leAt l 0 4 = seq ∧ logValid l then some l else none

/-! The configuration store -/

/-- Base of copy k. -/
def cfgBase (k : Nat) : Nat := mramBase + 0x30000 + k * 0x4000
/-- Longest body of a copy. -/
def cfgMax : Nat := 16368
/-- A header and body as the store holds them. -/
def cfgImage (gen : Nat) (body : List Byte) : List Byte :=
  leBytes 4 0x56594346 ++ leBytes 4 gen ++ leBytes 4 body.length ++ leBytes 4 (crc32c body) ++ body
/-- The body of a valid image: right MAGIC, a length that fits and a right CRC. -/
def cfgBody (l : List Byte) : Option (List Byte) :=
  let body := (l.drop 16).take (leAt l 8 4)
  if leAt l 0 4 = 0x56594346 ∧ leAt l 8 4 ≤ cfgMax ∧ leAt l 12 4 = crc32c body ∧ body.length = leAt l 8 4 then some body else none
/-- The bytes of copy k as far as its length goes. -/
def State.cfgCopy (s : State) (k : Nat) : List Byte := s.bytes (cfgBase k) (16 + Nat.min (s.le (cfgBase k + 8) 4) cfgMax)
/-- GENERATION and body of copy k, when it is valid. -/
def State.cfgValid (s : State) (k : Nat) : Option (Nat × List Byte) :=
  match cfgBody (s.cfgCopy k) with
  | some b => some (s.le (cfgBase k + 4) 4, b)
  | none => none
/-- The working copy takes a body. -/
def State.cfgTake (s : State) (b : List Byte) : State :=
  { s with grng := { s.grng with workLen := b.length, work := FMap.setRun 0 [] 0 b } }
/-- The valid copy with the higher GENERATION becomes the working copy; none leaves it empty. (DEDUCED, log 57, unsafe) -/
def State.cfgLoad (s : State) : State :=
  match s.cfgValid 0, s.cfgValid 1 with
  | some (g, b), some (h, c) => s.cfgTake (if h ≤ g then b else c)
  | some (_, b), none => s.cfgTake b
  | none, some (_, c) => s.cfgTake c
  | none, none => s.cfgTake []
/-- The body of the working copy. -/
def State.cfgWork (s : State) : List Byte := FMap.getRun 0 s.grng.work 0 s.grng.workLen
/-- The copy with the lower GENERATION, an invalid one first, and the GENERATION a commit gives it. (DEDUCED, log 57, unsafe) -/
def State.cfgOlder (s : State) : Nat × Nat :=
  match s.cfgValid 0, s.cfgValid 1 with
  | some (g, _), some (h, _) => if h < g then (1, g + 1) else (0, h + 1)
  | some (g, _), none => (1, g + 1)
  | none, some (h, _) => (0, h + 1)
  | none, none => (0, 1)
/-- CFG_COMMIT: the working copy is written over the older copy, with GENERATION raised by 1. (DEDUCED, log 57, unsafe) -/
def State.cfgCommit (s : State) : Nat × State :=
  let (k, g) := s.cfgOlder
  (g % 0x100000000, s.setBytes (cfgBase k) (cfgImage g s.cfgWork))

end Sys2Proof.Machine
end

