-- ==== Sys2Proof/Machine/Clk.lean ====
section
/-!
DEFINITION. The clock unit (R253–R277): reference monitors, selection, the Lehr DPLL's states, build-out and ALIGN, holdover and its
learned terms, XO failure, output dividers and PLL status. Phases, periods, loop words and temperatures come as measured.
-/

namespace Sys2Proof.Machine

def State.clkState (s : State) : Nat := s.fld R.CLK_STATUS_STATE
/-- The DPLL changes state: interrupt STATE. -/
def State.setClkState (s : State) (v : Nat) : State :=
  if s.clkState = v then s else (s.setFld R.CLK_STATUS_STATE v).setIrq R.CLK_IRQ_STATUS 0
/-- Lehr stages in use (R260). -/
def State.stages (s : State) : Nat := Nat.max 1 (Nat.min 4 (s.fld R.CLK_LEHR_CFG))
/-- Compared-edge rate of a reference in mHz (Table 10-1). -/
def State.comparedRate (s : State) (n : Nat) : Nat :=
  if n < 4 then
    let f := s.fld (R.CLK_REF_FREQ n)
    let div := Nat.max 1 ((f + 11999) / 12000)
    f * 1000 / div
  else 12000000
/-- The compared-edge rate of the selected reference in mHz. -/
def State.selRate (s : State) : Nat := Nat.max 1 (s.comparedRate (s.fld R.CLK_STATUS_SEL_REF))
/-- The bandwidth in mHz that the stage asks for: BW, at least 0.05 Hz and at most 400 Hz (R261). -/
def State.stageBw (s : State) : Nat := Nat.min 400000 (Nat.max 50 (s.fld (R.CLK_LEHR (s.fld R.CLK_STATUS_STAGE))))
/-- The bandwidth in force in mHz (R261). -/
def State.bandwidth (s : State) : Nat := Nat.max 50 (Nat.min s.stageBw (s.selRate / 20))
/-- `CLK.STATUS.BW_CLAMPED`: the rate limit is in force (R261). -/
def State.showBw (s : State) : State :=
  s.setBit R.CLK_STATUS_BW_CLAMPED (s.bit R.CLK_STATUS_SEL_VALID && decide (s.selRate / 20 < s.stageBw))
/-- The 60 s mean word, or FREERUN_WORD without one (R271). -/
def State.w60 (s : State) : Int := if s.clk.model then s.sfld R.CLK_HO_AVG else s.sfld R.CLK_FREERUN_WORD
/-- Set the control word, clamped to ±200 ppm (R258). -/
def State.setWord (s : State) (w : Int) : State := s.setSFld R.CLK_FREQ_WORD (clampInt (-20000000) 20000000 w)

/-! States of the DPLL (Table 10-3) -/

/-- Enter HOLDOVER. -/
def State.holdover (s : State) : State :=
  let ref := s.fld R.CLK_STATUS_SEL_REF
  let s1 := (((({ s with clk := { s.clk with unlock := 0, minutes := 0, auto := s.clk.auto && !s.clk.nextAlign, nextAlign := false, domHeld := false } }.setClkState 4).setWord s.w60).setFld R.CLK_HO_TIME 0).setFld
    R.CLK_STATUS_SEL_VALID 0).showBw
  s1.fcu' 29 2 ref
/-- Enter FREERUN. -/
def State.freerun (s : State) : State :=
  ((({ s with clk := { s.clk with unlock := 0, minutes := 0, auto := s.clk.auto && !s.clk.nextAlign, nextAlign := false, domHeld := false } }.setClkState 0).setWord (s.sfld R.CLK_FREERUN_WORD)).setFld R.CLK_STATUS_SEL_VALID 0).showBw
/-- The DPLL becomes LOCKED after acquisition: the relation of R267 holds, and on the domain base whole ticks go into GRID_OFS. -/
def State.lockReached (s : State) : State :=
  let s1 := (s.setClkState 2).setFld R.CLK_BUILDOUT 0
  let ref := s.fld R.CLK_STATUS_SEL_REF
  let s2 := { s1 with clk := { s1.clk with
    fromHold := false, minutes := 0, agePts := [], phase := s.sfld R.CLK_PHASE_OFS, sumWord := 0, sumTemp := 0, sumN := 0 } }
  if s.clk.fromHold ∧ (ref = 4 ∨ ref = 5) ∧ !s.tick.localBase then
    s2.setSFld R.TIME_GRID_OFS ((splitOffset (s.bndOf (ref - 4))).1 - (s.tick.num : Int))
  else s2
/-- Acquisition on reference r starts at stage 0, with the integrator at the control word. -/
def State.acquire (s : State) (r : Nat) : State :=
  let s1 := ((({ s with clk := { s.clk with
    fromHold := decide (s.clkState = 4), unlock := 0, calm := 0, domHeld := false, integ := s.sfld R.CLK_FREQ_WORD * 10000000000 } }.setFld R.CLK_STATUS_SEL_VALID 1).setFld
    R.CLK_STATUS_SEL_REF r).setFld R.CLK_STATUS_STAGE 0).setIrq R.CLK_IRQ_STATUS 2
  if s.stages = 1 then s1.lockReached.showBw else (s1.setClkState 1).showBw
/-- A switch to reference r begins, or restarts on another new reference (R266, R275). -/
def State.switchRef (s : State) (r : Nat) : State :=
  let st := s.clkState
  (({ s with clk := { s.clk with prev := if st = 3 then s.clk.prev else st, swEdges := 0, domHeld := false } }.setFld R.CLK_STATUS_SEL_REF r).setIrq
    R.CLK_IRQ_STATUS 2).setClkState 3 |>.showBw

/-! Selection (R262–R265) -/

/-- May reference n be selected now? After a domain switch the other PTP instance stays unselected, whatever its rank (R269). -/
def State.refEligible (s : State) (n : Nat) : Bool :=
  let held := s.clk.domHeld && s.bit R.CLK_STATUS_SEL_VALID && decide (n = 5 - s.selCur)
  decide (s.fld (R.CLK_REF_STATUS_STATE n) = 3) && !s.bit (R.CLK_REF_STATUS_WTR n) && !held
/-- The reference that selection answers. -/
def State.bestRef (s : State) : Option Nat :=
  if s.bit R.CLK_CTRL_FORCE then
    let f := s.fld R.CLK_CTRL_FORCE_REF
    if s.fld (R.CLK_REF_STATUS_STATE f) = 3 then some f else none
  else
    let el := (List.range 8).filter (fun n => s.refEligible n)
    let sel := s.fld R.CLK_STATUS_SEL_REF
    let cur := s.bit R.CLK_STATUS_SEL_VALID && el.contains sel
    if cur ∧ !s.bit R.CLK_CTRL_REVERT then some sel
    else
      let best := el.foldl (fun (b : Option Nat) n => match b with
        | none => some n
        | some m => if s.fld (R.CLK_REF_CFG_RANK n) < s.fld (R.CLK_REF_CFG_RANK m) then some n else some m) none
      match best with
      | none => none
      | some b => if cur ∧ s.fld (R.CLK_REF_CFG_RANK sel) = s.fld (R.CLK_REF_CFG_RANK b) then some sel else some b
/-- Two QUALIFIED references of equal rank disagree (R263). -/
def State.disagree (s : State) : State :=
  let q := (List.range 8).filter (fun n => decide (s.fld (R.CLK_REF_STATUS_STATE n) = 3))
  let pair := q.find? (fun a => q.any (fun b => decide (b < a) && decide (s.fld (R.CLK_REF_CFG_RANK a) = s.fld (R.CLK_REF_CFG_RANK b)) &&
    decide (s.fld R.CLK_DISAGREE_PPB * 100 < (s.sfld (R.CLK_REF_OFFSET a) - s.sfld (R.CLK_REF_OFFSET b)).natAbs)))
  match pair with
  | none => s.setFld R.CLK_STATUS_REF_DISAGREE 0
  | some a => if s.bit R.CLK_STATUS_REF_DISAGREE then s else ((s.setFld R.CLK_STATUS_REF_DISAGREE 1).setIrq R.CLK_IRQ_STATUS 3).fcu' 29 3 a
/-- Waits whose time is over end, but for those in SWITCHING (R264, R275). (DEDUCED, log 45, unsafe) -/
def State.waitsOver (s : State) : State :=
  if s.clkState = 3 then s
  else (List.range 8).foldl (fun st n =>
    if st.bit (R.CLK_REF_STATUS_WTR n) ∧ st.fld (R.CLK_REF_WTR_LEFT n) = 0 then st.setFld (R.CLK_REF_STATUS_WTR n) 0 else st) s
/-- Selection is re-evaluated. In ACQUIRING the loss of the reference is HOLDOVER (Table 10-3). -/
def State.clkSelect (s : State) : State :=
  let s1 := s.waitsOver.disagree
  let st := s1.clkState
  let sel := s1.fld R.CLK_STATUS_SEL_REF
  match s1.bestRef with
  | some r =>
    if st = 0 then s1.acquire r
    else if st = 4 then (if 1 ≤ s1.fld R.CLK_HO_TIME then s1.acquire r else s1)
    else if r = sel then s1
    else if st = 3 then (if s1.fld (R.CLK_REF_STATUS_STATE sel) = 3 then s1 else s1.switchRef r)
    else if st = 1 ∧ s1.fld (R.CLK_REF_STATUS_STATE sel) ≠ 3 then s1.holdover
    else s1.switchRef r
  | none =>
    if st = 0 ∨ st = 4 then s1
    else if s1.bit R.CLK_CTRL_FORCE ∧ !s1.clk.model then s1.freerun
    else s1.holdover

/-! Monitors (R255, R256) -/

def State.chainPort (s : State) (p : Nat) : ChainPort := FMap.get ChainPort.zero s.chain.ports p
def State.setChainPort (s : State) (p : Nat) (v : ChainPort) : State := { s with chain := { s.chain with ports := FMap.set ChainPort.zero s.chain.ports p v } }
/-- The upstream port is UP and bales arrive; a fabric master does not lock to the chain (R256, R310). (DEDUCED, log 45, unsafe) -/
def State.chainUpstream (s : State) : Bool := bitOf (s.fld R.CHAIN_STATUS) 1 && !(s.chainPort 1).lost && decide (s.fld R.FAB_CTRL_ROLE ≠ 1)
/-- Does reference n's source condition hold? -/
def State.sourceOk (s : State) (n : Nat) : Bool :=
  if n < 4 then true
  else if n < 6 then s.bit (R.TIME_T_CTRL_EN (n - 4)) && decide (s.fld (R.TIME_T_STATE_STATE (n - 4)) = 2) && !s.bit (R.TIME_T_STATE_GM_LOST (n - 4))
  else if n = 6 then s.chainUpstream
  else decide (s.fld (R.SAP_PORT_STATUS_STATE (s.fld (R.CLK_REF_CFG_PORT 7))) = 2) && !s.bit (R.SAP_PORT_CFG_ROLE (s.fld (R.CLK_REF_CFG_PORT 7)))
/-- A monitor state changes: interrupt REF. -/
def State.setRefState (s : State) (n v : Nat) : State :=
  ((s.setFld (R.CLK_REF_STATUS_STATE n) v).setIrq R.CLK_IRQ_STATUS 1)
/-- A monitor or source condition fails. -/
def State.refFail (s : State) (n reason : Nat) : State :=
  let st := s.fld (R.CLK_REF_STATUS_STATE n)
  if st = 2 ∨ st = 3 then
    let s1 := (((s.setRefState n 1).setFld (R.CLK_REF_STATUS_REASON n) reason).setFld (R.CLK_REF_STATUS_WTR n) 0).setFld (R.CLK_REF_WTR_LEFT n) 0
    let s2 := s1.count (R.CLK_REF_EVT_LOSS_CNT n) 1
    let s3 := if reason = 2 then s2.count (R.CLK_REF_EVT_GLITCH_CNT n) 1 else s2
    ({ s3 with clk := { s3.clk with qual := FMap.set 0 s3.clk.qual n 0 } }.fcu' 29 1 n).clkSelect
  else s
/-- The reason of a failed source condition. -/
def State.sourceReason (s : State) (n : Nat) : Nat :=
  if (n = 7 ∧ s.bit (R.SAP_PORT_CFG_ROLE (s.fld (R.CLK_REF_CFG_PORT 7)))) ∨ (n = 6 ∧ s.fld R.FAB_CTRL_ROLE = 1) then 5 else 4
def State.sourceFail (s : State) (n : Nat) : State := if s.sourceOk n then s else s.refFail n (s.sourceReason n)
/-- A reference becomes QUALIFIED (R264). -/
def State.refQualified (s : State) (n : Nat) : State :=
  let s1 := (s.setRefState n 3).setFld (R.CLK_REF_STATUS_REASON n) 0
  let wait := s.bit R.CLK_CTRL_REVERT && s.bit R.CLK_STATUS_SEL_VALID && decide (s.fld R.CLK_STATUS_SEL_REF ≠ n) && decide (s.fld R.CLK_WTR ≠ 0)
  (if wait then (s1.setFld (R.CLK_REF_STATUS_WTR n) 1).setFld (R.CLK_REF_WTR_LEFT n) (s.fld R.CLK_WTR)
   else if s.clkState = 3 then { s1 with clk := { s1.clk with swWait := n :: s1.clk.swWait } }
   else s1).clkSelect
/-- One second's frequency measurement of a reference. -/
def State.freqMeasure (s : State) (n : Nat) (ofs : Int) : State :=
  if s.bit (R.CLK_REF_CFG_EN n) then
    let s1 := s.setSFld (R.CLK_REF_OFFSET n) ofs
    let s2 := s1.setFld (R.CLK_REF_WTR_LEFT n) (s1.fld (R.CLK_REF_WTR_LEFT n) - 1)
    let st := s.fld (R.CLK_REF_STATUS_STATE n)
    if (st = 2 ∨ st = 3) ∧ !s.sourceOk n then s2.sourceFail n
    else if st = 2 then
      if ofs.natAbs ≤ s.fld R.CLK_QUAL_ACCEPT_PPM * 100000 then
        let q := FMap.get 0 s.clk.qual n + 1
        let s3 := { s2 with clk := { s2.clk with qual := FMap.set 0 s2.clk.qual n q } }
        if Nat.max 1 (s.fld R.CLK_QUAL_TIME) ≤ q then s3.refQualified n else s3
      else { s2 with clk := { s2.clk with qual := FMap.set 0 s2.clk.qual n 0 } }
    else if st = 3 ∧ s.fld R.CLK_QUAL_REJECT_PPM * 100000 < ofs.natAbs then s2.refFail n 3
    else s2.disagree
  else s
/-- A reference's wait-to-restore ends; during SWITCHING it restarts (R265). -/
def State.wtrExpire (s : State) (n : Nat) : State :=
  if s.bit (R.CLK_REF_STATUS_WTR n) then
    if s.clkState = 3 then { s with clk := { s.clk with swWait := n :: s.clk.swWait } }
    else ((s.setFld (R.CLK_REF_STATUS_WTR n) 0).setFld (R.CLK_REF_WTR_LEFT n) 0).clkSelect
  else s
/-- EN of a reference is written. -/
def State.refEnable (s : State) (n : Nat) (on : Bool) : State :=
  let st := s.fld (R.CLK_REF_STATUS_STATE n)
  let s1 := s.setBit (R.CLK_REF_CFG_EN n) on
  if on ∧ st = 0 then
    let s2 := (s1.setRefState n 2).setFld (R.CLK_REF_STATUS_REASON n) 0
    { s2 with clk := { s2.clk with qual := FMap.set 0 s2.clk.qual n 0 } }.sourceFail n
  else if !on ∧ st ≠ 0 then
    ((((s1.setRefState n 0).setFld (R.CLK_REF_STATUS_REASON n) 0).setFld (R.CLK_REF_STATUS_WTR n) 0).setFld (R.CLK_REF_WTR_LEFT n) 0).clkSelect
  else s1

/-! Compared edges (R258, R259, R266) -/

/-- Start an ALIGN (R268). -/
def State.align (s : State) : State :=
  if s.clkState = 3 then { s with clk := { s.clk with nextAlign := true } }
  else { s.setFld R.CLK_STATUS_ALIGNING 1 with clk := { s.clk with alignRem := 0 } }
/-- A measured offset taken modulo the compared period, within ± half of it. -/
def wrapOffset (ofs period : Int) : Int := if period ≤ 0 then ofs else (ofs + period / 2) % period - period / 2
/-- Restart the waits that met the switch: each runs for the full WTR from now (R265). -/
def State.waitsRestart (s : State) : State :=
  let s1 := s.clk.swWait.foldl (fun st n =>
    if st.fld (R.CLK_REF_STATUS_STATE n) ≠ 3 then st
    else (st.setBit (R.CLK_REF_STATUS_WTR n) (decide (st.fld R.CLK_WTR ≠ 0))).setFld (R.CLK_REF_WTR_LEFT n) (st.fld R.CLK_WTR)) s
  { s1 with clk := { s1.clk with swWait := [] } }
/-- The slew residual in ps, which is the build-out of a domain switch (R269). -/
def State.residPs (s : State) : Int := s.ptp.resid * 1000 / (3 * nsUnit : Nat)
/-- The switch is complete: the state held before, in the same stage. The build-out is the measured offset, or the remainder of a domain switch. -/
def State.switchDone (s : State) (ofs : Int) : State :=
  let period : Int := (1000000000000000 / s.selRate : Nat)
  let s1 := ((s.setSFld R.CLK_BUILDOUT (if s.clk.auto then s.residPs else wrapOffset ofs period)).setClkState s.clk.prev).waitsRestart
  let s2 := if s1.clk.nextAlign then { s1 with clk := { s1.clk with nextAlign := false } }.align else s1
  s2.clkSelect
/-- Edges presented per compared edge (R253). -/
def State.refDiv (s : State) (n : Nat) : Nat :=
  if n < 4 then Nat.max 1 ((s.fld (R.CLK_REF_FREQ n) + 11999) / 12000) else if n = 7 then s.nsmp else 1
/-- Nominal edge rate of a reference in Hz. -/
def State.refHz (s : State) (n : Nat) : Nat := if n < 4 then s.fld (R.CLK_REF_FREQ n) else if n = 7 then s.nsmp * 12000 else 12000
/-- The phase error with the loop's sign. -/
def loopErr (err : Int) : Int := if Config.loopUp then err else -err
/-- The proportional part of the control word, in 0.01 ppb: 2 ω times the error, with damping factor 1 (R258). (DEDUCED, log 45, unsafe; DESIGN CHOICE, log 70, safe) -/
def State.loopProp (s : State) (err : Int) : Int := 2 * (Config.loopOmega s.bandwidth : Nat) * loopErr err / 10000000
/-- What one compared edge adds to the integrator: ω² times the error over the compared period. (DEDUCED, log 45, unsafe; DESIGN CHOICE, log 70, safe) -/
def State.loopInc (s : State) (err : Int) : Int :=
  (Config.loopOmega s.bandwidth * Config.loopOmega s.bandwidth : Nat) * loopErr err / (s.selRate : Int)
/-- The latest accepted reading of the holdover model's sensor, in 0.01 °C (R271). -/
def State.hoTemp (s : State) : Int := s.sfld (R.SENS_S_VALUE (s.fld R.CLK_HO_SENSOR))
/-- A compared edge in ACQUIRING or LOCKED: the loop filter answers the control word; with RUN = 0 the phase of an acquisition steps to the relation of
R267; beyond UNLOCK_NS three times in a row the lock is lost. (DEDUCED, log 45, unsafe) -/
def State.loopEdge (s : State) (err : Int) : State :=
  let integ := s.clk.integ + s.loopInc err
  let s1 := (s.setSFld R.CLK_PHASE_ERR err).setWord (integ / 10000000000 + s.loopProp err)
  let k := if s.fld R.CLK_LOCK_UNLOCK_NS * 1000 < err.natAbs then s.clk.unlock + 1 else 0
  let calm := if s.fld R.CLK_LOCK_LOCK_NS * 1000 < err.natAbs then 0 else s.clk.calm + 1
  let ofs := s.sfld R.CLK_PHASE_OFS
  let phase := if s.clkState = 1 ∧ !s.bit R.TICK_CTRL_RUN then ofs else ofs + s.sfld R.CLK_BUILDOUT + err
  let on := s.clkState = 2
  let s2 := { s1 with clk := { s1.clk with
    integ := integ, unlock := k, calm := calm, phase := phase,
    sumWord := if on then s.clk.sumWord + s1.sfld R.CLK_FREQ_WORD else s.clk.sumWord,
    sumTemp := if on then s.clk.sumTemp + s.hoTemp else s.clk.sumTemp, sumN := if on then s.clk.sumN + 1 else s.clk.sumN } }
  if 3 ≤ k then s2.holdover else s2
/-- A compared edge of the selected reference: in SWITCHING it measures, else it closes the loop. -/
def State.comparedEdge (s : State) (err : Int) : State :=
  if s.clkState = 3 then
    if s.clk.swEdges + 1 < 3 then { s with clk := { s.clk with swEdges := s.clk.swEdges + 1 } }
    else s.switchDone err
  else if s.clkState = 1 ∨ s.clkState = 2 then s.loopEdge err
  else s
/-- Does a period between presented edges, in ps, lie outside ±12.5 % of nominal? 0: no earlier edge. -/
def State.glitchy (s : State) (n period : Nat) : Bool :=
  decide (period ≠ 0) && decide (1000000000000 < ((period * s.refHz n : Nat) - 1000000000000 : Int).natAbs * 8)
/-- A glitch: it governs over missing edges of the same moment (R275). (DEDUCED, log 45, unsafe) -/
def State.glitch (s : State) (n : Nat) : State :=
  if s.clk.quiet.contains n then
    { (s.setFld (R.CLK_REF_STATUS_REASON n) 2).count (R.CLK_REF_EVT_GLITCH_CNT n) 1 with clk := { s.clk with quiet := s.clk.quiet.filter (· != n) } }
  else s.refFail n 2
/-- An edge of reference n, a falling one of its pin where `falling`: `period` is the last period between presented edges in ps (0: none), `err` the
loop's phase error in ps or, in SWITCHING, the measured offset. Edges are presented by EDGE, and every DIV-th or N-th is compared (R253). (DEDUCED, log 11, safe; DEDUCED, log 45, unsafe) -/
def State.refEdge (s : State) (n : Nat) (falling : Bool) (period : Nat) (err : Int) : State :=
  if !s.bit (R.CLK_REF_CFG_EN n) || (decide (n < 4) && (s.bit (R.CLK_REF_CFG_EDGE n) != falling)) then s
  else if s.glitchy n period then s.glitch n
  else if s.fld (R.CLK_REF_STATUS_STATE n) = 1 then
    if s.sourceOk n then
      let s1 := s.setRefState n 2
      { s1 with clk := { s1.clk with qual := FMap.set 0 s1.clk.qual n 0 } }
    else s
  else
    let k := FMap.get 0 s.clk.edges n + 1
    let counted (v : Nat) : State := { s with clk := { s.clk with edges := FMap.set 0 s.clk.edges n v } }
    if k < s.refDiv n then counted k
    else if s.bit R.CLK_STATUS_SEL_VALID ∧ s.fld R.CLK_STATUS_SEL_REF = n then (counted 0).comparedEdge err
    else counted 0
/-- 3 consecutive expected edges are missing. (DEDUCED, log 45, unsafe) -/
def State.activityFail (s : State) (n : Nat) : State :=
  let st := s.fld (R.CLK_REF_STATUS_STATE n)
  let s1 := s.refFail n 1
  if st = 2 ∨ st = 3 then { s1 with clk := { s1.clk with quiet := n :: s1.clk.quiet } } else s1
/-- Has the phase error stayed within LOCK_NS for the stage's DWELL (R260)? (DEDUCED, log 45, unsafe) -/
def State.dwellMet (s : State) : Bool :=
  decide (s.fld (R.CLK_LEHR_DWELL (s.fld R.CLK_STATUS_STAGE)) * s.selRate ≤ s.clk.calm * 1000)
/-- The next stage begins once the dwell is met; the integrator takes up the change, so that the word does not step (R260). (DEDUCED, log 45, unsafe) -/
def State.stageAdvance (s : State) : State :=
  if s.clkState = 1 ∧ s.dwellMet then
    let g := s.fld R.CLK_STATUS_STAGE + 1
    let s0 := s.setFld R.CLK_STATUS_STAGE g
    let s1 := { s0 with clk := { s0.clk with
      calm := 0, integ := (s0.sfld R.CLK_FREQ_WORD - s0.loopProp (s0.sfld R.CLK_PHASE_ERR)) * 10000000000 } }
    (if s.stages ≤ g + 1 then s1.lockReached else s1).showBw
  else s
/-- The ALIGN move is over: the build-out is 0 (R268). -/
def State.alignOver (s : State) : State :=
  let s1 := ((s.setFld R.CLK_STATUS_ALIGNING 0).setFld R.CLK_BUILDOUT 0).setIrq R.CLK_IRQ_STATUS 4
  { s1 with clk := { s1.clk with auto := false, alignRem := 0 } }
/-- ALIGN_COMPLETE: the move is over where nothing of it is left, or no tick shows its progress; the automatic one ends with the slew. (DEDUCED, log 45,
unsafe) (DEDUCED, log 45, unsafe) -/
def State.alignDone (s : State) : State :=
  if !s.bit R.CLK_STATUS_ALIGNING then s
  else if s.clk.auto then
    let s1 := s.slewDone
    if s1.bit R.TIME_STATUS_SLEWING then s1 else s1.alignOver
  else if s.fld R.CLK_BUILDOUT = 0 ∨ !s.bit R.TICK_STATUS_RUNNING then s.alignOver
  else s
/-- The slew of a domain switch ends, and with it the automatic ALIGN. -/
def State.slewEnd (s : State) : State :=
  if !s.clk.auto then s.slewDone else if s.clkState = 3 then s else s.alignDone

/-! Holdover (R271, R272) -/

/-- CMD = HOLDOVER. -/
def State.holdoverCmd (s : State) : State := if s.clk.model then s.holdover else s.freerun
/-- One more second in HOLDOVER: the word by the model, at the sensor's temperature; `up`: how it is rounded. (DEDUCED, log 45, unsafe) -/
def State.holdoverUpdate (s : State) (up : Bool) : State :=
  if s.clkState = 4 then
    let t := s.fld R.CLK_HO_TIME + 1
    let kt : Int := if s.bit R.CLK_HO_KT_VALID then s.sfld R.CLK_HO_KT_KT else 0
    let age : Int := if s.bit R.CLK_HO_AGE_VALID then s.sfld R.CLK_HO_AGE_AGE else 0
    let w := s.w60 + quotient up (kt * (s.hoTemp - s.sfld R.CLK_HO_TREF) * 864 + age * (t : Int)) 86400
    ((s.setFld R.CLK_HO_TIME t).setWord w).clkSelect
  else s
/-- Least-squares slope of y over x as a fraction: numerator and denominator. (DEDUCED, log 45, unsafe) -/
def lsq (pts : List (Int × Int)) : Int × Int :=
  let n : Int := pts.length
  let sx := (pts.map Prod.fst).foldl (· + ·) 0
  let sy := (pts.map Prod.snd).foldl (· + ·) 0
  let sxy := (pts.map (fun p => p.1 * p.2)).foldl (· + ·) 0
  let sxx := (pts.map (fun p => p.1 * p.1)).foldl (· + ·) 0
  (n * sxy - sx * sy, n * sxx - sx * sx)
/-- The mean of n values, and where there is none a value in its place. -/
def meanInt (up : Bool) (sum : Int) (n : Nat) (none : Int) : Int := if n = 0 then none else quotient up sum (n : Int)
/-- Every 60 s in LOCKED: W60 and T_REF are the means of the words and temperatures at the compared edges, and kt follows from the points seen once
the temperatures span 2 °C. (DEDUCED, log 45, unsafe) -/
def State.ktUpdate (s : State) (wordUp tempUp : Bool) : State :=
  if s.clkState = 2 then
    let word := meanInt wordUp s.clk.sumWord s.clk.sumN (s.sfld R.CLK_FREQ_WORD)
    let temp := meanInt tempUp s.clk.sumTemp s.clk.sumN s.hoTemp
    let s1 := ((s.setSFld R.CLK_HO_AVG word).setSFld R.CLK_HO_TREF temp)
    let pts := (word, temp) :: s.clk.ktPts
    let m := s.clk.minutes + 1
    let s2 := { s1 with clk := { s1.clk with
      model := true, minutes := m, ktPts := pts, agePts := (m, word, temp) :: s.clk.agePts, sumWord := 0, sumTemp := 0, sumN := 0 } }
    let temps := pts.map Prod.snd
    let span := temps.foldl max temp - temps.foldl min temp
    if s.bit R.CLK_CTRL_LEARN_T ∧ 200 ≤ span then
      let (num, den) := lsq (pts.map (fun p => (p.2, p.1)))
      (s2.setSFld R.CLK_HO_KT_KT (num * 100 / den)).setFld R.CLK_HO_KT_VALID 1
    else s2
  else s
/-- Every hour: age as the slope of the temperature-corrected mean words, once LOCKED has lasted 24 h. -/
def State.ageUpdate (s : State) : State :=
  if s.clkState = 2 ∧ s.bit R.CLK_CTRL_LEARN_AGE ∧ 1440 ≤ s.clk.minutes then
    let kt : Int := if s.bit R.CLK_HO_KT_VALID then s.sfld R.CLK_HO_KT_KT else 0
    let (num, den) := lsq (s.clk.agePts.map (fun p => ((p.1 : Int), p.2.1 - kt * (p.2.2 - s.sfld R.CLK_HO_TREF) / 100)))
    if den = 0 then s else (s.setSFld R.CLK_HO_AGE_AGE (num * 1440 / den)).setFld R.CLK_HO_AGE_VALID 1
  else s
def State.hoKtWrite (s : State) (v : Nat) : State :=
  { (s.setFld R.CLK_HO_KT_KT v).setFld R.CLK_HO_KT_VALID 1 with clk := { s.clk with ktPts := [] } }
def State.hoAgeWrite (s : State) (v : Nat) : State :=
  { (s.setFld R.CLK_HO_AGE_AGE v).setFld R.CLK_HO_AGE_VALID 1 with clk := { s.clk with agePts := [] } }

/-! XO, outputs, PLLs -/

/-- The XO fails (R273). -/
def State.xoFail (s : State) : State :=
  if s.bit R.CLK_STATUS_XO_FAIL then s
  else
    let (v, s0) := s.takeFree
    let sA := { s0 with clk := { s0.clk with ktPts := [], agePts := [] } }
    let s1 := if s.clkState = 4 then sA.setWord s.w60 else sA
    ((((s1.setFld R.CLK_STATUS_XO_FAIL 1).setFld R.CLK_HO_KT_VALID 0).setFld R.CLK_HO_AGE_VALID 0).setIrq R.CLK_IRQ_STATUS 5).fcu' 29 4 (v % 0x1000000000)
/-- CMD = XO_RESTORE; `clean`: XO_IN has run for 1 s without a monitor failure. -/
def State.xoRestore (s : State) (clean : Bool) : State := if clean then s.setFld R.CLK_STATUS_XO_FAIL 0 else s
/-- A write of OUT_ALIGN_AT_HI (R270). -/
def State.outAlignArm (s : State) (hi : Nat) : State :=
  let s1 := s.setFld R.CLK_OUT_ALIGN_AT_HI hi
  let n := s1.reg64 R.CLK_OUT_ALIGN_AT_LO R.CLK_OUT_ALIGN_AT_HI
  if n < s.tick.num + 2 then s1.setFld R.CLK_OUT_STATUS_LATE 1
  else { s1 with clk := { s1.clk with outAt := n } }.setFld R.CLK_OUT_STATUS_ARMED 1
/-- Width of a PPS pulse in ticks: PPS_WIDTH ms, 0 acting as 1 (R270). -/
def State.ppsWidth (s : State) : Nat := 12 * Nat.max 1 (s.fld R.CLK_OUT_CFG_PPS_WIDTH)
/-- The dividers restart at boundary t: WCLK_OUT rises, and PPS_OUT pulses or waits for the next multiple of 12,000. -/
def State.outAligned (s : State) (t : Nat) : State :=
  let pulse := decide (t % 12000 = 0)
  { s with clk := { s.clk with
    aligned := true, wclkAt := 0, ppsPulse := pulse, ppsHigh := if pulse then s.ppsWidth else 0, ppsLeft := 12000 - t % 12000 } }
/-- PPS_OUT counts one tick. -/
def State.ppsTick (s : State) : State :=
  let pulse := decide (s.clk.ppsLeft ≤ 1)
  { s with clk := { s.clk with
    ppsPulse := pulse, ppsHigh := if pulse then s.ppsWidth else s.clk.ppsHigh - 1, ppsLeft := if pulse then 12000 else s.clk.ppsLeft - 1 } }
/-- AUDIO periods in a period of WCLK_OUT. -/
def State.wclkSpan (s : State) : Nat := if s.bit R.CLK_OUT_CFG_WCLK_SEL then 2048 else 8192 / s.nsmp
/-- WCLK_OUT `p` AUDIO periods after the latest boundary (R270). -/
def State.wclkOut (s : State) (p : Nat) : Bool :=
  s.bit R.CLK_OUT_CFG_WCLK_EN && decide ((s.clk.wclkAt + p) % s.wclkSpan < s.wclkSpan / 2)
/-- MCLK_OUT `p` AUDIO periods after the latest boundary; none at the reserved code (R270). -/
def State.mclkOut (s : State) (p : Nat) : Option Bool :=
  let c := s.fld R.CLK_OUT_CFG_MCLK_DIV
  if !s.bit R.CLK_OUT_CFG_MCLK_EN then some false
  else if c = 3 then none
  else some (decide (p % 2 ^ (c + 1) < 2 ^ c))
/-- PPS_OUT in this tick (R270). -/
def State.ppsOut (s : State) : Bool := s.bit R.CLK_OUT_CFG_PPS_EN && decide (0 < s.clk.ppsHigh)
/-- RUN is set: the boundaries fall anywhere in the period of dividers that were aligned before (R270), at a free place. (DEDUCED, log 45, unsafe) -/
def State.clkRunSet (s : State) : State :=
  if s.clk.aligned then let (v, s1) := s.takeFree; { s1 with clk := { s1.clk with wclkAt := v % 8192 } } else s
/-- A system PLL loses lock (R274). -/
def State.pllLoss (s : State) (k : Nat) : State :=
  ((({ s with clk := { s.clk with pllAge := FMap.set 0 s.clk.pllAge k 0 } }.clrFld R.CLK_PLL_STATUS_LOCK (2 ^ k)).orFld
    R.CLK_PLL_STATUS_LOSS (2 ^ k)).setIrq R.CLK_IRQ_STATUS 6).fcu' 29 5 k
/-- Nanoseconds pass: an enabled PLL without lock has it 100 µs after its enable or its loss (R274). (DEDUCED, log 45, unsafe) -/
def State.pllElapse (s : State) (ns : Nat) : State :=
  let lock := s.fld R.CLK_PLL_STATUS_LOCK
  if lock = 255 ∨ !s.grng.booted ∨ !s.domOn 1 then s
  else (List.range 8).foldl (fun st k =>
    if bitOf lock k then st
    else
      let age := FMap.get 0 st.clk.pllAge k + ns
      let st1 := { st with clk := { st.clk with pllAge := FMap.set 0 st.clk.pllAge k (if age < 100000 then age else 0) } }
      if age < 100000 then st1 else st1.orFld R.CLK_PLL_STATUS_LOCK (2 ^ k)) s
/-- 1 µs, in PTP cycles of 4 ns. -/
def microCycles : Nat := 250
/-- PTP cycles pass: a block is in reset for 1 µs (R429), and a write of the life-cycle record completes in 1 µs (R412). (DEDUCED, log 54, unsafe) -/
def State.microElapse (s : State) (cycles : Nat) : State :=
  let more (x : Nat × Nat) : Option (Nat × Nat) := if x.2 + cycles < microCycles then some (x.1, x.2 + cycles) else none
  { s with
    pwr := { s.pwr with resets := s.pwr.resets.filterMap more },
    lcs := { s.lcs with wiping := if s.grng.booted then s.lcs.wiping.bind more else s.lcs.wiping } }
/-- PTP cycles of 4 ns pass: the counters advance, and so do the ports, the PLLs and the half-duty starts. -/
def State.elapse (s : State) (cycles : Nat) : State :=
  let s1 := ((s.timeAdvance cycles).portsElapse (4 * cycles)).pllElapse (4 * cycles) |>.ampElapse cycles |>.microElapse cycles
  if cycles = 0 ∨ s1.clk.quiet.isEmpty then s1 else { s1 with clk := { s1.clk with quiet := [] } }
/-- Move v towards `goal` by at most `step`. -/
def approach (v goal : Int) (step : Nat) : Int :=
  if (v - goal).natAbs ≤ step then goal else if v < goal then v + (step : Int) else v - (step : Int)
/-- One tick of a running ALIGN: the build-out moves by the rate, and the automatic one follows the slew residual (R268, R269). (DEDUCED, log 45, unsafe) -/
def State.alignTick (s : State) : State :=
  if !s.bit R.CLK_STATUS_ALIGNING ∨ s.clkState = 3 then s
  else if s.clk.auto then (if s.bit R.TIME_STATUS_SLEWING then s.setSFld R.CLK_BUILDOUT s.residPs else s.alignOver)
  else
    let k := s.clk.alignRem + Nat.max 1 (s.fld R.CLK_ALIGN_RATE)
    { s.setSFld R.CLK_BUILDOUT (approach (s.sfld R.CLK_BUILDOUT) 0 (k / 12)) with clk := { s.clk with alignRem := k % 12 } }
/-- One tick of an acquisition while RUN = 1: the phase is pulled towards the relation of R267 at ACQ_SLOPE at most. -/
def State.pullTick (s : State) : State :=
  if s.clkState = 1 then
    { s with clk := { s.clk with phase := approach s.clk.phase (s.sfld R.CLK_PHASE_OFS) (Nat.max 1 (s.fld R.CLK_ACQ_SLOPE) / 12) } }
  else s
/-- References whose source condition no longer holds fail (R256). -/
def State.sourcesFail (s : State) : State :=
  (List.range 8).foldl (fun st n =>
    if st.fld (R.CLK_REF_STATUS_STATE n) = 2 ∨ st.fld (R.CLK_REF_STATUS_STATE n) = 3 then st.sourceFail n else st) s
/-- Boundary t: an armed alignment fires, PPS counts, and a running ALIGN or acquisition moves by one tick. -/
def State.clkBoundary (s : State) (t : Nat) : State :=
  let s1 := if s.bit R.CLK_OUT_STATUS_ARMED ∧ s.clk.outAt ≤ t then
      ((s.setFld R.CLK_OUT_STATUS_ARMED 0).outAligned t).setIrq R.CLK_IRQ_STATUS 7
    else if !s.clk.aligned then s.outAligned t
    else s.ppsTick
  s1.alignTick.pullTick.sourcesFail
/-- RUN is cleared with an alignment armed: it stays only where a free value says so (R39). -/
def State.clkRunClear (s : State) : State :=
  if s.bit R.CLK_OUT_STATUS_ARMED then
    let (v, s1) := s.takeFree
    if v % 2 = 1 then s1 else s1.setFld R.CLK_OUT_STATUS_ARMED 0
  else s

end Sys2Proof.Machine
end

