-- ==== Sys2Proof/Machine/Chain.lean ====
section
/-!
DEFINITION. Chain ports (R305–R317): training, control blocks, MARK and link delay, bales sent and received, forwarding.
-/

namespace Sys2Proof.Machine

/-! Links -/

/-- CHN0 runs in twin mode (R305). -/
def State.twinMode (s : State) : Bool := s.bit R.PAIR_CTRL_EN || !s.bit R.CHAIN_CTRL_CHN0_MODE
def State.chainUp (s : State) (p : Nat) : Bool := bitOf (s.fld R.CHAIN_STATUS) p
def State.tstate (s : State) (p : Nat) : Nat := s.fld (R.CHAIN_P_STATUS_TSTATE p)
/-- Does port p send bales; does it receive them? -/
def State.baleTx (s : State) (p : Nat) : Bool := decide (p = 2) || (decide (p = 0) && !s.twinMode && s.chain.txMap.spur)
def State.baleRx (s : State) (p : Nat) : Bool := decide (p = 1) || (decide (p = 0) && !s.twinMode && s.chain.rxMap.spur)
/-- Something leaves on port p. -/
def State.chainSend (s : State) (p : Nat) (l : List Byte) : State :=
  let c := s.chainPort p
  s.setChainPort p { c with out := c.out ++ [l] }
/-- A control block (R309). -/
def ctrlBlock (type : Nat) (body : List Byte) : List Byte :=
  let h : List Byte := [BitVec.ofNat 8 type, 0] ++ leBytes 2 body.length ++ body
  h ++ leBytes 4 (crc32c h)
/-- A received control block that passes CHECK, of a known TYPE: its TYPE and body. -/
def ctrlParse (l : List Byte) : Option (Nat × List Byte) :=
  let n := leAt l 2 2
  if l.length = n + 8 ∧ leAt l (n + 4) 4 = crc32c (l.take (n + 4)) ∧ 1 ≤ leAt l 0 1 ∧ leAt l 0 1 ≤ 4 then some (leAt l 0 1, (l.drop 4).take n) else none
/-- A discarded block. -/
def State.ctrlBad (s : State) (p : Nat) : State := (s.count (R.CHAIN_P_BALE_ERR p) 1).setIrq R.CHAIN_IRQ_STATUS 2
/-- The LINK bit of a port changes (R308). -/
def State.chainLink (s : State) (p : Nat) (up : Bool) : State :=
  ((s.setFld R.CHAIN_STATUS (putBit (s.fld R.CHAIN_STATUS) p up)).setIrq R.CHAIN_IRQ_STATUS 0).fcu' (31 + p) (if up then 2 else 1)
    (s.fld (R.CHAIN_P_STATUS_REASON p))
/-- Training restarts from LOCKING with a reason; a link that was UP goes down. -/
def State.retrain (s : State) (p reason : Nat) : State :=
  let up := s.chainUp p
  let s1 := ((((s.setFld (R.CHAIN_P_STATUS_TSTATE p) 1).setFld (R.CHAIN_P_STATUS_REASON p) reason).setFld (R.CHAIN_P_STATUS_LANE_LOCK p) 0).count
    (R.CHAIN_P_TRAIN_CNT p) 1)
  let c := s1.chainPort p
  let s2 := s1.setChainPort p { c with linkGood := 0, rxErr := c.rxErr || c.rxHead, delays := [] }
  if up then s2.chainLink p false else s2
/-- Setting a port's EN bit starts training. -/
def State.chainEnable (s : State) (p : Nat) : State :=
  if bitOf (s.fld R.CHAIN_CTRL_EN) p then s
  else
    let s1 := (((s.setFld R.CHAIN_CTRL_EN (putBit (s.fld R.CHAIN_CTRL_EN) p true)).setFld (R.CHAIN_P_STATUS_TSTATE p) 1).setFld
      (R.CHAIN_P_STATUS_REASON p) 0).setFld (R.CHAIN_P_STATUS_LANE_LOCK p) 0
    s1.setChainPort p { s1.chainPort p with linkGood := 0 }
/-- Clearing it takes the port DOWN. -/
def State.chainDisable (s : State) (p : Nat) : State :=
  if bitOf (s.fld R.CHAIN_CTRL_EN) p then
    let up := s.chainUp p
    let s1 := ((s.setFld R.CHAIN_CTRL_EN (putBit (s.fld R.CHAIN_CTRL_EN) p false)).setFld (R.CHAIN_P_STATUS_TSTATE p) 0).setFld
      (R.CHAIN_P_STATUS_LANE_LOCK p) 0
    if up then s1.chainLink p false else s1
  else s
/-- Every lane has seen 64 valid sync headers. -/
def State.laneLock (s : State) (p : Nat) : State :=
  if s.tstate p = 1 then (s.setFld (R.CHAIN_P_STATUS_TSTATE p) 2).setFld (R.CHAIN_P_STATUS_LANE_LOCK p) 0xF else s
/-- The lanes' alignment markers lie `skew` ns apart. -/
def State.laneAlign (s : State) (p skew : Nat) : State :=
  if s.tstate p = 2 then (if skew ≤ 40 then s.setFld (R.CHAIN_P_STATUS_TSTATE p) 3 else s.retrain p 2) else s
/-- The handshake checks of R307 on a LINK body: the reason of a failure, or 0. -/
def State.linkCheck (s : State) (p : Nat) (b : List Byte) : Nat :=
  let port := leAt b 4 1
  if leAt b 0 2 ≠ s.fld R.FAB_ID_FABRIC_ID then 5
  else if p = 0 then
    (if port ≠ 0 ∨ leAt b 5 1 ≠ (if s.twinMode then 0 else 1) then 4
     else if s.twinMode ∧ !(leAt b 2 1 = s.fld R.FAB_ID_NODE ∧ leAt b 3 1 ≠ s.fld R.PAIR_STATUS_SIDE) then 4 else 0)
  else if port = 3 - p then 0 else 4
/-- A LINK block arrives, in HANDSHAKE or UP: in the earlier states no block is received. -/
def State.linkReceive (s : State) (p : Nat) (l : List Byte) : State :=
  if s.tstate p < 3 then s
  else match ctrlParse l with
  | some (1, b) =>
    let s1 := (((s.setFld (R.CHAIN_P_STATUS_PEER_ID p) (leAt b 2 1)).setFld (R.CHAIN_P_STATUS_PEER_PORT p) (leAt b 4 1)).setFld
      (R.CHAIN_P_STATUS_PEER_SIDE p) (leAt b 3 1))
    if s.tstate p = 3 then
      let r := s.linkCheck p b
      if r = 0 then
        let c := s1.chainPort p
        let g := c.linkGood + 1
        let s2 := s1.setChainPort p { c with linkGood := g }
        if 16 ≤ g then
          let s3 := ((s2.setFld (R.CHAIN_P_STATUS_TSTATE p) 4).setFld (R.CHAIN_P_STATUS_REASON p) 0)
          (s3.setChainPort p { s3.chainPort p with markMiss := 0, miss := 0, lost := false }).chainLink p true
        else s2
      else if r = 4 then (s1.setIrq R.CHAIN_IRQ_STATUS 5).retrain p 4
      else s1.retrain p r
    else s1
  | some _ => s
  | none =>
    let s1 := s.ctrlBad p
    s1.setChainPort p { s1.chainPort p with linkGood := 0 }
/-- Training has not reached UP within 10 ms. -/
def State.trainTimeout (s : State) (p : Nat) : State :=
  if 1 ≤ s.tstate p ∧ s.tstate p ≤ 3 then (s.setIrq R.CHAIN_IRQ_STATUS 4).retrain p 6 else s
/-- A LINK block's bytes. -/
def State.linkBlock (s : State) (p : Nat) : List Byte :=
  ctrlBlock 1 (leBytes 2 (s.fld R.FAB_ID_FABRIC_ID) ++ [BitVec.ofNat 8 (s.fld R.FAB_ID_NODE), BitVec.ofNat 8 (s.fld R.PAIR_STATUS_SIDE), BitVec.ofNat 8 p,
    if s.twinMode then 0 else 1, BitVec.ofNat 8 (s.fld R.FAB_FW_VER / 0x1000000), 0])
/-- During HANDSHAKE a LINK block leaves every 1 µs. -/
def State.linkSend (s : State) (p : Nat) : State := if s.tstate p = 3 then s.chainSend p (s.linkBlock p) else s
/-- No valid MARK for 3 ticks, or block lock lost on a lane. (DEDUCED, log 49, unsafe) -/
def State.markLost (s : State) (p : Nat) : State := if s.chainUp p ∧ 3 ≤ (s.chainPort p).markMiss then s.retrain p 3 else s
def State.lockLost (s : State) (p : Nat) : State := if 2 ≤ s.tstate p then s.retrain p 1 else s
/-- A MARK arrives: `rt` is its arrival less the departure of the own MARK that it echoes, in ps; on CHN1 it is an edge of reference 6 with
the measured period and phase error; `up`: how the mean of the halves is rounded (R310). (DEDUCED, log 49, unsafe) -/
def State.markReceive (s : State) (p : Nat) (l : List Byte) (rt : Int) (period : Nat) (err : Int) (up : Bool) : State :=
  if s.chainUp p then
    match ctrlParse l with
    | some (2, b) =>
      let c := s.chainPort p
      let ds := ((rt - (leAt b 20 4 : Int)) :: c.delays).take 64
      let mean := quotient up (ds.foldl (· + ·) 0) (2 * ds.length : Nat)
      let s1 := (s.setChainPort p { c with mark := leAt b 0 8, markMiss := 0, delays := ds }).setFld (R.CHAIN_P_DELAY p) mean.toNat
      if p = 1 then s1.refEdge 6 false period err else s1
    | some _ => s
    | none => s.ctrlBad p
  else s

/-! Receiving bales (R311, R313) -/

/-- The bale in progress is errored; it counts once. -/
def State.baleErr (s : State) (p : Nat) : State :=
  let c := s.chainPort p
  if c.rxErr then s else ((s.setChainPort p { c with rxErr := true }).count (R.CHAIN_P_BALE_ERR p) 1).setIrq R.CHAIN_IRQ_STATUS 2
/-- A bale header arrives. (DEDUCED, log 49, unsafe) -/
def State.baleHeader (s : State) (p : Nat) (l : List Byte) : State :=
  if s.chainUp p ∧ s.baleRx p then
    let ok := decide (l.length = 32) && decide (leAt l 0x1C 4 = crc32c (l.take 0x1C)) && decide (leAt l 0 2 = 0x5642) && decide (leAt l 8 8 = s.tick.num)
    let c := s.chainPort p
    let s1 := s.setChainPort p { c with rxHead := true }
    if ok then s1 else s1.baleErr p
  else s
/-- The bytes of a run with its RCHECK. -/
def runBytes (r : Run) : List Byte :=
  let h := leBytes 2 r.first ++ [BitVec.ofNat 8 r.count, BitVec.ofNat 8 r.origin, 0, 0, 0, 0] ++ r.samples.flatMap (fun w => leBytes 4 w.toNat)
  h ++ leBytes 4 (crc32c h)
/-- A run that passes its RCHECK. -/
def runParse (nsmp : Nat) (l : List Byte) : Option Run :=
  let count := leAt l 2 1
  let n := 8 + 4 * count * nsmp
  if 1 ≤ count ∧ count ≤ 64 ∧ l.length = n + 4 ∧ leAt l n 4 = crc32c (l.take n) then
    some ⟨leAt l 0 2 % 4096, count, leAt l 3 1 % 16, (List.range (count * nsmp)).map (fun i => BitVec.ofNat 32 (leAt l (8 + 4 * i) 4))⟩
  else none
/-- Split a run into runs of consecutive slots that keep a predicate. -/
def splitRun (nsmp : Nat) (keep : Nat → Bool) (r : Run) : List Run :=
  let one (c : Nat) : List Word := (r.samples.drop (c * nsmp)).take nsmp
  let step (acc : List Run) (c : Nat) : List Run :=
    let slot := r.first + c
    if keep slot then
      match acc with
      | q :: rest => if q.first + q.count = slot then { q with count := q.count + 1, samples := q.samples ++ one c } :: rest
                     else ⟨slot, 1, r.origin, one c⟩ :: acc
      | [] => [⟨slot, 1, r.origin, one c⟩]
    else acc
  ((List.range r.count).foldl step []).reverse
/-- A run arrives; `late`: it completed after the receive cutoff. One that CHN2 would forward after its own trailer has not started by the send cutoff:
it is abandoned (R312). (DEDUCED, log 49, unsafe) -/
def State.runReceive (s : State) (p : Nat) (l : List Byte) (late : Bool) : State :=
  if s.chainUp p ∧ s.baleRx p then
    match runParse s.nsmp l with
    | none => (s.count (R.CHAIN_P_RUN_ERR p) 1).baleErr p
    | some r =>
      let s1 := if late then (s.count (R.CHAIN_P_LATE p) 1).setIrq R.CHAIN_IRQ_STATUS 3
        else
          let c := s.chainPort p
          s.setChainPort p { c with rxRuns := c.rxRuns + 1, rxSlotCount := c.rxSlotCount + r.count,
                                    rxSlots := (r.samples.zipIdx).foldl (fun m q => FMap.set 0 m ((r.first + q.2 / s.nsmp) * 16 + q.2 % s.nsmp) (q.1.toNat + 1)) c.rxSlots }
      if p = 1 then
        let pass := splitRun s.nsmp (fun slot => decide (FMap.get 0 s1.chain.txMap.action slot = 0)) r
        let c2 := s1.chainPort 2
        if c2.txTrail then (if pass.isEmpty then s1 else (s1.count (R.CHAIN_P_ABANDON 2) pass.length).setIrq R.CHAIN_IRQ_STATUS 3)
        else s1.setChainPort 2 { c2 with fwd := c2.fwd ++ pass }
      else s1
  else s
/-- The trailer completes the bale. -/
def State.trailerReceive (s : State) (p : Nat) (l : List Byte) : State :=
  if s.chainUp p ∧ s.baleRx p then
    let c := s.chainPort p
    let ok := decide (l.length = 16) && decide (leAt l 12 4 = crc32c (l.take 12)) && decide (leAt l 0 2 = 0x5654) && decide (leAt l 4 4 = c.rxRuns) &&
      decide (leAt l 8 4 = s.tick.num % 0x100000000) && c.rxHead && !c.rxErr
    let s1 := s.setChainPort p { c with rxTrail := true, rxValid := ok, miss := 0, lost := c.lost && !ok }
    if ok then (s1.count (R.CHAIN_P_BALES p) 1).setFld (R.CHAIN_P_SLOTS_RX p) c.rxSlotCount else s1.baleErr p
  else s
/-- 0.5 µs before the boundary: a bale without a trailer is errored. -/
def State.receiveCutoff (s : State) (p : Nat) : State :=
  let c := s.chainPort p
  if s.chainUp p ∧ s.baleRx p ∧ c.rxHead ∧ !c.rxTrail then s.baleErr p else s
/-- 3 ticks without a bale. -/
def State.baleLost (s : State) (p : Nat) : State :=
  let c := s.chainPort p
  if s.chainUp p ∧ s.baleRx p ∧ 3 ≤ c.miss ∧ !c.lost then
    (((s.setChainPort p { c with lost := true }).count (R.CHAIN_P_LOST p) 1).setIrq R.CHAIN_IRQ_STATUS 1).fcu' (31 + p) 3 (s.fld (R.CHAIN_P_STATUS_REASON p))
  else s

/-! Sending bales (R312) -/

/-- Slots that this engine inserts on port p. -/
def State.insertSlots (s : State) (p : Nat) : List Nat :=
  let m := s.chain.txMap
  if p = 0 then List.range m.spurTx else ((m.action.filter (fun e => e.2 == 1)).map Prod.fst).filter (fun x => decide (x < m.ringSlots))
/-- The inserted runs, cut at 64 slots from the lowest slot of a stretch. (DEDUCED, log 49, unsafe) -/
def chunkRuns : Nat → List Nat → List (Nat × Nat) → List (Nat × Nat)
  | 0, _, acc => acc.reverse
  | _, [], acc => acc.reverse
  | fuel + 1, a :: r, (f, c) :: q => if a = f + c ∧ c < 64 then chunkRuns fuel r ((f, c + 1) :: q) else chunkRuns fuel r ((a, 1) :: (f, c) :: q)
  | fuel + 1, a :: r, [] => chunkRuns fuel r [(a, 1)]
def State.insertRuns (s : State) (p : Nat) : List (Nat × Nat) := let l := s.insertSlots p; chunkRuns (l.length + 1) l []
/-- The Binder scatters the samples of a slot. -/
def State.chainScatter (s : State) (index : Nat) (vs : List Word) : State :=
  let p := index / 4096
  let slot := index % 4096
  let c := s.chainPort p
  (s.setChainPort p { c with tx := vs.zipIdx.foldl (fun m q => FMap.set 0 m (slot * 16 + q.2) (q.1.toNat + 1)) c.tx }).setHeld
    (heldKey 1 2 index) (vs.getLast?.getD 0)
/-- An inserted run that is ready and not yet sent. -/
def State.readyRun (s : State) (p : Nat) : Option (Nat × Nat) :=
  let c := s.chainPort p
  (s.insertRuns p).find? (fun r => !c.sentRuns.contains r.1 &&
    (List.range r.2).all (fun i => decide (FMap.get 0 c.tx ((r.1 + i) * 16) ≠ 0)))
/-- The containers of an inserted run: zero when fenced, held-last during a hold. -/
def State.insertRun (s : State) (p : Nat) (r : Nat × Nat) : Run :=
  let c := s.chainPort p
  ⟨r.1, r.2, s.fld R.FAB_ID_NODE, (List.range r.2).flatMap (fun i => (List.range s.nsmp).map (fun n =>
    if s.fenced then 0
    else if s.outHeld then s.heldSample (heldKey 2 2 (p * 4096 + r.1 + i))
    else BitVec.ofNat 32 (FMap.get 0 c.tx ((r.1 + i) * 16 + n) - 1)))⟩
/-- The last samples of an inserted run are the last ones delivered of its slots (R30, R386). -/
def State.runDelivered (s : State) (p : Nat) (r : Run) : State :=
  (List.range r.count).foldl (fun t i =>
    t.setHeld (heldKey 2 2 (p * 4096 + r.first + i)) ((r.samples[(i + 1) * s.nsmp - 1]?).getD 0)) s
/-- A run leaves: an inserted one, or the oldest forwarded one. -/
def State.runSend (s : State) (p : Nat) (forwarded : Bool) : State :=
  let c := s.chainPort p
  if !s.chainUp p || !s.baleTx p || c.txTrail || s.bit R.FCU_STATUS_SAFE then s
  else if forwarded then
    match c.fwd with
    | [] => s
    | r :: rest => (s.setChainPort p { c with fwd := rest, txRuns := c.txRuns + 1, txSlotCount := c.txSlotCount + r.count }).chainSend p (runBytes r)
  else match s.readyRun p with
    | none => s
    | some r =>
      (s.setChainPort p { c with sentRuns := r.1 :: c.sentRuns, txRuns := c.txRuns + 1, txSlotCount := c.txSlotCount + r.2 }).chainSend p
        (runBytes (s.insertRun p r)) |>.runDelivered p (s.insertRun p r)
/-- The bale header of tick k. -/
def State.headerBytes (s : State) : List Byte :=
  let h := leBytes 2 0x5642 ++ leBytes 2 (s.fld R.FAB_ID_FABRIC_ID) ++
    [BitVec.ofNat 8 (s.fld R.FAB_ID_NODE + s.fld R.PAIR_STATUS_SIDE * 16 + (if s.fenced then 32 else 0)), BitVec.ofNat 8 (s.fld R.TICK_STATUS_RATE), 0, 0] ++
    leBytes 8 s.tick.num ++ leBytes 8 (match s.image with | some i => i.epoch | none => 0) ++ [0, 0, 0, 0]
  h ++ leBytes 4 (crc32c h)
/-- The trailer leaves. -/
def State.trailerOut (s : State) (p : Nat) : State :=
  let c := s.chainPort p
  let h := leBytes 2 0x5654 ++ [0, 0] ++ leBytes 4 c.txRuns ++ leBytes 4 s.tick.num
  ((s.setChainPort p { c with txTrail := true }).setFld (R.CHAIN_P_SLOTS_TX p) c.txSlotCount).chainSend p (h ++ leBytes 4 (crc32c h))
/-- Inserted runs of the tick not yet sent. -/
def State.unsent (s : State) (p : Nat) : Nat := ((s.insertRuns p).filter (fun r => !(s.chainPort p).sentRuns.contains r.1)).length
/-- Every run that the chain map expects has gone: the trailer follows. -/
def State.trailerSend (s : State) (p : Nat) : State :=
  let c := s.chainPort p
  let upstream := decide (p = 0) || !s.chainUp 1 || (s.chainPort 1).rxTrail
  if s.chainUp p ∧ s.baleTx p ∧ !c.txTrail ∧ !s.bit R.FCU_STATUS_SAFE ∧ s.unsent p = 0 ∧ c.fwd.isEmpty ∧ upstream then s.trailerOut p else s
/-- 1 µs before the boundary: runs that have not started are abandoned. -/
def State.sendCutoff (s : State) (p : Nat) : State :=
  let c := s.chainPort p
  if s.chainUp p ∧ s.baleTx p ∧ !c.txTrail ∧ !s.bit R.FCU_STATUS_SAFE then
    let n := s.unsent p + c.fwd.length
    let s1 := if n = 0 then s else (s.count (R.CHAIN_P_ABANDON p) n).setIrq R.CHAIN_IRQ_STATUS 3
    (s1.setChainPort p { s1.chainPort p with fwd := [] }).trailerOut p
  else s
/-- The block of a received slot that is gathered now; without a valid bale, or a slot that it did not carry, held-last (R313). -/
def State.chainGather (s : State) (index : Nat) : List Word × State :=
  let c := s.chainPort (index / 4096)
  let slot := index % 4096
  let k := heldKey 0 2 index
  let step (q : List Word × Word) (n : Nat) : List Word × Word :=
    let v := FMap.get 0 c.block (slot * 16 + n)
    let w := if v = 0 then q.2 else BitVec.ofNat 32 (v - 1)
    (q.1 ++ [w], w)
  let (vs, last) := (List.range s.nsmp).foldl step ([], s.heldSample k)
  (vs, s.setHeld k last)

/-! Boundaries -/

/-- The MARK that leaves at a boundary: the echo of the last MARK, with times from the boundary and the echo as they run (R309). -/
def State.markBlock (s : State) (p : Nat) : List Byte × State :=
  let (a, s1) := s.takeFree
  let (b, s2) := s1.takeFree
  (ctrlBlock 2 (leBytes 8 s.tick.num ++ leBytes 4 a ++ leBytes 8 (s.chainPort p).mark ++ leBytes 4 b), s2)
/-- One port at boundary t: the received bale closes, a new one starts in each direction. -/
def State.chainPortBoundary (s : State) (p t : Nat) : State :=
  let c := s.chainPort p
  let miss := if s.chainUp p ∧ s.baleRx p ∧ !c.rxHead then c.miss + 1 else if c.rxHead then 0 else c.miss
  let s1 := s.setChainPort p { c with
    block := if c.rxValid then c.rxSlots else [], rxHead := false, rxErr := false, rxRuns := 0, rxSlots := [], rxSlotCount := 0, rxTrail := false,
    rxValid := false, miss := miss, markMiss := c.markMiss + 1, tx := [], sentRuns := [], txRuns := 0, txSlotCount := 0, txTrail := false, fwd := [], out := [] }
  if s.chainUp p then
    let (m, s2) := s1.markBlock p
    let s3 := s2.chainSend p m
    let s4 := if t % 12000 = 0 then s3.chainSend p (s3.linkBlock p) else s3
    if s4.baleTx p ∧ !s4.bit R.FCU_STATUS_SAFE then s4.chainSend p s4.headerBytes else s4
  else s1
/-- The chain ports at boundary t. (DEDUCED, log 49, unsafe) -/
def State.chainBoundary (s : State) (t : Nat) : State :=
  let now := s.chain.txPend.filter (fun e => decide (e.1 ≤ t))
  let s1 := now.foldl (fun st e => { st with chain := { st.chain with txMap := e.2 } })
    { s with chain := { s.chain with txPend := s.chain.txPend.filter (fun e => decide (t < e.1)) } }
  (List.range 3).foldl (fun st p => st.chainPortBoundary p t) s1
/-- Block reset of CHAINp (R429): DOWN, then training starts again when enabled. -/
def State.chainReset (s : State) (p : Nat) : State :=
  let up := s.chainUp p
  let s1 := (s.setChainPort p ChainPort.zero).setFld (R.CHAIN_P_STATUS_LANE_LOCK p) 0
  let s2 := if up then s1.chainLink p false else s1
  s2.setFld (R.CHAIN_P_STATUS_TSTATE p) (if bitOf (s.fld R.CHAIN_CTRL_EN) p then 1 else 0)

end Sys2Proof.Machine
end

