-- ==== Sys2Proof/Machine/Iator.lean ====
section
/-!
DEFINITION. One Iator instruction of one core (R41–R101): fetch at the program counter, the stalls and the waits, the operation, both
moves, conditions and limit bits in the order of R51, loops and calls, and the cycle count. Each operation of Tables 3-2 to 3-8
is one definition.
-/

namespace Sys2Proof.Machine

/-- How an instruction continues. -/
inductive Flow where
  | next
  | jump (t : BitVec 14)
  | call (t : BitVec 14)
  | ret
  | tend
  /-- DO or DOR with this count and LA (R88). -/
  | loop (count : Nat) (la : BitVec 14)
  deriving DecidableEq, Repr

/-- What an operation does beside its moves: the core with its results written, its conditions, its limit bits, the long operation it
issues, how the program continues, and its issue cycles (Table 3-10). -/
structure OpOut where
  core   : Core
  conds  : Option (Cond × Cond)
  l0     : Bool
  l1     : Bool
  issue  : Option LongOp
  flow   : Flow
  cycles : Nat
  deriving DecidableEq, Repr

/-- An operation: from the state, the core number, the old core (its sources) and the core with the moves done (its destinations). -/
abbrev Oper := State → Nat → Core → Core → OpOut

/-- An operation that only continues. -/
def quiet (k : Core) (flow : Flow) (cycles : Nat) : OpOut := ⟨k, none, false, false, none, flow, cycles⟩

/-! Loops (R59, R88, R89) -/

/-- The instruction at address `at` has completed: loops that end there are tested from the innermost outwards. Answers the active
loops, where to continue, and the start of a loop that goes on. -/
def loopEnd : List Loop → BitVec 14 → List Loop × BitVec 14
  | [], a => ([], a + 1)
  | l :: r, a =>
    if l.la = a then
      if 1 < l.lc.toNat then ({ l with lc := l.lc - 1 } :: r, l.start)
      else loopEnd r a
    else (l :: r, a + 1)

/-- Does a loop body qualify for the loop buffer: 1 to 32 instructions without JSR (R60)? -/
def State.bodyQualifies (s : State) (n start la : Nat) : Bool :=
  decide (start ≤ la) && decide (la - start < 32) &&
  (List.range (la + 1 - start)).all (fun i =>
    match decodeIop (s.pWord n (start + i)) with
    | some (.jsr _) => false
    | _ => true)

/-- Is the instruction at the program counter issued from the loop buffer (R60)? So is one that a branch from an enclosing body reaches without passing
its DO, where the rule does not say whether it is fetched. (DESIGN CHOICE, log 71, unsafe) -/
def Core.buffered (k : Core) : Bool :=
  match k.buf with
  | some (a, b) => k.filled && decide (a ≤ k.pc.toNat) && decide (k.pc.toNat ≤ b)
  | none => false

/-- The instruction at `at` has completed without a jump: loops that end there are tested (R89), and a pass of the loop in the buffer that ends leaves
its body there (R60). -/
def Core.passEnd (k : Core) (at' : BitVec 14) : Core :=
  let (ls, p) := loopEnd k.loops at'
  let again := match k.buf, ls with
    | some (a, _), l :: _ => decide (l.start.toNat = a) && decide (p = l.start)
    | _, _ => false
  { k with loops := ls, pc := p, filled := k.filled || again }
/-- Continue the program of a core at address `pc` (R88–R92); a count of 0 goes on as if the instruction at LA had completed (R59). (DEDUCED, log 28, unsafe) -/
def State.flowTo (s : State) (n : Nat) (k : Core) (f : Flow) : Core :=
  let pc := k.pc
  match f with
  | .jump t => { k with pc := t }
  | .call t => { k with pc := t, calls := (pc + 1) :: k.calls }
  | .ret => match k.calls with
    | [] => { k with pc := pc + 1 }
    | c :: r => { k with pc := c, calls := r }
  | .tend => { k with tend := true }
  | .next => k.passEnd pc
  | .loop count la =>
    if count = 0 then k.passEnd la
    else
      let k1 := { k with loops := ⟨pc + 1, la, BitVec.ofNat 16 count⟩ :: k.loops, pc := pc + 1 }
      if s.bodyQualifies n (pc + 1).toNat la.toNat then { k1 with buf := some ((pc + 1).toNat, la.toNat), filled := false } else k1

/-! Pending registers (R66) -/

/-- The lane registers an outstanding long operation will write. -/
def LongOp.pending (l : LongOp) : List Nat :=
  match l.kind with
  | .gst => []
  | .hpush => []
  | _ => laneKeys (decForm l.form) l.reg
/-- Does an instruction touch a pending register? (DEDUCED, log 27, safe) -/
def Core.waits (k : Core) (i : Iop) : Bool := k.long.any (fun l => l.pending.any (fun r => i.laneRegs.contains r))

/-- Is an instruction a long operation (CLASS 0x6 or 0x7)? -/
def Iop.isLong : Iop → Bool
  | .gran _ _ _ _ _ _ _ _ => true
  | .hop _ _ _ _ _ _ _ => true
  | _ => false
/-- Stall cycles counted of an offered wait (R41, Table 3-11): those of an instruction that stalled on binding, at least one (R68); of one whose register
was pending, or that was a third long operation, until an operation completed since the last instruction. Otherwise there is nothing to wait for. (DEDUCED, log 28, unsafe) -/
def Core.waited (k : Core) (i : Iop) (wait : Nat) : Nat :=
  if k.stalled then Nat.max 1 wait
  else if k.freed.any (fun l => l.pending.any (fun r => i.laneRegs.contains r)) then wait
  else if i.isLong && !k.freed.isEmpty && decide (2 ≤ k.freed.length + k.long.length) then wait
  else 0

/-! One instruction -/

/-- CORE_STAT.STATE codes (Table 2-9). -/
def coreRunning : Nat := 2

/-- Is core n executing: a program, inside the usable window, TEND not reached? -/
def State.coreRuns (s : State) (n : Nat) : Bool :=
  let st := s.fld (R.IATC_CORE_STAT_STATE n)
  (decide (st = 2) || decide (st = 3)) && !(s.core n).tend

/-- The instruction at core n's program counter. -/
def State.fetchIop (s : State) (n : Nat) : Option Iop := decodeIop (s.pWord n (s.core n).pc.toNat)

/-- Does the instruction touch an input window that is not bound (R70)? -/
def State.touchesUnbound (s : State) (n : Nat) (k : Core) (i : Iop) (fx fy : Nat) : Bool :=
  ((k.touched 0 i.moves.1 fx) ++ (k.touched 4 i.moves.2 fy)).any (fun a => s.unbound n a.1 a.2)

/-- Words a move writes land in X or Y memory. -/
def State.putWords (s : State) (n : Nat) : List (Nat × Nat × W24) → State
  | [] => s
  | (sp, w, v) :: r => (s.setCoreWord n sp w v).putWords n r

/-- The instruction completes: moves, then the operation's results, then CSR in the order of R51, the flow and the counts. -/
def State.completeIop (s : State) (n wait : Nat) (i : Iop) (op : Oper) (fx fy : Nat) : State :=
  let k := s.core n
  let m1 := s.doMove n 0 k i.moves.1 fx ⟨k, [], false, false⟩
  let m2 := s.doMove n 4 k i.moves.2 fy m1
  let o := op s n k m2.core
  let csr1 := match o.conds with
    | some (c0, c1) => csrConds o.core.csr c0 c1
    | none => o.core.csr
  let csr2 := csrLimits csr1 (m2.l0 || o.l0) (m2.l1 || o.l1)
  let interlock := if i.addrRegs.any (fun r => k.wrote.contains r) then 1 else 0
  let pbus := if i.readsP && !k.buffered then 1 else 0
  let stall := interlock + pbus + k.waited i wait
  let k1 := { o.core with
    csr := csr2, wrote := i.addrWrites, cycles := k.cycles + o.cycles + stall, stalls := k.stalls + stall, freed := [], stalled := false,
    long := match o.issue with | some l => o.core.long ++ [l] | none => o.core.long }
  let s1 := if k.misuse i then { s with free := s.free + 2 } else s
  ((s1.putWords n m2.writes).setCore n (s1.flowTo n k1 o.flow)).setFld (R.IATC_CORE_STAT_STATE n) coreRunning

/-- A row of the instruction table reaches core n: `pick` answers the operation when the instruction at the program counter is that
row. Without effect when the core is not executing, another instruction stands at the program counter, or the instruction waits for a
pending register (R66) or a third long operation (R64); an access to an unbound window puts the core in the stalled state (R70). (DEDUCED, log 28, unsafe) -/
def State.iator (s : State) (n wait : Nat) (pick : Iop → Option Oper) : State :=
  if s.coreRuns n then
    match s.fetchIop n with
    | none => s
    | some i =>
      match pick i with
      | none => s
      | some op =>
        let k := s.core n
        let fx := Config.freeNat s.free
        let fy := Config.freeNat (s.free + 1)
        if k.waits i || (i.isLong && decide (2 ≤ k.long.length)) then s
        else if s.touchesUnbound n k i fx fy then (s.setCore n { k with stalled := true }).setFld (R.IATC_CORE_STAT_STATE n) 3
        else s.completeIop n wait i op fx fy
  else s

/-! Operations -/

/-- Both lanes of an accumulator written with results, and their conditions. -/
def twoLane (new : Core) (d : Nat) (r0 r1 : Acc × Cond) : OpOut :=
  ⟨(new.setAcc 0 d r0.1).setAcc 1 d r1.1, some (r0.2, r1.2), false, false, none, .next, 1⟩
/-- Conditions only. -/
def condOnly (new : Core) (c0 c1 : Cond) : OpOut := ⟨new, some (c0, c1), false, false, none, .next, 1⟩

/-- MPY and MAC in one lane (R83): exact, rounded when RND, wrapped. -/
def mulLane (mac neg rnd : Bool) (old : Core) (d a b l : Nat) : Acc × Cond :=
  let p := if neg then -product (old.f l a) (old.f l b) else product (old.f l a) (old.f l b)
  let r := if mac then (old.acc l d).toInt + p else p
  resultOf (if rnd then roundExact r else r)
/-- MPY: DST := ±S1 × S2. -/
def operMpy (neg rnd : Bool) (d a b : Nat) : Oper := fun _ _ old new =>
  twoLane new d (mulLane false neg rnd old d a b 0) (mulLane false neg rnd old d a b 1)
/-- MAC: DST := DST ± S1 × S2. -/
def operMac (neg rnd : Bool) (d a b : Nat) : Oper := fun _ _ old new =>
  twoLane new d (mulLane true neg rnd old d a b 0) (mulLane true neg rnd old d a b 1)
/-- An exact two-operand result in both lanes. -/
def operTwo (f : Acc → Acc → Acc × Cond) (src : RegFA) (d : Nat) : Oper := fun _ _ old new =>
  twoLane new d (f (old.acc 0 d) (old.src56 0 src)) (f (old.acc 1 d) (old.src56 1 src))
def addLane (d r : Acc) : Acc × Cond := resultOf (d.toInt + r.toInt)
def subLane (d r : Acc) : Acc × Cond := resultOf (d.toInt - r.toInt)
def tfrLane (_ r : Acc) : Acc × Cond := (r, condOf r false)
def maxLane (d r : Acc) : Acc × Cond := let v := if d.toInt < r.toInt then r else d; (v, condOf v false)
def minLane (d r : Acc) : Acc × Cond := let v := if r.toInt < d.toInt then r else d; (v, condOf v false)
def maxaLane (d r : Acc) : Acc × Cond :=
  let v := if d.toInt < (absAcc r).toInt then absAcc r else d
  (v, condOf v (decide (r.toInt = -(2 ^ 55))))
/-- CMP: the conditions of DST − SRC. -/
def operCmp (src : RegFA) (d : Nat) : Oper := fun _ _ old new =>
  condOnly new (subLane (old.acc 0 d) (old.src56 0 src)).2 (subLane (old.acc 1 d) (old.src56 1 src)).2
/-- A one-operand result in both lanes. -/
def operOne (f : Acc → Acc × Cond) (d : Nat) : Oper := fun _ _ old new => twoLane new d (f (old.acc 0 d)) (f (old.acc 1 d))
def clrLane (_ : Acc) : Acc × Cond := (0, condOf 0 false)
def rndLane (a : Acc) : Acc × Cond := resultOf (roundExact a.toInt)
def negLane (a : Acc) : Acc × Cond := resultOf (-a.toInt)
def absLane (a : Acc) : Acc × Cond := resultOf (if a.toInt < 0 then -a.toInt else a.toInt)
/-- FOLD: both lanes take the sum of the lanes. -/
def operFold (d : Nat) : Oper := fun _ _ old new =>
  let r := resultOf ((old.acc 0 d).toInt + (old.acc 1 d).toInt)
  twoLane new d r r
/-- SAT: the one operation that sets a limit bit (R85). -/
def operSat (d : Nat) : Oper := fun _ _ old new =>
  let (v0, l0) := satResult (old.acc 0 d)
  let (v1, l1) := satResult (old.acc 1 d)
  { twoLane new d (v0, condOf v0 false) (v1, condOf v1 false) with l0 := l0, l1 := l1 }

/-- LDI: IMM into both lanes of a per-lane register, or the low bits into a shared one (R93). -/
def operLdi (d : DstReg) (imm : W24) : Oper := fun s _ _ new =>
  match d with
  | .f i => quiet ((new.setF 0 i.val imm).setF 1 i.val imm) .next 1
  | .acc i => quiet ((new.setAcc 0 i.val (load24 imm)).setAcc 1 i.val (load24 imm)) .next 1
  | _ => quiet (new.setShared d imm (Config.freeNat s.free)) .next 1

/-- The unsigned count a DOR reads from its register (R88); the saturation of an accumulator only forms the count. -/
def State.dorCount (s : State) (n : Nat) (k : Core) (src : SrcReg) : Nat :=
  match src with
  | .f i => (k.f 0 i.val).toNat
  | .acc i => (move24 (k.acc 0 i.val)).1.toNat
  | .rnd i => (moveRnd (k.acc 0 i.val)).1.toNat
  | r => (s.sharedReg n k r).toNat
def operDo (count : BitVec 16) (la : BitVec 14) : Oper := fun _ _ _ new => quiet new (.loop count.toNat la) 2
/-- DOR: a register count above the bound runs the bound (R59). -/
def operDor (src : SrcReg) (bound : BitVec 16) (la : BitVec 14) : Oper := fun s n old new =>
  quiet new (.loop (Nat.min (s.dorCount n old src) bound.toNat) la) 2
def operBra (t : BitVec 14) : Oper := fun _ _ _ new => quiet new (.jump t) 2
/-- Bcc tests the conditions in force at the start of the cycle (R90). -/
def operBcc (cond lsel : Nat) (t : BitVec 14) : Oper := fun _ _ old new =>
  if taken cond lsel old.csr then quiet new (.jump t) 2 else quiet new .next 1
def operJsr (t : BitVec 14) : Oper := fun _ _ _ new => quiet new (.call t) 2
def operRts : Oper := fun _ _ _ new => quiet new .ret 2
def operNop : Oper := fun _ _ _ new => quiet new .next 1
def operTend : Oper := fun _ _ _ new => quiet new .tend 1

/-- The container a long operation reads from a lane's register at issue, with the limit flag (R63, R94). -/
def Core.container (k : Core) (l : Nat) (wide : Bool) (r : RegFA) : Word × Bool :=
  match r with
  | .f i => ((k.f l i.val).setWidth 32 <<< 8, false)
  | .acc i =>
    if wide then move32 (k.acc l i.val)
    else let (v, sat) := move24 (k.acc l i.val); (v.setWidth 32 <<< 8, sat)
/-- Does a FORM use lane l as an operand? -/
def Form.uses (f : Form) (l : Nat) : Bool := match f with | .pair => true | .bcast => false | .lane0 => l == 0 | .lane1 => l == 1
def LKind.ofG : GOp → LKind | .gld => .gld | .gst => .gst | .gadd => .gadd | .gswp => .gswp

/-- A Granary operation issues: operands are read at issue, and GAn is post-modified (R63, R94). -/
def operGran (op : GOp) (wide : Bool) (form : Form) (reg : RegFA) (g : Nat) (post : Bool) : Oper := fun _ _ old new =>
  let ga := FMap.get 0 old.ga g
  let (v0, s0) := old.container 0 wide reg
  let (v1, s1) := old.container 1 wide reg
  let reads := decide (op ≠ .gld)
  let k1 := if post then { new with ga := FMap.set 0 new.ga g (BitVec.ofInt 23 ((ga.toNat : Int) + (FMap.get 0 old.off g).toInt)) } else new
  ⟨k1, none, reads && form.uses 0 && s0, reads && form.uses 1 && s1,
   some ⟨LKind.ofG op, wide, encForm form, encRegFA reg, ga.toNat, v0, v1⟩, .next, 1⟩
/-- A hopper operation issues (R95). -/
def operHop (pop wide : Bool) (form : Form) (reg : Fin 4) (hopper : Nat) : Oper := fun _ _ old new =>
  let (v0, s0) := old.container 0 wide (.acc reg)
  let (v1, s1) := old.container 1 wide (.acc reg)
  ⟨new, none, !pop && form.uses 0 && s0, !pop && form.uses 1 && s1,
   some ⟨if pop then .hpop else .hpush, wide, encForm form, 4 + reg.val, hopper, v0, v1⟩, .next, 1⟩

end Sys2Proof.Machine
end

