-- ==== Sys2Proof/Machine/Cores.lean ====
section
/-!
DEFINITION. The cores around their instructions: starts (R43), long operations that complete (R63–R66, R94–R96), TEND that completes (R61,
R62), overruns (R25, R68).
-/

namespace Sys2Proof.Machine

/-- A bit of a pair of LO and HI registers. -/
def State.orPair (s : State) (lo hi : Fld) (n : Nat) : State := if n < 32 then s.orFld lo (2 ^ n) else s.orFld hi (2 ^ (n - 32))
/-- Are the cycles of this tick counted: not in a tick that a standby replays (R62)? -/
def State.counted (s : State) : Bool := s.pair.replayTick.isNone

/-- A core with a program starts at its entry address with every register 0 (R43). -/
def State.coreStart (s : State) (n : Nat) : State :=
  if s.hasProgram n then
    (s.setCore n { Core.zero with pc := BitVec.ofNat 14 (s.fld (R.IATC_ENTRY n)) }).setFld (R.IATC_CORE_STAT_STATE n) 2
  else s

/-! Long operations -/

/-- Does a container lie in a Granary range declared to core n (R96)? -/
def State.inRanges (s : State) (n w : Nat) : Bool := (s.decl n).ranges.any (fun r => decide (r.1 ≤ w) && decide (w < r.1 + r.2))
/-- The containers an operation reaches, with the operand for each. -/
def LongOp.targets (l : LongOp) : List (Nat × Word) :=
  match l.kind with
  | .hpush => []
  | .hpop => []
  | _ =>
    if l.form = 0 then [(l.addr, l.v0), ((l.addr + 1) % 0x800000, l.v1)]
    else [(l.addr, if l.form = 3 then l.v1 else l.v0)]
def LongOp.isHop (l : LongOp) : Bool := match l.kind with | .hpush => true | .hpop => true | _ => false
/-- Do two operations of a core reach the same Granary word or the same hopper (R65)? (DEDUCED, log 27, safe) -/
def LongOp.meets (l m : LongOp) : Bool :=
  if l.isHop then m.isHop && decide (l.addr = m.addr)
  else !m.isHop && l.targets.any (fun a => m.targets.any (fun b => decide (a.1 = b.1)))
/-- The sum that GADD stores: in 24 bits with bits 7:0 written as 0, or in 32 bits; wrapping. -/
def gaddWord (wide : Bool) (old v : Word) : Word :=
  if wide then old + v else BitVec.ofNat 32 ((old.toNat / 256 + v.toNat / 256) % 0x1000000 * 256)
/-- One container of an operation: what it returns, and the store it makes. Outside the declared ranges nothing is performed and the result
is 0 (R96); so is the result of a word with an uncorrectable error (R348). Each container of a lane pair is judged and reported on its own. (DESIGN CHOICE, log 71, unsafe) -/
def State.longWord (s : State) (n : Nat) (l : LongOp) (t : Nat × Word) (flip : Nat) : Word × State :=
  let a := granBase + 4 * t.1
  if !s.inRanges n t.1 then (0, s.fcu' (64 + n) 3 a)
  else match l.kind with
    | .gst => (0, (s.granWrite32 0 a t.2 flip).2)
    | .gld => let (_, w, s1) := s.granRead 0 a flip; (w, s1)
    | .gadd =>
      let (ok, w, s1) := s.granRead 0 a flip
      if ok then (w, (s1.granWrite32 0 a (gaddWord l.wide w t.2) 0).2) else (0, s1)
    | _ =>
      let (ok, w, s1) := s.granRead 0 a flip
      if ok then (w, (s1.granWrite32 0 a t.2 0).2) else (0, s1)
/-- The effect of an operation outside the core, and the containers it returns. -/
def State.longEffect (s : State) (n : Nat) (l : LongOp) (flip : Nat) : List Word × State :=
  match l.kind with
  | .hpush => ([], s.hopPush l.addr (if l.form = 3 then l.v1 else l.v0).toNat 0)
  | .hpop => let (e, s1) := s.hopPop l.addr 0; ([BitVec.ofNat 32 e], s1)
  | _ =>
    match l.targets with
    | [t] => let (w, s1) := s.longWord n l t flip; ([w], s1)
    | [t, u] =>
      let (w, s1) := s.longWord n l t flip
      let (x, s2) := s1.longWord n l u 0
      ([w, x], s2)
    | _ => ([], s)
/-- A container into a register of one lane (R63). -/
def Core.loadReg (k : Core) (lane reg : Nat) (wide : Bool) (w : Word) : Core :=
  if reg < 4 then k.setF lane reg (BitVec.ofNat 24 (w.toNat / 256))
  else k.setAcc lane (reg - 4) (if wide then load32 w else load24 (BitVec.ofNat 24 (w.toNat / 256)))
/-- The results of an operation into its destination registers. -/
def Core.longResult (k : Core) (l : LongOp) (ws : List Word) : Core :=
  match l.kind, ws with
  | .gst, _ => k
  | .hpush, _ => k
  | _, [w, x] => (k.loadReg 0 l.reg l.wide w).loadReg 1 l.reg l.wide x
  | _, [w] =>
    if l.form = 1 then (k.loadReg 0 l.reg l.wide w).loadReg 1 l.reg l.wide w
    else k.loadReg (if l.form = 3 then 1 else 0) l.reg l.wide w
  | _, _ => k
/-- Long operation `idx` (in issue order) of core n completes; one on the same word or hopper that was issued before it goes first. (DEDUCED, log 27, safe) -/
def State.longComplete (s : State) (n idx flip : Nat) : State :=
  let k := s.core n
  match k.long[idx]? with
  | none => s
  | some l =>
    if (k.long.take idx).any (fun m => m.meets l) then s
    else
      let (ws, s1) := s.longEffect n l flip
      s1.setCore n { (s1.core n).longResult l ws with long := k.long.eraseIdx idx, freed := l :: k.freed }

/-! TEND and overrun -/

/-- The cycle registers of a completed tick. -/
def State.showCycles (s : State) (n : Nat) : State :=
  let k := s.core n
  let c := Nat.min k.cycles 0x1FFFF
  let s1 := ((s.setFld (R.IATC_CYC_LAST n) c).setFld (R.IATC_STALL_LAST n) (Nat.min k.stalls 0x1FFFF))
  if s1.fld (R.IATC_CYC_PEAK n) < c then s1.setFld (R.IATC_CYC_PEAK n) c else s1
/-- More cycles than declared: the core's bit and the message (R62). -/
def State.overDecl (s : State) (n : Nat) : State :=
  ((s.orPair R.IATC_OVERDECL_LO R.IATC_OVERDECL_HI n).setIrq R.IATC_IRQ_STATUS 1).fcu' (64 + n) 2 (s.tick.num % 2 ^ 36)
/-- The cycles that TEND waited for its outstanding long operations are counted to its completion (R61, R62, R68). How many they are the commands do not
say: a free value, where any was outstanding. (DEDUCED, log 28, unsafe) -/
def State.tendWaited (s : State) (n : Nat) : State :=
  let k := s.core n
  if k.freed.isEmpty then s
  else
    let w := Config.freeNat s.free
    { (s.setCore n { k with cycles := k.cycles + w, stalls := k.stalls + w, freed := [] }) with free := s.free + 1 }
/-- TEND of core n completes: the limit bits are shown, and the cycles of a counted tick (R62, R73). -/
def State.tendComplete (s : State) (n : Nat) : State :=
  let k := s.core n
  let l0 := k.csr.toNat / 256 % 2 = 1
  let l1 := k.csr.toNat / 512 % 2 = 1
  let s1 := (((s.setCore n { k with done := true }).setFld (R.IATC_CORE_STAT_STATE n) 1).setBit (R.IATC_CORE_STAT_L0 n) l0).setBit
    (R.IATC_CORE_STAT_L1 n) l1
  if !s1.counted then s1
  else
    let s2 := s1.showCycles n
    let s3 := if l0 ∨ l1 then (s2.orPair R.IATC_LIMIT_LO R.IATC_LIMIT_HI n).setIrq R.IATC_IRQ_STATUS 0 else s2
    if s3.fld (R.IATC_DECL n) < k.cycles then s3.overDecl n else s3
/-- TEND completes after the last long operation (R61). (DEDUCED, log 26, unsafe) -/
def State.tendDone (s : State) (n : Nat) : State :=
  let k := s.core n
  if k.tend ∧ !k.done ∧ k.long.isEmpty then (s.tendWaited n).tendComplete n
  else s
/-- Issued operations of a stopped core complete outside it; what they return is discarded (R68). -/
def State.longDrain (s : State) (n : Nat) : List LongOp → State
  | [] => s
  | l :: r => ((s.longEffect n l 0).2).longDrain n r
/-- A core that has not executed TEND by the window end is stopped (R25). STALL_LAST, for which R73 gives no value after an overrun, stays as it was. (DEDUCED, log 26, unsafe; DESIGN CHOICE, log 71, unsafe) -/
def State.coreOverrun (s : State) (n : Nat) : State :=
  let s1 := s.longDrain n (s.core n).long
  let s2 := (s1.setCore n { s1.core n with long := [] }).setFld (R.IATC_CORE_STAT_STATE n) 4
  let s3 := (((s2.orPair R.TICK_OVERRUN_LO R.TICK_OVERRUN_HI n).countSat R.TICK_OVERRUN_CNT 1).setIrq R.TICK_IRQ_STATUS 2).setFld
    (R.IATC_CYC_LAST n) 0x1FFFF
  (s3.fcu' (64 + n) 1 (s.tick.num % 2 ^ 36)).overDecl n
/-- Is core n at work in this tick: started, and TEND has not completed? -/
def State.coreBusy (s : State) (n : Nat) : Bool :=
  let st := s.fld (R.IATC_CORE_STAT_STATE n)
  decide (st = 2) || decide (st = 3)

end Sys2Proof.Machine
end

