-- ==== Sys2Proof/Machine/Silence.lean ====
section
/-!
DEFINITION. The silence detectors and the look-ahead (R144, R145). On a VY1024-NI there are none.
-/

namespace Sys2Proof.Machine

def State.silOf (s : State) (n : Nat) : Sil := FMap.get Sil.zero s.sil n
def State.setSil (s : State) (n : Nat) (v : Sil) : State := { s with sil := FMap.set Sil.zero s.sil n v }
/-- 0 OFF, 1 ACTIVE, 2 HALF, 3 STOPPED, 4 WAKING. -/
def State.silState (s : State) (n : Nat) : Nat := s.fld (R.BIND_SIL_STATE n)
/-- A detector changes state. -/
def State.setSilState (s : State) (n v : Nat) : State :=
  if s.silState n = v then s else (s.setFld (R.BIND_SIL_STATE n) v).setIrq R.BIND_IRQ_STATUS 4
/-- Does a container hold signal: a magnitude of at least SIL_THRESH, where 0x800000 counts as 0x7FFFFF? -/
def State.isSignal (s : State) (n : Nat) (w : Word) : Bool :=
  let t := s.fld (R.BIND_SIL_THRESH n)
  decide ((if t = 0x800000 then 0x7FFFFF else t) ≤ (sampleOf w).natAbs)
/-- The samples that the Binder scatters to channel n pass the detector. -/
def State.silWatch (s : State) (n : Nat) (vs : List Word) : State :=
  if s.hasAmp then s.setSil n { s.silOf n with seen := (s.silOf n).seen || vs.any (s.isSignal n) } else s
/-- Does the map in force give channel n the look-ahead (R145)? (DEDUCED, log 38, unsafe) -/
def State.looksAhead (s : State) (n : Nat) : Bool := s.amp.map.any (fun e => e.chan == n && e.look)
/-- The 12-tick delay of channel n at a boundary: the block of the ended tick enters, the oldest one leaves. (DEDUCED, log 38, unsafe) -/
def State.silDelay (s : State) (n : Nat) : State :=
  let c := s.silOf n
  if !s.looksAhead n then (if c.line.isEmpty then s else s.setSil n { c with line := [] })
  else
    let raw := match (s.ampCh n).out with
      | some vs => vs
      | none => List.replicate s.nsmp (((c.line.getLast?.getD []).getLast?).getD 0)
    let line := c.line ++ [raw]
    if line.length ≤ 12 then (s.setSil n { c with line := line }).ampScatter n (List.replicate s.nsmp 0)
    else (s.setSil n { c with line := line.drop 1 }).ampScatter n (line.head?.getD [])

/-- EN was set. -/
def State.silEnSet (s : State) (n : Nat) : State := if s.hasAmp then s.setFld (R.BIND_SIL_CTRL_EN n) 1 else s
/-- EN was cleared. -/
def State.silEnClear (s : State) (n : Nat) : State := if s.hasAmp then s.setFld (R.BIND_SIL_CTRL_EN n) 0 else s
/-- HOLD silent ticks: the loop opens and both outputs run at 50 % duty. -/
def State.silHold (s : State) (n : Nat) : State :=
  if s.hasAmp ∧ s.bit (R.BIND_SIL_CTRL_EN n) ∧ s.silState n = 1 ∧ s.fld (R.BIND_SIL_TIME_HOLD n) ≤ (s.silOf n).silent then
    let s1 := (s.setSil n { s.silOf n with half := 0, pend := 0 }).setSilState n 2
    if s1.ampState n = 2 then (s1.setAmpState n 3).ampPins else s1
  else s
/-- HALF_TICKS without signal: switching stops. -/
def State.silHalf (s : State) (n : Nat) : State :=
  if s.hasAmp ∧ s.silState n = 2 ∧ (s.silOf n).pend = 0 ∧ s.fld (R.BIND_SIL_TIME_HALF_TICKS n) ≤ (s.silOf n).half then
    let s1 := s.setSilState n 3
    if s1.ampState n = 3 then (s1.setAmpState n 4).ampPins else s1
  else s
/-- 12 ticks after the wake start, with the loop closed. -/
def State.silWoken (s : State) (n : Nat) : State :=
  if s.hasAmp ∧ s.silState n = 4 ∧ 12 ≤ (s.silOf n).waking ∧ s.ampState n = 2 then
    let c := s.silOf n
    (s.setSil n { c with silent := 0, waking := 0, ending := false }).setSilState n (if c.ending then 0 else 1)
  else s
/-- WAKING begins: a half-duty start of a channel that the detector had opened or stopped. -/
def State.silWake (s : State) (n : Nat) (ending : Bool) : State :=
  let s1 := (s.setSil n { s.silOf n with waking := 0, pend := 0, ending := ending }).setSilState n 4
  if s1.ampState n = 3 ∨ s1.ampState n = 4 then s1.ampBegin n else s1
/-- A detector at a boundary: the counts of the ended tick, then the transitions that take effect here. -/
def State.silTurn (s : State) (n : Nat) : State :=
  let c := s.silOf n
  let en := s.bit (R.BIND_SIL_CTRL_EN n)
  let st := s.silState n
  let low := decide (st = 2) || decide (st = 3)
  let s1 := s.setSil n { c with
    silent := if c.seen then 0 else c.silent + 1, half := if st = 2 then c.half + 1 else 0, waking := if st = 4 then c.waking + 1 else 0,
    pend := if low ∧ c.seen ∧ c.pend = 0 then 1 else c.pend, seen := false }
  if low ∧ (s.ampState n = 1 ∨ s.ampState n = 2) then (s1.setSil n { s1.silOf n with silent := 0, pend := 0 }).setSilState n 1
  else if !en then
    (if low then s1.silWake n true
     else if st = 1 ∨ (st = 4 ∧ !c.ending) then (s1.setSil n { s1.silOf n with silent := 0 }).setSilState n 0
     else s1)
  else if st = 0 then (s1.setSil n { s1.silOf n with silent := 0 }).setSilState n 1
  else if st = 4 ∧ c.ending then s1.setSil n { s1.silOf n with ending := false }
  else if st = 2 ∧ c.pend = 1 then
    let s2 := (s1.setSil n { s1.silOf n with silent := 0, pend := 0 }).setSilState n 1
    if s2.ampState n = 3 then s2.setAmpState n 2 else s2
  else if st = 3 ∧ c.pend = 1 then s1.silWake n false
  else s1
/-- Every detector turns over to the next tick. -/
def State.silTurns (s : State) : State := if s.hasAmp then (List.range 32).foldl (fun st n => st.silTurn n) s else s
/-- The detectors at a boundary, ahead of the amplifier block's own boundary. They stand still while a standby records and replays: a replayed tick
turns them (R295). -/
def State.silBoundary (s : State) : State :=
  let s1 := if s.pair.recording then s else s.silTurns
  if s.hasAmp then (List.range 32).foldl (fun st n => st.silDelay n) s1 else s1

end Sys2Proof.Machine
end

