-- ==== Sys2Proof/Machine/Silo.lean ====
section
/-!
DEFINITION. The Silo recorder (R138–R143): records, rewind marks, replay, timed commands, new rings.
-/

namespace Sys2Proof.Machine

/-- Is a record due in this tick: REC is 1, or was 1 at the last boundary (R139)? -/
def State.siloOn (s : State) : Bool := s.bit R.SILO_CTRL_REC || s.silo.on
def State.siloNs (s : State) : Nat := s.fld R.SILO_FORMAT_NS
def State.siloBytes (s : State) : Nat := s.fld R.SILO_FORMAT_REC_BYTES
/-- Record bytes of ns channels at a rate (Table of R138). -/
def siloRecBytes (ns nsmp : Nat) : Nat := if ns = 0 then 0 else 16 + 4 * ns * nsmp
/-- Records in the ring. -/
def State.siloCap (s : State) : Nat := if s.siloBytes = 0 then 0 else s.fld R.SILO_SIZE * 1024 / s.siloBytes
def State.siloWidx (s : State) : Nat := s.reg64 R.SILO_WIDX_LO R.SILO_WIDX_HI
/-- The oldest readable index. -/
def State.siloOldest (s : State) : Nat := Nat.max s.silo.first (s.siloWidx - s.siloCap)
def State.siloBase (s : State) : Nat := s.fld R.SILO_BASE_LO * 4096 + s.fld R.SILO_BASE_HI * 0x100000000
/-- Bus address of record i. -/
def State.siloAddr (s : State) (i : Nat) : Nat := s.siloBase + (if s.siloCap = 0 then 0 else i % s.siloCap) * s.siloBytes

/-! Marks (R140) -/

def State.markState (s : State) (m : Nat) : Nat := bits (s.fld R.SILO_MARK_STATE) (2 * m + 1) (2 * m)
def State.setMarkState (s : State) (m v : Nat) : State :=
  s.setFld R.SILO_MARK_STATE (s.fld R.SILO_MARK_STATE - s.markState m * 4 ^ m + v * 4 ^ m)
def State.markIdx (s : State) (m : Nat) : Nat := s.reg64 (R.SILO_MARK_LO m) (R.SILO_MARK_HI m)
/-- A VALID mark is lost. -/
def State.markGone (s : State) (m : Nat) : State := ((s.setMarkState m 2).setIrq R.SILO_IRQ_STATUS 0).fcu' 5 3 (s.markIdx m % 2 ^ 36)
/-- A mark becomes VALID at an index. -/
def State.markPut (s : State) (i m : Nat) : State := (s.setReg64 (R.SILO_MARK_LO m) (R.SILO_MARK_HI m) i).setMarkState m 1

/-! Replay (R141) -/

def State.rpState (s : State) : Nat := s.fld R.SILO_RP_STATUS_STATE
def State.rpIdx (s : State) : Nat := s.reg64 R.SILO_RP_IDX_LO R.SILO_RP_IDX_HI
/-- RUNNING or PAUSED. -/
def State.rpLive (s : State) : Bool := decide (s.rpState = 1) || decide (s.rpState = 2)
/-- A replay ends (3) or aborts (4) with a reason. -/
def State.rpEnd (s : State) (st reason : Nat) : State :=
  let s1 := (s.setFld R.SILO_RP_STATUS_STATE st).setFld R.SILO_RP_STATUS_REASON reason
  if reason = 4 then (s1.setIrq R.SILO_IRQ_STATUS 2).fcu' 5 2 (s.rpIdx % 2 ^ 36) else s1.setIrq R.SILO_IRQ_STATUS 1
/-- A start is refused. -/
def State.rpRefuse (s : State) (reason : Nat) : State := (s.setFld R.SILO_RP_STATUS_REASON reason).setIrq R.SILO_IRQ_STATUS 3
/-- A start at index i. -/
def State.rpStart (s : State) (i : Nat) : State :=
  if s.rpLive then s.rpRefuse 0x12
  else if i < s.siloOldest ∨ s.siloWidx ≤ i then s.rpRefuse 0x11
  else
    let s1 := ((s.setFld R.SILO_RP_STATUS_STATE 1).setFld R.SILO_RP_STATUS_REASON 0).setReg64 R.SILO_RP_IDX_LO R.SILO_RP_IDX_HI i
    { s1 with silo := { s1.silo with left := s.fld R.SILO_RP_LEN } }
/-- START_MARK: the mark is VALID and this tick's record does not overwrite it (R146). -/
def State.rpStartMark (s : State) (m : Nat) : State :=
  let dying := s.siloOn && decide (s.siloNs ≠ 0) && decide (s.markIdx m + s.siloCap ≤ s.siloWidx)
  if s.markState m ≠ 1 ∨ dying then s.rpRefuse 0x10 else s.rpStart (s.markIdx m)

/-- Does the Silo's ring overlap a delay ring, an image or an update list in LPDDR5? What it then records and reads is unpredictable (R149). (DEDUCED, log 36, unsafe) -/
def State.siloClash (s : State) : Bool :=
  let meet (a n : Nat) : Bool := overlap s.siloBase (s.fld R.SILO_SIZE * 1024) a n
  s.bind.rings.any (fun e => meet e.2.addr (4 * e.2.cap)) || (match s.img.loading with | some (_, a, n) => meet a n | none => false) ||
  (match s.marv.upd with | some (a, n, _) => meet a n | none => false)
/-- n bytes of free values. -/
def State.freeBytes (s : State) (n : Nat) : List Byte × State :=
  ((List.range n).map (fun k => BitVec.ofNat 8 (Config.freeNat (s.free + k))), { s with free := s.free + n })
/-- The bytes of record i: still buffered, or in the ring; none when LPDDR5 finds an uncorrectable error. -/
def State.siloFetch (s : State) (i : Nat) : Option (List Byte) × State :=
  match s.silo.late.find? (fun e => e.1 == i) with
  | some e => (some e.2, s)
  | none =>
    if s.siloClash then let (l, s1) := s.freeBytes s.siloBytes; (some l, s1)
    else s.readShared 2 (s.siloAddr i) s.siloBytes 0
/-- The samples of a record's bytes, by channel × 16 + sample. -/
def siloSamples (ns nsmp : Nat) (l : List Byte) : FMap Word :=
  (List.range ns).foldl (fun m c => FMap.setRun 0 m (c * 16)
    ((List.range nsmp).map (fun n => BitVec.ofNat 32 (leAt l (16 + 4 * (ns * n + c)) 4)))) []
/-- Record r as the input block of a tick: the channels of the replay map in force; held-last samples where the record cannot be read. -/
def State.siloBlock (s : State) (r : Nat) : FMap Word × State :=
  let (b, s1) := s.siloFetch r
  let held := (List.range s.siloNs).foldl (fun m c => FMap.setRun 0 m (c * 16) (List.replicate s.nsmp (s.heldSample (heldKey 0 3 c)))) []
  ((match b with | some l => siloSamples s.siloNs s.nsmp l | none => held).filter (fun e => decide (e.1 < 16 * s.silo.rpMap)), s1)
/-- A running replay reads its record as the input block of the next tick. -/
def State.rpRead (s : State) : State :=
  if s.rpState ≠ 1 ∨ s.silo.read then s
  else if s.siloWidx ≤ s.rpIdx then s.rpEnd 3 2
  else
    let (block, s1) := s.siloBlock s.rpIdx
    let s2 := ({ s1 with silo := { s1.silo with next := block, read := true, left := s1.silo.left - 1 } }).setReg64 R.SILO_RP_IDX_LO
      R.SILO_RP_IDX_HI (s.rpIdx + 1)
    if s.silo.left = 1 then s2.rpEnd 3 1 else s2
/-- A replay channel as a gather source: 0 without a replay, the block, or held-last while paused. -/
def State.siloGather (s : State) (c : Nat) : List Word × State :=
  let mask := s.reg64 R.SILO_RP_MASK_LO R.SILO_RP_MASK_HI
  let k := heldKey 0 3 c
  let vs := if s.silo.mode = 2 then List.replicate s.nsmp (s.heldSample k)
    else if s.silo.mode = 1 ∧ bitOf mask c then FMap.getRun 0 s.silo.out (c * 16) s.nsmp
    else List.replicate s.nsmp 0
  (vs, s.setHeld k (vs.getLast?.getD 0))

/-! Recording (R138, R139) -/

/-- The block scattered to record channel c in this tick. -/
def State.siloScatter (s : State) (c : Nat) (vs : List Word) : State :=
  { s with silo := { s.silo with block := FMap.setRun 0 s.silo.block (c * 16) vs, chans := c :: s.silo.chans.filter (· != c) } }
/-- Sample n of channel c of a record: as scattered, or held-last. -/
def State.siloSample (s : State) (all : Bool) (c n : Nat) : Word :=
  if !all && s.silo.chans.contains c then FMap.get 0 s.silo.block (c * 16 + n) else s.heldSample (heldKey 1 5 c)
/-- The bytes of this tick's record; `all`: every sample is held-last. -/
def State.siloRecBytes' (s : State) (all : Bool) : List Byte :=
  let ns := s.siloNs
  let held := all || (List.range ns).any (fun c => !s.silo.chans.contains c)
  let smp := (List.range s.nsmp).flatMap (fun n => (List.range ns).flatMap (fun c => leBytes 4 (s.siloSample all c n).toNat))
  leBytes 8 s.tick.num ++ leBytes 4 (crc32c smp) ++ [BitVec.ofNat 8 ((if held then 1 else 0) + 2 * s.fld R.SILO_FORMAT_RATE), BitVec.ofNat 8 ns, 0, 0] ++ smp
/-- A record reaches the ring; one with HELD counts. (DEDUCED, log 36, unsafe) -/
def State.siloPut (s : State) (i : Nat) (l : List Byte) : State :=
  let (b, s0) := if s.siloClash then s.freeBytes l.length else (l, s)
  let s1 := if s.siloCap = 0 then s0 else (s0.writeShared 2 (s0.siloAddr i) b 0).2
  if leAt l 12 1 % 2 = 1 then s1.count R.SILO_HELD_CNT 1 else s1
/-- The tick's record: the replay reads first, then the overrun check, lost marks, new marks, and the write. A record that LPDDR5 does
not accept is buffered; beyond 32 buffered records it holds held-last samples, is written late like the others, and the hold goes on (R30, R139). (DEDUCED, log 36, unsafe) -/
def State.siloRecord (s : State) (accepted : Bool) : State :=
  if !s.siloOn || decide (s.siloNs = 0) || s.silo.wrote then s
  else
    let s0 := s.rpRead
    let w := s0.siloWidx
    let c := s0.siloCap
    let s1 := if s0.rpLive ∧ s0.rpIdx + c ≤ w then s0.rpEnd 4 4 else s0
    let s2 := (List.range 4).foldl (fun st m => if st.markState m = 1 ∧ st.markIdx m + c = w then st.markGone m else st) s1
    let s3 := s2.silo.sets.foldl (fun st m => st.markPut w m) s2
    let full := !accepted && decide (32 ≤ s3.silo.late.length)
    let s4 := if accepted then s3.siloPut w (s3.siloRecBytes' false)
      else { s3 with silo := { s3.silo with late := s3.silo.late ++ [(w, s3.siloRecBytes' full)] } }
    let s5 := (List.range s4.siloNs).foldl (fun st ch => if full then st else st.setHeld (heldKey 1 5 ch) (s4.siloSample false ch (s4.nsmp - 1))) s4
    { s5 with silo := { s5.silo with wrote := true, sets := [] } }.setReg64 R.SILO_WIDX_LO R.SILO_WIDX_HI (w + 1)
/-- A buffered record is written late. (DEDUCED, log 36, unsafe) -/
def State.siloLate (s : State) : State :=
  match s.silo.late with
  | [] => s
  | (i, l) :: r =>
    ((({ s with silo := { s.silo with late := r } }.siloPut i l).count R.SILO_LATE_CNT 1).setIrq R.SILO_IRQ_STATUS 4).fcu' 5 1 (i % 2 ^ 36)
/-- REC set: record indices count from 0 (R138). (DEDUCED, log 36, unsafe) -/
def State.recSet (s : State) : State :=
  if s.bit R.SILO_CTRL_REC then s
  else
    let s1 := (s.setFld R.SILO_CTRL_REC 1).setReg64 R.SILO_WIDX_LO R.SILO_WIDX_HI 0
    { s1 with silo := { s1.silo with on := true, first := 0 } }
/-- REC cleared: recording stops at the next boundary. -/
def State.recClear (s : State) : State := s.setFld R.SILO_CTRL_REC 0

/-! Commands (R142) -/

/-- A written command waits for the next boundary, or with TIMED for `SILO.CMD_AT`. -/
def State.siloCmd (s : State) (replay : Bool) (word : Nat) : State :=
  let at' := if s.bit R.SILO_CTRL_TIMED then some (s.reg64 R.SILO_CMD_AT_LO R.SILO_CMD_AT_HI) else none
  { s with silo := { s.silo with cmds := s.silo.cmds ++ [⟨at', replay, word⟩] } }
/-- A mark command takes effect. (DEDUCED, log 36, unsafe) -/
def State.siloMark (s : State) (word : Nat) : State :=
  let m := word % 4
  let s1 := if bitOf word 9 then { s with silo := { s.silo with sets := s.silo.sets.filter (· != m) } }.setMarkState m 0 else s
  if bitOf word 8 then { s1 with silo := { s1.silo with sets := m :: s1.silo.sets.filter (· != m) } } else s1
/-- A replay command takes effect. -/
def State.siloReplay (s : State) (word : Nat) : State :=
  match bits word 3 0 with
  | 1 => s.rpStartMark (bits word 5 4)
  | 2 => s.rpStart (s.reg64 R.SILO_RP_START_LO R.SILO_RP_START_HI)
  | 3 => if s.rpState = 1 then s.setFld R.SILO_RP_STATUS_STATE 2 else s
  | 4 => if s.rpState = 2 then s.setFld R.SILO_RP_STATUS_STATE 1 else s
  | 5 => if s.rpLive then s.rpEnd 4 3 else s
  | _ => s
/-- Is a command due at boundary t? -/
def SiloCmd.dueAt (c : SiloCmd) (t : Nat) : Bool := match c.atTick with | some n => decide (n ≤ t) | none => true

/-! Boundaries and new rings -/

/-- The end of the ended tick: what it still owed. A mark set without a record stands at the next index. -/
def State.siloEnd (s : State) : State :=
  let s1 := ((s.siloRecord true).rpRead)
  s1.silo.sets.foldl (fun st m => st.markPut st.siloWidx m) s1
/-- The Silo at boundary t: the tick that ended, if one did, closes, its replay block becomes the input block, and due commands take effect. (DEDUCED, log 36, unsafe) -/
def State.siloBoundary (s : State) (t : Nat) (ended : Bool) : State :=
  let s1 := if ended then s.siloEnd else s
  let now := s1.silo.cmds.filter (fun c => c.dueAt t)
  let mode := if s1.silo.read then 1 else if s1.rpState = 2 then 2 else 0
  let s2 := { s1 with silo := { s1.silo with
    on := s1.bit R.SILO_CTRL_REC, cmds := s1.silo.cmds.filter (fun c => !c.dueAt t), sets := [], block := [], chans := [], out := s1.silo.next,
    next := [], mode := mode, wrote := false, read := false } }
  now.foldl (fun st c => if c.replay then st.siloReplay c.word else st.siloMark c.word) s2
/-- A new ring (R143): OLDEST becomes WIDX, VALID marks are lost, a replay aborts with FORMAT. Buffered records reach the old ring first. -/
def State.siloNewRing (s : State) : State :=
  let s0 := s.silo.late.foldl (fun st _ => st.siloLate) s
  let s1 := (List.range 4).foldl (fun st m => if st.markState m = 1 then st.markGone m else st) s0
  let s2 := if s1.rpLive then s1.rpEnd 4 5 else s1
  { s2 with silo := { s2.silo with first := s2.siloWidx } }
/-- The record map changes at a switch: N_S, RATE and the record size; a new N_S or a new rate starts a new ring (R138, R143). -/
def State.siloMap (s : State) (m : Option (Nat × Nat)) (rate : Nat) (newRate : Bool) : State :=
  let ns := match m with | some (ns, _) => ns | none => 0
  let s1 := if ns ≠ s.siloNs ∨ newRate then s.siloNewRing else s
  let s2 := ((s1.setFld R.SILO_FORMAT_NS ns).setFld R.SILO_FORMAT_RATE rate).setFld R.SILO_FORMAT_REC_BYTES (siloRecBytes ns (samplesOf rate))
  let s3 := { s2 with silo := { s2.silo with rpMap := ns } }
  match m with
  | some (_, flags) => if bitOf flags 0 then s3.recSet else s3
  | none => s3

end Sys2Proof.Machine
end

