-- ==== Sys2Proof/Machine/Bind.lean ====
section
/-!
DEFINITION. The Binder at work (R125–R133): gather and scatter descriptors in list order, the digest (R108), Marver sources, the route
tables and their commits.
-/

namespace Sys2Proof.Machine

/-! Gathering -/

/-- N containers from a Granary word (R126); a failed read is held-last. -/
def State.granGather (s : State) (i flip : Nat) : List Word × State :=
  let k := heldKey 0 8 i
  let step (q : List Word × Word × State) (n : Nat) : List Word × Word × State :=
    match q.2.2.granRead 1 (granBase + 4 * (i + n)) (if n = 0 then flip else 0) with
    | (true, w, t) => (q.1 ++ [w], w, t)
    | (false, _, t) => (q.1 ++ [q.2.1], q.2.1, t)
  let (vs, last, s1) := (List.range s.nsmp).foldl step ([], s.heldSample k, s)
  (vs, s1.setHeld k last)
/-- The block of channel c of a gather descriptor (Table 5-1). -/
def State.sourceBlock (s : State) (d : Desc) (c flip : Nat) : List Word × State :=
  let i := d.index c
  match refType d.w0 with
  | 0 => s.sapGather i
  | 1 => s.strmGather i
  | 2 => s.chainGather i
  | 3 => s.siloGather i
  | 6 => s.ringTap i d.delay flip
  | 8 => s.granGather i flip
  | _ => (List.replicate s.nsmp 0, s)
/-- The blocks of a descriptor, channel by channel. -/
def State.sourceBlocks (s : State) (d : Desc) (flip : Nat) : List (List Word) × State :=
  (List.range d.count).foldl (fun q c =>
    let (b, t) := q.2.sourceBlock d c (if c = 0 then flip else 0)
    (q.1 ++ [b], t)) ([], s)
/-- Container bits 31:8 into the window words of one core (R45). -/
def State.putWindow (s : State) (d : Desc) (core : Nat) (blocks : List (List Word)) : State :=
  blocks.zipIdx.foldl (fun st b => b.1.zipIdx.foldl (fun t w =>
    t.setCoreWord core d.space (windowWord d s.nsmp b.2 w.2) (BitVec.ofNat 24 (w.1.toNat / 256))) st) s
/-- A sheaf is bound: a core that stalls on it goes on (R69, R70). -/
def State.bindSheaf (s : State) (p : Nat × Nat) : State :=
  let s1 := { s with bind := { s.bind with bound := sheafKey p.1 p.2 :: s.bind.bound } }
  if s1.fld (R.IATC_CORE_STAT_STATE p.1) = 3 then s1.setFld (R.IATC_CORE_STAT_STATE p.1) 2 else s1
/-- Does ring i of the running image lie in LPDDR5? -/
def State.ringDdr (s : State) (i : Nat) : Bool := (s.ring i).inDdr
/-- Both lists have been run. -/
def State.binderIdle (s : State) : Bool :=
  decide (s.bind.gather.length ≤ s.bind.gatherAt) && decide (s.bind.scatter.length ≤ s.bind.scatterAt)
/-- A descriptor has run: its cost, and BUSY while any is left. -/
def State.descSpent (s : State) (d : Desc) : State :=
  let s1 := { s with bind := { s.bind with cycles := s.bind.cycles + descCost s.nsmp s.ringDdr d } }
  s1.setBit R.BIND_STATUS_BUSY (!s1.binderIdle)
/-- The next gather descriptor with its blocks: written to every core of its set, but for one whose window is bound in this tick (R70); LAST binds its
sheaves (R128). -/
def State.gatherDesc (s : State) (d : Desc) (blocks : List (List Word)) : State :=
  let s1 := (castSheaves d s.hasProgram).foldl (fun st p =>
    if s.bind.bound.contains (sheafKey p.1 p.2) then st else st.putWindow d p.1 blocks) s
  let s2 := if d.last then (castSheaves d s.hasProgram).foldl (fun st p => st.bindSheaf p) s1 else s1
  { s2 with bind := { s2.bind with gatherAt := s2.bind.gatherAt + 1 } }.descSpent d
/-- Do the Binder, the cores and Marver compute live ticks: a tick runs, and no resync holds them (R294)? -/
def State.computes (s : State) : Bool := s.bit R.TICK_STATUS_RUNNING && !s.pair.recording
/-- GATHER: the next descriptor of the list. (DEDUCED, log 34, unsafe) -/
def State.gatherRun (s : State) (flip : Nat) : State :=
  match s.bind.gather[s.bind.gatherAt]? with
  | none => s
  | some d =>
    if !s.computes then s
    else
      let (blocks, s1) := s.sourceBlocks d flip
      s1.gatherDesc d blocks

/-! Scattering -/

/-- The block of a Marver source enters its history (R152). -/
def State.marvScatter (s : State) (src : Nat) (vs : List Word) : State :=
  let w := s.fld R.MARV_HIST_WPTR
  let s1 := vs.zipIdx.foldl (fun st p => st.setHist src ((w + p.2) % histLen) (BitVec.ofNat 24 (p.1.toNat / 256))) s
  { s1 with marv := { s1.marv with wrote := src :: s1.marv.wrote } }.setHeld (heldKey 1 7 src) (vs.getLast?.getD 0)
/-- Does the scatter list in force write a Marver source? -/
def State.scattersSource (s : State) (src : Nat) : Bool :=
  s.bind.scatter.any (fun d => decide (refType d.w0 = 7) && (List.range d.count).any (fun c => decide (d.index c = src)))
/-- The sources that received no block in the ended tick: held-last when the image scatters them, else 0 (R152). -/
def State.marvClose (s : State) : State :=
  ((List.range 128).filter (fun x => !s.marv.wrote.contains x)).foldl (fun st x =>
    st.marvScatter x (List.replicate s.nsmp (if s.scattersSource x then s.heldSample (heldKey 1 7 x) else 0))) s
/-- N containers to Granary words. -/
def State.granScatter (s : State) (i : Nat) (vs : List Word) (flip : Nat) : State :=
  vs.zipIdx.foldl (fun st p => (st.granWrite32 1 (granBase + 4 * (i + p.2)) p.1 (if p.2 = 0 then flip else 0)).2) s
/-- A block reaches a sink (Table 5-1). A tick that a standby replays writes rings, the Marver history, the Silo record channels and the
Granary, and transmits nothing (R297). -/
def State.sinkBlock (s : State) (type i : Nat) (vs : List Word) (flip : Nat) : State :=
  match type with
  | 0 => if s.counted then s.sapScatter i vs else s
  | 1 => if s.counted then s.strmScatter i vs else s
  | 2 => if s.counted then s.chainScatter i vs else s
  | 4 => if s.counted then (s.silWatch i vs).ampScatter i vs else s
  | 5 => s.siloScatter i vs
  | 6 => s.ringWrite i vs
  | 7 => s.marvScatter i vs
  | 8 => s.granScatter i vs flip
  | _ => s
/-- The block of channel c of a scatter descriptor; none for a driver without a feed (R159, R167). -/
def State.resultBlock (s : State) (d : Desc) (c : Nat) : Option (List Word) :=
  let toWord (w : W24) : Word := BitVec.ofNat 32 (w.toNat * 256)
  if d.origin = 1 then
    match FMap.get [] s.marv.feeds (d.driver + c) with
    | [] => none
    | f => some (f.map toWord)
  else some ((List.range s.nsmp).map (fun n => toWord (s.coreWord d.core d.space (windowWord d s.nsmp c n))))
/-- Is a sink left out of the digest (R108)? -/
def State.omits (s : State) (ref : Nat) : Bool := match s.image with | some i => i.omitted.contains ref | none => true
/-- One channel of a scatter: the sink, and the digest. -/
def State.scatterChan (s : State) (d : Desc) (flip c : Nat) : State :=
  match s.resultBlock d c with
  | none => s
  | some vs =>
    let type := refType d.w0
    let i := d.index c
    let s1 := s.sinkBlock type i vs (if c = 0 then flip else 0)
    if type ≤ 5 ∧ !s.omits (type * 0x10000000 + i) then
      { s1 with tick := { s1.tick with crc := crc32cAdd s1.tick.crc (vs.flatMap (fun w => leBytes 4 w.toNat)) } }
    else s1
/-- Will a descriptor never run in this tick: its core overran, or Marver stopped late (R25, R161)? -/
def State.scatterLost (s : State) (d : Desc) : Bool :=
  if d.origin = 1 then s.marv.late else decide (s.fld (R.IATC_CORE_STAT_STATE d.core) = 4)
/-- May a descriptor run: its core has executed TEND in this tick, or the command list of this tick has ended (R128)? Before the window starts
neither has. (DEDUCED, log 24, unsafe) -/
def State.scatterReady (s : State) (d : Desc) : Bool := s.tick.inWindow && (if d.origin = 1 then s.marv.ended else (s.core d.core).done)
/-- The chain slots of a descriptor that never runs in this tick carry their last samples (R25, R30). The other outputs are held at the tick's end. -/
def State.scatterHeld (s : State) (d : Desc) : State :=
  if refType d.w0 = 2 ∧ s.counted then
    (List.range d.count).foldl (fun st c => st.chainScatter (d.index c) (List.replicate s.nsmp (s.heldSample (heldKey 1 2 (d.index c))))) s
  else s
/-- The next scatter descriptor runs, or is passed over with its outputs held-last. -/
def State.scatterDesc (s : State) (d : Desc) (flip : Nat) : State :=
  let next (t : State) : State := { t with bind := { t.bind with scatterAt := t.bind.scatterAt + 1 } }
  if s.scatterLost d then (next (s.scatterHeld d)).setBit R.BIND_STATUS_BUSY (!(next s).binderIdle)
  else if s.scatterReady d then (next ((List.range d.count).foldl (fun st c => st.scatterChan d flip c) s)).descSpent d
  else s
/-- SCATTER: the next descriptor of the list. (DEDUCED, log 34, unsafe) -/
def State.scatterRun (s : State) (flip : Nat) : State :=
  match s.bind.scatter[s.bind.scatterAt]? with
  | none => s
  | some d => if s.computes then s.scatterDesc d flip else s
/-- Descriptors that could still have run when the trailing guard ended (R26). -/
def State.binderLate (s : State) : Bool :=
  decide (s.bind.gatherAt < s.bind.gather.length) || (s.bind.scatter.drop s.bind.scatterAt).any (fun d => !s.scatterLost d)
/-- The digest of the tick closes: CRC-32C over what was scattered (R108). -/
def State.digestEnd (s : State) : State :=
  let live := decide (s.fld R.PAIR_SETTLE_LEFT = 0) && !s.pair.recording
  { s with tick := { s.tick with closed := true, past := ((s.tick.num, crc32cOut s.tick.crc, live) :: s.tick.past).take 4 } }
/-- The digest of a closed tick, when the pair unit may compare it. -/
def State.digestFor (s : State) (k : Nat) : Option Nat := (s.tick.past.find? (fun e => decide (e.1 = k) && e.2.2)).map (fun e => e.2.1)
/-- DIGEST_CLOSE, once the scatter of the tick has ended. -/
def State.digestClose (s : State) : State :=
  if s.computes ∧ !s.tick.closed ∧ s.bind.scatter.length ≤ s.bind.scatterAt then s.digestEnd else s

/-- The Binder starts a tick's lists afresh. -/
def State.bindOpen (s : State) : State :=
  let s1 := { s with bind := { s.bind with gatherAt := 0, scatterAt := 0, bound := [], cycles := 0 },
                     tick := { s.tick with closed := false, crc := 0xFFFFFFFF } }
  s1.setBit R.BIND_STATUS_BUSY (!s1.binderIdle)
/-- The FABRIC cycles of the ended tick's lists (R123). -/
def State.bindCycles (s : State) : State :=
  let c := Nat.min s.bind.cycles 0x1FFFF
  let s1 := s.setFld R.BIND_CYC_LAST c
  if s1.fld R.BIND_CYC_PEAK < c then s1.setFld R.BIND_CYC_PEAK c else s1

/-! Route tables (R131, R132) -/

/-- Is a commit armed, or the shadow copy running? -/
def State.rtBusy (s : State) : Bool := s.bind.rtAt.isSome || s.bit R.BIND_RT_STATUS_SYNCING
def State.rtCode (s : State) (c : Nat) : State := s.setFld R.BIND_RT_STATUS_CODE c
/-- A commit is refused or discarded: nothing stays armed. -/
def State.rtDrop (s : State) (c : Nat) : State :=
  ({ s with bind := { s.bind with rtAt := none, rtOk := false } }.setFld R.BIND_RT_STATUS_ARMED 0).rtCode c |>.setIrq R.BIND_IRQ_STATUS 1
def State.shadowTable (s : State) (t : Nat) : List Desc :=
  if t = 0 then s.bind.shGather else if t = 1 then s.bind.shScatter else if t = 2 then s.bind.shLatency else s.bind.shRings
def State.setShadowTable (s : State) (t : Nat) (l : List Desc) : State :=
  if t = 0 then { s with bind := { s.bind with shGather := l } }
  else if t = 1 then { s with bind := { s.bind with shScatter := l } }
  else if t = 2 then { s with bind := { s.bind with shLatency := l } }
  else { s with bind := { s.bind with shRings := l } }
/-- Most entries of a shadow table. -/
def tableLimit (t : Nat) : Nat := if t ≤ 1 then 8192 else if t = 2 then 65535 else 64
/-- A table command while no image runs, or while the tables are busy, is ignored. -/
def State.rtEdit (s : State) (f : State → State) : State :=
  if s.image.isNone then s else if s.rtBusy then s.rtCode 0x44 else f s
/-- WRITE: RT_DATA0–3 to entry RT_INDEX of the shadow table. -/
def State.rtWrite (s : State) (t : Nat) : State :=
  s.rtEdit (fun st =>
    let i := st.fld R.BIND_RT_INDEX
    if (st.shadowTable t).length ≤ i then st.rtCode 0x46
    else st.setShadowTable t ((st.shadowTable t).set i
      ⟨st.fld (R.BIND_RT_DATA 0), st.fld (R.BIND_RT_DATA 1), st.fld (R.BIND_RT_DATA 2), st.fld (R.BIND_RT_DATA 3)⟩))
/-- SETLEN: the shadow table takes length RT_INDEX; added entries are all zero. -/
def State.rtSetlen (s : State) (t : Nat) : State :=
  s.rtEdit (fun st =>
    let n := st.fld R.BIND_RT_INDEX
    let l := st.shadowTable t
    if tableLimit t < n then st.rtCode 0x46
    else st.setShadowTable t (l.take n ++ List.replicate (n - l.length) ⟨0, 0, 0, 0⟩))
/-- REVERT: the shadow table takes the active one; ring changes have no active entries. -/
def State.rtRevert (s : State) (t : Nat) : State :=
  s.rtEdit (fun st => st.setShadowTable t
    (if t = 0 then st.bind.gather else if t = 1 then st.bind.scatter else if t = 2 then st.bind.latency else []))
/-- CANCEL: an armed commit is disarmed before boundary n−1 (R146); later it is ignored with RT_BUSY (R132). -/
def State.rtCancel (s : State) : State :=
  match s.bind.rtAt with
  | some n =>
    if s.tick.num + 1 < n then
      ({ s with bind := { s.bind with rtAt := none, rtOk := false } }.setFld R.BIND_RT_STATUS_ARMED 0).rtCode 0x23
    else s.rtCode 0x44
  | none => if s.image.isSome ∧ s.bit R.BIND_RT_STATUS_SYNCING then s.rtCode 0x44 else s
/-- A write of RT_AT_HI: the commit is armed for n and its check starts, or it is refused; of two codes that apply, RT_BUSY before LATE.
 -/
def State.rtAtArm (s : State) (hi : Nat) : State :=
  let s1 := s.setFld R.BIND_RT_AT_HI hi
  let n := s1.reg64 R.BIND_RT_AT_LO R.BIND_RT_AT_HI
  if s1.image.isNone then (s1.rtCode 0x41).setIrq R.BIND_IRQ_STATUS 1
  else if s1.rtBusy then (s1.rtCode 0x44).setIrq R.BIND_IRQ_STATUS 1
  else if n < s1.tick.num + 2 then (s1.rtCode 0x20).setIrq R.BIND_IRQ_STATUS 1
  else ({ s1 with bind := { s1.bind with rtAt := some n, rtOk := false } }.setFld R.BIND_RT_STATUS_ARMED 1).rtCode 1
/-- The check of the shadow ends. -/
def State.routeChecked (s : State) : State :=
  match s.bind.rtAt, s.image with
  | some _, some i =>
    if s.bind.rtOk then s
    else match routeCheck i s.bind.shGather s.bind.shScatter s.bind.shRings with
      | none => { s with bind := { s.bind with rtOk := true } }
      | some (code, t, e) => ((s.rtDrop code).setFld R.BIND_RT_ERR_TABLE t).setFld R.BIND_RT_ERR_INDEX e
  | _, _ => s
/-- The lists in force as the registers count them. -/
def State.showLists (s : State) : State :=
  ((s.setFld R.BIND_RT_LEN_GATHER s.bind.gather.length).setFld R.BIND_RT_LEN_SCATTER s.bind.scatter.length).setFld R.IMG_LAT_COUNT
    s.bind.latency.length
/-- A ring change of a commit; `BIND.DRING` shows a length that it set (Table 5-6). -/
def State.ringChange (s : State) (d : Desc) : State :=
  let s1 := s.ringSetLen d.w0 (bits d.w1 23 0) (bitOf d.w1 31)
  if (s1.ring d.w0).len = bits d.w1 23 0 then s1.showRing d.w0 (dringWord (bits d.w1 23 0) (bitOf d.w1 31)) else s1
/-- The commit lands: ring changes, the banks swap, the latency table is replaced; the shadow copy starts (R131). -/
def State.rtFire (s : State) : State :=
  let s1 := s.bind.shRings.foldl (fun st d => st.ringChange d) s
  let b := s1.bind
  let s2 := { s1 with bind := { b with gather := b.shGather, scatter := b.shScatter, latency := b.shLatency, shGather := b.gather,
                                       shScatter := b.scatter, shLatency := b.latency, rtAt := none, rtOk := false } }
  (((s2.setFld R.BIND_RT_STATUS_ARMED 0).setFld R.BIND_RT_STATUS_SYNCING 1).rtCode 2).setIrq R.BIND_IRQ_STATUS 0 |>.showLists
/-- A commit at boundary t: LATE when its check has not finished by boundary n−1, fired at the first boundary at or after n (R19). (DEDUCED, log 34, unsafe) -/
def State.rtBoundary (s : State) (t : Nat) : State :=
  match s.bind.rtAt with
  | none => s
  | some n =>
    if !s.bind.rtOk ∧ n ≤ t + 1 then s.rtDrop 0x20
    else if s.bind.rtOk ∧ n ≤ t then s.rtFire
    else s
/-- The copy into the shadow ends; the ring-change list is empty. -/
def State.shadowSynced (s : State) : State :=
  if s.bit R.BIND_RT_STATUS_SYNCING then
    { s with bind := { s.bind with shGather := s.bind.gather, shScatter := s.bind.scatter, shLatency := s.bind.latency, shRings := [] } }.setFld
      R.BIND_RT_STATUS_SYNCING 0
  else s
/-- The lists of a new image come into force, its shadow equal to them (R131). -/
def State.bindSwitch (s : State) (i : Image) (slot : Nat) : State :=
  let s1 := { s with bind := { s.bind with gather := i.gather, scatter := i.scatter, latency := i.latency, shGather := i.gather,
                                           shScatter := i.scatter, shLatency := i.latency, shRings := [] } }
  ((((s1.setFld R.BIND_STATUS_BANK slot).setFld R.BIND_DECL i.bindDecl).setFld R.BIND_SHEAVES (sheavesOf i.has i.gather).length).setFld
    R.BIND_RT_STATUS_SYNCING 0).showLists

end Sys2Proof.Machine
end

