-- ==== Sys2Proof/Machine/Img.lean ====
section
/-!
DEFINITION. The image loader (R102–R112): operating points, the slots, and the checks of Table 4-4 beyond FORMAT and CRC.
-/

namespace Sys2Proof.Machine

/-! Operating points (Table 4-5) -/

/-- Entry p of a list of eight. -/
def opEntry (l : List Nat) (p : Nat) : Nat := (l[p]?).getD 0
/-- Core supply in mV. -/
def opSupply : Nat → Nat := opEntry [620, 650, 680, 700, 730, 750, 770, 800]
/-- Core cycles per tick. -/
def opCycles : Nat → Nat := opEntry [50000, 58333, 66667, 75000, 83333, 87500, 91667, 100000]
def opWinStart : Nat → Nat := opEntry [2000, 2333, 2667, 3000, 3333, 3500, 3667, 4000]
def opWinEnd : Nat → Nat := opEntry [48000, 56000, 64000, 72000, 80000, 84000, 88000, 96000]
/-- Core budget of a point, alone or in pair mode (R24). -/
def opBudget (pairMode : Bool) (p : Nat) : Nat :=
  if pairMode then opEntry [34500, 40250, 45999, 51750, 57500, 60375, 63249, 69000] p
  else opEntry [46000, 53667, 61333, 69000, 76667, 80500, 84333, 92000] p
def State.pairMode (s : State) : Bool := s.bit R.TICK_STATUS_PAIR_RESERVE
/-- Budgets of Marver and of the Binder (R110). -/
def marvBudget (pairMode : Bool) : Nat := if pairMode then 69000 else 92000
def bindBudget (pairMode : Bool) : Nat := if pairMode then 48000 else 64000
/-- The window registers of the running point (R112). -/
def State.showOp (s : State) : State :=
  let p := s.fld R.IMG_OP_CUR
  ((s.setFld R.TICK_WIN_START (opWinStart p)).setFld R.TICK_WIN_END (opWinEnd p)).setFld R.TICK_BUDGET (opBudget s.pairMode p)
/-- The point that an image runs at (R111). -/
def State.opFor (s : State) (declMax : Nat) : Nat :=
  let top := s.fld R.IMG_CTRL_OP_MAX
  if s.bit R.IMG_CTRL_AUTO_OP then
    ((List.range (top + 1)).find? (fun p => decide (105 * declMax ≤ 100 * opBudget s.pairMode p))).getD top
  else top

/-! Slots (R102, R103) -/

/-- 0 EMPTY, 1 LOADING, 2 READY, 3 RUNNING. -/
def State.slotState (s : State) (slot : Nat) : Nat := if slot = 0 then s.fld R.IMG_STATUS_A_STATE else s.fld R.IMG_STATUS_B_STATE
def State.setSlotState (s : State) (slot v : Nat) : State :=
  if slot = 0 then s.setFld R.IMG_STATUS_A_STATE v else s.setFld R.IMG_STATUS_B_STATE v
def State.setSlotImage (s : State) (slot : Nat) (i : Option Image) : State :=
  if slot = 0 then { s with img := { s.img with slotA := i } } else { s with img := { s.img with slotB := i } }
/-- A slot becomes EMPTY. -/
def State.slotEmpty (s : State) (slot : Nat) : State := (s.setSlotImage slot none).setSlotState slot 0
/-- The slots of an image placed in `slot`: both of them when it is FULL. -/
def slotsFor (placement slot : Nat) : List Nat := if placement = 2 then [0, 1] else [slot]
/-- The slots that the image in a slot occupies. -/
def State.slotsHeld (s : State) (slot : Nat) : List Nat :=
  match s.slotImage slot with
  | some i => slotsFor i.placement slot
  | none => [slot]
/-- Is a slot that of the image before the last switch, whose transmit maps still run (R114)? It shows READY until T+2, since one slot at most is RUNNING
(R103), and can be neither loaded nor switched to. (DEDUCED, log 31, unsafe) -/
def State.slotLeaving (s : State) (slot : Nat) : Bool := s.img.oldSlot == some slot
/-- Does a slot hold a READY image? -/
def State.slotReady (s : State) (slot : Nat) : Bool := decide (s.slotState slot = 2) && !s.slotLeaving slot
/-- The READY slot that a switch takes: with both READY, the one loaded last. (DEDUCED, log 31, unsafe) -/
def State.readySlot (s : State) : Option Nat :=
  let a := s.slotReady 0
  let b := s.slotReady 1
  if a && b then some s.img.lastLoad else if a then some 0 else if b then some 1 else none
/-- The image of the READY slot. -/
def State.readyImage (s : State) : Option Image := match s.readySlot with | some sl => s.slotImage sl | none => none
/-- The READY slot whose image has an epoch. -/
def State.readyWith (s : State) (epoch : Nat) : Option Nat :=
  [0, 1].find? (fun sl => s.slotReady sl && (match s.slotImage sl with | some i => decide (i.epoch = epoch) | none => false))
/-- `IMG.OP.NEXT` shows the point for the READY image. -/
def State.showNext (s : State) : State :=
  match s.readyImage with
  | some i => s.setFld R.IMG_OP_NEXT (s.opFor i.declMax)
  | none => s
def State.imgCode (s : State) (code : Nat) : State := s.setFld R.IMG_STATUS_CODE code
/-- A load or a switch is refused or withdrawn (`IMG.IRQ_STATUS.REFUSED`), and the FCU hears of it. -/
def State.imgRefuse (s : State) (code kind : Nat) : State := ((s.imgCode code).setIrq R.IMG_IRQ_STATUS 1).fcu' 2 kind code
/-- BUSY: a load or a patch check runs. -/
def State.showImgBusy (s : State) : State := s.setBit R.IMG_STATUS_BUSY (s.img.loading.isSome || (s.img.patch.isSome && !s.img.checked))
/-- The slot of an armed switch that boundary T−1 has not passed. -/
def State.armedTo (s : State) (slot : Nat) : Bool :=
  match s.img.armed with
  | some (sl, _) => (s.slotsHeld sl).contains slot
  | none => false

/-- Is a slot loading, running, leaving, or that of an armed switch? -/
def State.slotBusy (s : State) (slot : Nat) : Bool :=
  decide (s.slotState slot = 1) || decide (s.slotState slot = 3) || s.slotLeaving slot || s.armedTo slot
/-- Address of the image that a LOAD names. -/
def State.imgSrc (s : State) : Nat := s.fld R.IMG_SRC_LO + s.fld R.IMG_SRC_HI * 0x100000000
/-- The slots that a LOAD takes: both for an image whose header says FULL, where neither is in use (R103). -/
def State.loadSlots (s : State) (slot : Nat) : List Nat :=
  if s.byte (s.imgSrc + 0x21) = 2 ∧ !s.slotBusy 0 ∧ !s.slotBusy 1 then [0, 1] else [slot]
/-- CMD = LOAD: the slot starts LOADING, both slots for a FULL image, or the command is refused with BUSY. -/
def State.imgLoad (s : State) (slot : Nat) : State :=
  if s.img.loading.isSome ∨ s.slotBusy slot then s.imgRefuse 0x02 2
  else
    let took := s.loadSlots slot
    let s1 := (s.slotsHeld slot ++ took).foldl (fun t sl => t.slotEmpty sl) s
    let s2 := { s1 with img := { s1.img with loading := some (slot, s.imgSrc, s.fld R.IMG_SRC_LEN) } }
    (took.foldl (fun t sl => t.setSlotState sl 1) s2).showImgBusy

/-! Checks 0x13–0x1A (Table 4-4) -/

/-- A refusal at a header field. -/
def hdrRefuse (code off : Nat) : Option Bad := some ⟨code, 0xFFF, off⟩
/-- A refusal in the first section of a type. -/
def sectRefuse (ss : List Sect) (code type off : Nat) : Option Bad :=
  match sectsOf ss type with
  | x :: _ => some ⟨code, x.idx, off⟩
  | [] => some ⟨code, 0xFFF, 0⟩
/-- P memory of a placement: first address and the one after the last (Table 4-1). -/
def pHalf (placement : Nat) : Nat × Nat := if placement = 0 then (0, 0x2000) else if placement = 1 then (0x2000, 0x4000) else (0, 0x4000)
/-- Does a CORE_P, CORE_X or CORE_Y section stay inside the slot's half? -/
def sectInHalf (l : List Byte) (placement : Nat) (x : Sect) : Bool :=
  let a := leAt (bodyOf l x) 0 4
  if x.type = 2 then decide ((pHalf placement).1 ≤ a) && decide (a + (x.len - 4) / 8 ≤ (pHalf placement).2)
  else if x.type = 3 ∨ x.type = 4 then decide ((xyHalf placement).1 ≤ a) && decide (a + (x.len - 4) / 4 ≤ (xyHalf placement).2 + 1)
  else true
/-- PLACEMENT: the slot, sections, carry ranges and windows in the half, and FULL only while nothing runs. (DEDUCED, log 30, unsafe) -/
def State.placementBad (s : State) (l : List Byte) (ss : List Sect) (i : Image) (slot : Nat) : Option Bad :=
  let (lo, hi) := xyHalf i.placement
  let x := i.ctx
  let window (type : Nat) (e : Option Nat) : Option Bad := match e with | some k => sectRefuse ss 0x14 type (4 + 16 * k) | none => none
  firstOf [need (decide (i.placement = 2) || decide (i.placement = slot)) (hdrRefuse 0x14 0x21),
    need (decide (i.placement ≠ 2) || (!s.bit R.TICK_CTRL_RUN && s.img.running.isNone)) (hdrRefuse 0x14 0x21),
    (ss.find? (fun y => !sectInHalf l i.placement y)).map (fun y => ⟨0x14, y.idx, 0⟩),
    (match i.carry.zipIdx.find? (fun c => !(decide (lo ≤ c.1.newBase) && decide (c.1.newBase + c.1.len ≤ hi + 1))) with
      | some c => sectRefuse ss 0x14 0x05 (12 + 12 * c.2)
      | none => none),
    window 0x10 (firstBad (x.windowOk true) i.gather), window 0x11 (firstBad (x.windowOk false) i.scatter)]
/-- RATE: an image of any rate while none runs. -/
def State.rateBad (s : State) (i : Image) : Option Bad :=
  match s.image with
  | some r => need (decide (r.rate = i.rate)) (hdrRefuse 0x16 0x20)
  | none => none
/-- Do an image's declarations keep the budgets of R110? -/
def Image.budgetOk (i : Image) (pairMode : Bool) (top : Nat) : Bool :=
  decide (i.declMax ≤ opBudget pairMode top) && i.cores.all (fun e => decide (e.2.decl ≤ opBudget pairMode top)) &&
  decide (i.marvDecl ≤ marvBudget pairMode) && decide (i.bindDecl ≤ bindBudget pairMode)
/-- BUDGET: the declarations, and the descriptor costs against BIND_DECL (R110, R129). -/
def State.budgetBad (s : State) (ss : List Sect) (i : Image) : Option Bad :=
  let top := opBudget s.pairMode (s.fld R.IMG_CTRL_OP_MAX)
  let tooMuch (x : Sect) : Bool := x.type == 1 && decide (top < (FMap.get CoreDecl.none i.cores x.target).decl)
  firstOf [need (decide (i.declMax ≤ top)) (hdrRefuse 0x17 0x2C), (ss.find? tooMuch).map (fun x => ⟨0x17, x.idx, 4⟩),
    need (decide (i.marvDecl ≤ marvBudget s.pairMode)) (hdrRefuse 0x17 0x24),
    need (decide (i.bindDecl ≤ bindBudget s.pairMode) && decide (listsCost (samplesOf i.rate) i.rings i.gather i.scatter ≤ i.bindDecl))
      (hdrRefuse 0x17 0x28)]
/-- The section of a core that gives instruction address a: the last one in the table. -/
def pSection (l : List Byte) (ss : List Sect) (core a : Nat) : Option Sect :=
  (coreSects ss 2 core).reverse.find? (fun x => decide (leAt (bodyOf l x) 0 4 ≤ a) && decide (a < leAt (bodyOf l x) 0 4 + (x.len - 4) / 8))
/-- Instruction word a of a core as the load leaves it. -/
def State.loadedWord (s : State) (l : List Byte) (ss : List Sect) (core a : Nat) : IWord :=
  match pSection l ss core a with
  | some x => BitVec.ofNat 48 (leAt l (x.off + 4 + 8 * (a - leAt l x.off 4)) 6)
  | none => s.pWord core a
/-- PROGRAM: every program keeps the rules that the loader checks. -/
def State.programBad (s : State) (l : List Byte) (ss : List Sect) (i : Image) : Option Bad :=
  let (lo, hi) := pHalf i.placement
  firstOf (((List.range 64).filter i.has).map (fun n =>
    let d := FMap.get CoreDecl.none i.cores n
    match checkProgram (s.loadedWord l ss n) lo hi d.entry d.hoppers with
    | none => none
    | some a => match pSection l ss n a, coreSects ss 1 n with
      | some x, _ => some ⟨0x18, x.idx, 4 + 8 * (a - leAt l x.off 4)⟩
      | none, x :: _ => some ⟨0x18, x.idx, 0⟩
      | none, [] => hdrRefuse 0x18 0x30))
/-- Words of the two carry ranges (R72). -/
def CoreDecl.carryWords (d : CoreDecl) : Nat := bits d.carry0 26 16 + bits d.carry1 26 16
/-- The Granary ranges that an image declares, as byte offsets and lengths. -/
def Image.ranges (i : Image) : List (Nat × Nat) := i.cores.flatMap (fun e => e.2.ranges.map (fun r => (4 * r.1, 4 * r.2)))
/-- Does a run of bytes lie wholly in the union of ranges? Fuel: one range each. -/
def covered (rs : List (Nat × Nat)) : Nat → Nat → Nat → Bool
  | 0, a, z => decide (z ≤ a)
  | fuel + 1, a, z =>
    if z ≤ a then true
    else match rs.find? (fun r => decide (r.1 ≤ a) && decide (a < r.1 + r.2)) with
      | some r => covered rs fuel (r.1 + r.2) z
      | none => false
/-- Is a hopper configured for cores and free of the image's serial ports (R106, R180)? (DEDUCED, log 22, unsafe) -/
def State.hopperOk (s : State) (i : Image) (h : Nat) : Bool :=
  s.hopEn h && decide (s.fld (R.HOP_Q_CFG_USE h) = 0) &&
  (decide (32 ≤ h) || (let e := sapEntry i.sap (h / 2); if h % 2 = 0 then decide (e.rxMask = 0) else decide (e.txMask = 0)))
/-- RESOURCE. (DEDUCED, log 30, unsafe) -/
def State.resourceBad (s : State) (l : List Byte) (ss : List Sect) (i : Image) : Option Bad :=
  let declBad' (bad : CoreDecl → Bool) (off : Nat) : Option Bad :=
    (ss.find? (fun x => x.type == 1 && bad (FMap.get CoreDecl.none i.cores x.target))).map (fun x => ⟨0x19, x.idx, off⟩)
  let declAt (bad : CoreDecl → Option Nat) : Option Bad :=
    firstOf ((ss.filter (fun x => x.type == 1)).map (fun x => (bad (FMap.get CoreDecl.none i.cores x.target)).map (fun k => ⟨0x19, x.idx, 0x20 + 8 * k⟩)))
  let run := match s.image with | some r => r.ranges | none => []
  let clash (a n : Nat) : Bool := run.any (fun r => overlap a n r.1 r.2)
  let init (x : Sect) : Nat × Nat := (leAt (bodyOf l x) 0 4, x.len - 4)
  let inits := sectsOf ss 0x42
  let rings := i.rings.zipIdx
  let ringIn (r : RingEnt) : Bool :=
    if inGran r.addr then covered i.ranges (i.ranges.length + 1) (r.addr - granBase) (r.addr - granBase + 4 * r.cap) else true
  let ringClash (p : RingEnt × Nat) : Bool := rings.any (fun q => decide (q.2 < p.2) && overlap p.1.addr (4 * p.1.cap) q.1.addr (4 * q.1.cap))
  let ringBad := (rings.find? (fun p => !ringIn p.1 || ringClash p)).map (fun p => p.2)
  firstOf [declBad' (fun d => decide (1024 < d.carryWords)) 8,
    declBad' (fun d => (List.range 64).any (fun h => bitOf d.hoppers h && !s.hopperOk i h)) 0x10,
    (inits.find? (fun x => decide (0x2000000 < (init x).1 + (init x).2))).map (fun x => ⟨0x19, x.idx, 0⟩),
    (inits.find? (fun x => clash (init x).1 (init x).2)).map (fun x => ⟨0x19, x.idx, 0⟩),
    declAt (fun d => d.ranges.findIdx? (fun r => clash (4 * r.1) (4 * r.2))),
    (match ringBad with | some k => sectRefuse ss 0x19 0x12 (4 + 16 * k) | none => none),
    need (decide (i.patchSize = 0) || decide (i.patchBase + i.patchSize ≤ 0x2000000)) (hdrRefuse 0x19 0x38)]
/-- The checks after SIGNATURE, in the order of Table 4-4. (DEDUCED, log 30, unsafe) -/
def State.loadBad (s : State) (l : List Byte) (ss : List Sect) (i : Image) (slot : Nat) : Option Bad :=
  firstOf [need (decide (leAt l 0x40 4 ≤ s.fld R.GRNG_FW_VER)) (hdrRefuse 0x13 0x40), s.placementBad l ss i slot,
    need (!(bitOf i.flags 0 && !s.hasAmp)) (hdrRefuse 0x15 0x22), s.rateBad i, s.budgetBad ss i, s.programBad l ss i, s.resourceBad l ss i,
    need (!(bitOf i.flags 1 && decide (s.halfState 0 = 2)) && !(bitOf i.flags 2 && decide (s.halfState 1 = 2))) (hdrRefuse 0x1A 0x22),
    need (s.domCan i) (hdrRefuse 0x1A 0x22)]

/-! SIGNATURE -/

/-- Does a signature over bytes verify under a valid key slot? (DEDUCED, log 33, unsafe) -/
def State.keyVerifies (s : State) (k : Nat) (bytes sig : List Byte) : Bool :=
  bitOf (s.fld R.LCS_KEYVALID) k &&
  Config.sigOk ((FMap.get [] s.lcs.keys k).map BitVec.toNat) (bytes.map BitVec.toNat) (sig.map BitVec.toNat)
/-- A failed verification: counted and reported (R413). -/
def State.verifyFailed (s : State) : State := (s.count R.LCS_VERIFY_FAILS 1).fcu' 51 1 0
/-- The SIGNATURE check of an image: required in some states, checked when present in all but BLANK (Table 16-6). (DEDUCED, log 33, unsafe) -/
def State.imgSigned (s : State) (l : List Byte) (ss : List Sect) : Option Bad × State :=
  match sectsOf ss 0x7F with
  | [] => if s.bit R.LCS_SIGREQ_IMG then (hdrRefuse 0x12 0, s) else (none, s)
  | x :: _ =>
    if s.fld R.LCS_STATE_STATE = 0 then (none, s)
    else if (List.range 4).any (fun k => s.keyVerifies k (l.take x.off) (bodyOf l x)) then (none, s)
    else (some ⟨0x12, x.idx, 0⟩, s.verifyFailed)

/-! A load that passes -/

/-- Words of a core section into the core's memory. -/
def State.loadCore (s : State) (l : List Byte) (x : Sect) : State :=
  let a := leAt l x.off 4
  if x.type = 2 then
    (List.range ((x.len - 4) / 8)).foldl (fun t k => t.setPWord x.target (a + k) (BitVec.ofNat 48 (leAt l (x.off + 4 + 8 * k) 6))) s
  else if x.type = 3 ∨ x.type = 4 then
    (List.range ((x.len - 4) / 4)).foldl (fun t k =>
      t.setCoreWord x.target (x.type - 3) (a + k) (BitVec.ofNat 24 (leAt l (x.off + 4 + 4 * k) 3))) s
  else s
/-- Both banks of every group of a slot: the groups that MARV_PAIR provides, and no enabled pair in any other. -/
def State.loadMarv (s : State) (l : List Byte) (ss : List Sect) (slot : Nat) : State :=
  let s1 := { s with mem := s.mem.drop (fun a => (List.range 16).any (fun g => decide (bankAddr g slot 0 ≤ a) && decide (a < bankAddr g slot 0 + 0xB000))) }
  match imgBody l ss 0x21 with
  | none => s1
  | some b => (marvGroups b).foldl (fun t g => [0, 1].foldl (fun u bank =>
      let v := (u.freshRows (bankAddr g.1 slot bank) 0x5800).setBytes (pairAddr g.1 slot bank 0) ((b.drop (g.2 + 4)).take 16384)
      (List.range 2048).foldl (fun w k => w.setLe (tapAddr g.1 slot bank k) 3 (leAt b (g.2 + 4 + 16384 + 4 * k) 4)) v) t) s1
/-- A Granary half that the image names and that is in retention is woken. (DEDUCED, log 31, unsafe) -/
def State.loadWake (s : State) (i : Image) : State :=
  [0, 1].foldl (fun t h => if bitOf i.flags (1 + h) ∧ t.halfState h = 1 then
      (if h = 0 then t.setFld R.GRAN_PWR_A_REQ 0 else t.setFld R.GRAN_PWR_B_REQ 0).setHalfState h 0
    else t) s
/-- The accepted image takes its slot's half of every resource. -/
def State.loadStore (s : State) (l : List Byte) (ss : List Sect) (i : Image) (slot : Nat) : State :=
  let s1 := ss.foldl (fun t x => t.loadCore l x) ((s.domsUp i.domNeeds).loadWake i)
  let s2 := (slotsFor i.placement slot).foldl (fun t sl => t.loadMarv l ss sl) s1
  let s3 := (sectsOf ss 0x42).foldl (fun t x => (t.writeShared 2 (granBase + leAt l x.off 4) ((bodyOf l x).drop 4) 0).2) s2
  let s4 := (slotsFor i.placement slot).foldl (fun t sl => ((t.slotEmpty sl).setSlotImage sl (some i)).setSlotState sl 2) s3
  (({ s4 with img := { s4.img with lastLoad := if i.placement = 2 then 0 else slot } }.imgCode 0x01).setIrq R.IMG_IRQ_STATUS 0).showNext
/-- A refused load leaves the slot EMPTY, both slots where both were LOADING, and shows where. -/
def State.loadRefused (s : State) (slot : Nat) (b : Bad) : State :=
  (((((if s.slotState 0 = 1 ∧ s.slotState 1 = 1 then [0, 1] else [slot]).foldl (fun t sl => t.slotEmpty sl) s)).setFld R.IMG_ERR_INFO_SECTION b.sect).setFld R.IMG_ERR_INFO_OFFSET (b.off / 16)).imgRefuse b.code 2
/-- The checks of a load finish. -/
def State.loadComplete (s : State) : State :=
  match s.img.loading with
  | none => s
  | some (slot, a, len) =>
    let s0 := { s with img := { s.img with loading := none } }.showImgBusy
    match (if len = 0 then (none, s0) else s0.readShared 2 a len 0) with
    | (none, s1) => s1.loadRefused slot ⟨0x10, 0xFFF, 0⟩
    | (some l, s1) =>
      match formatBad l len (s1.bit R.PAIR_CTRL_EN) with
      | some b => s1.loadRefused slot b
      | none =>
        let ss := imgSects l
        let i := parseImage l
        match s1.imgSigned l ss with
        | (some b, s2) => s2.loadRefused slot b
        | (none, s2) =>
          match s2.loadBad l ss i slot with
          | some b => s2.loadRefused slot b
          | none => s2.loadStore l ss i slot
/-- CMD = DISCARD: the READY slot becomes EMPTY; a switch to it that has not reached T−1 is disarmed. (DEDUCED, log 31, unsafe) -/
def State.imgDiscard (s : State) : State :=
  match s.readySlot with
  | none => s
  | some sl =>
    if s.armedTo sl ∧ s.img.stage ≠ 0 then s
    else
      let s1 := if s.armedTo sl then
          ((({ s with img := { s.img with armed := none, stage := 0 } }).setFld R.IMG_STATUS_SWITCH_ARMED 0).setFld R.IMG_STATUS_ARMED_BY_FAB 0).imgCode 0x23
        else s
      ((s1.slotsHeld sl).foldl (fun t x => t.slotEmpty x) s1).showNext

end Sys2Proof.Machine
end

