-- ==== Sys2Proof/Machine/Switch.lean ====
section
/-!
DEFINITION. The image switch along Timeline 4-1 (R114–R117), coefficient patches (R118–R120) and their coincidences (R121).
-/

namespace Sys2Proof.Machine

/-! Arming and cancelling -/

/-- The point that the image of a READY slot runs at: `IMG.OP.NEXT`, or the one for the other slot's image. -/
def State.pointOf (s : State) (slot : Nat) : Nat :=
  if s.readySlot = some slot then s.fld R.IMG_OP_NEXT
  else match s.slotImage slot with
    | some i => s.opFor i.declMax
    | none => s.fld R.IMG_OP_CUR
/-- The switch to a READY slot is armed for T; a raised supply is asked for (R114). -/
def State.armSwitch (s : State) (slot t : Nat) (byFab : Bool) : State :=
  let p := s.pointOf slot
  let rises := decide (s.fld R.IMG_OP_CUR < p)
  let s1 := { s with img := { s.img with armed := some (slot, t), stage := 0, supply := !rises, newOp := p } }
  let s2 := (s1.setFld R.IMG_STATUS_SWITCH_ARMED 1).setBit R.IMG_STATUS_ARMED_BY_FAB byFab
  if rises then { s2 with pwr := { s2.pwr with vout := some (opSupply p, true) } } else s2
/-- A write of SWITCH_AT_HI. One that is both late and without a READY slot is LATE; one that arms replaces an armed switch, also past boundary T−1,
after which the receive maps stay as they are until the new T−1. (DEDUCED, log 31, unsafe; DESIGN CHOICE, log 71, unsafe) -/
def State.switchArm (s : State) (hi : Nat) : State :=
  let s1 := s.setFld R.IMG_SWITCH_AT_HI hi
  let t := s1.reg64 R.IMG_SWITCH_AT_LO R.IMG_SWITCH_AT_HI
  if t < s1.tick.num + 2 then s1.imgRefuse 0x20 2
  else match s1.readySlot with
    | none => s1.imgRefuse 0x21 2
    | some sl =>
      if s1.fld R.IMG_OP_CUR < s1.fld R.IMG_OP_NEXT ∧ t < s1.tick.num + 24 then s1.imgRefuse 0x20 2
      else s1.armSwitch sl t false
/-- The armed switch is gone. -/
def State.disarm (s : State) (code : Nat) : State :=
  ((({ s with img := { s.img with armed := none, stage := 0 } }).setFld R.IMG_STATUS_SWITCH_ARMED 0).setFld R.IMG_STATUS_ARMED_BY_FAB 0).imgCode code
/-- CMD = CANCEL_SWITCH: has effect only before boundary T−1. -/
def State.cancelSwitch (s : State) : State := if s.img.armed.isSome ∧ s.img.stage = 0 then s.disarm 0x23 else s

/-! Patches -/

/-- A patch record: its fields and the byte offset of its data. -/
structure PatchRec where
  space : Nat
  core  : Nat
  addr  : Nat
  sheaf : Nat
  count : Nat
  off   : Nat
  deriving DecidableEq, Repr
/-- Data words of a record: an instruction counts as 2. -/
def PatchRec.words (r : PatchRec) : Nat := if r.space = 2 then 2 * r.count else r.count
/-- The records of a buffer up to its end record. None, which PATCH_RANGE refuses, without an end record (R119), and where a record has a reserved field
set, a COUNT out of range or data above 24 bits, for which R119 names no code. Fuel: a record per 8 bytes. (DESIGN CHOICE, log 71, unsafe) -/
def patchScan (l : List Byte) : Nat → Nat → Option (List PatchRec)
  | 0, _ => none
  | fuel + 1, o =>
    if l.length < o + 4 then none
    else
      let w0 := leAt l o 4
      let w1 := leAt l (o + 4) 4
      if bits w0 31 30 = 3 then (if w0 = 0xC0000000 then some [] else none)
      else
        let r : PatchRec := ⟨bits w0 31 30, bits w0 29 24, bits w0 14 0, bits w1 26 16, bits w1 12 0, o + 8⟩
        let sound := decide (bits w0 23 15 = 0) && decide (bits w1 31 27 = 0) && decide (bits w1 15 13 = 0) && decide (1 ≤ r.count) &&
          decide (r.count ≤ if r.space = 2 then 2048 else 4096) && decide (o + 8 + 4 * r.words ≤ l.length) &&
          (List.range r.words).all (fun k => decide (leAt l (o + 8 + 4 * k) 4 < 0x1000000))
        if sound then (patchScan l fuel (o + 8 + 4 * r.words)).map (fun q => r :: q) else none
/-- The bytes of the running image's patch buffer. -/
def State.patchBytes (s : State) : List Byte :=
  match s.image with
  | some i => s.bytes (granBase + i.patchBase) i.patchSize
  | none => []
def State.patchRecs (s : State) : List PatchRec := ((patchScan s.patchBytes (s.patchBytes.length / 4 + 1) 0)).getD []
/-- Does a record keep to a core with a program and the running slot's half? -/
def State.patchInHalf (s : State) (r : PatchRec) : Bool :=
  match s.image with
  | none => false
  | some i =>
    let (lo, hi) := if r.space = 2 then pHalf i.placement else ((xyHalf i.placement).1, (xyHalf i.placement).2 + 1)
    i.has r.core && decide (lo ≤ r.addr) && decide (r.addr + r.count ≤ hi)
/-- Data words of the records that a test picks. -/
def patchWords (l : List PatchRec) (p : PatchRec → Bool) : Nat := ((l.filter p).map PatchRec.words).foldl (· + ·) 0
/-- Sheaf numbers of a patch from `lo` up, ascending. -/
def patchSheaves (l : List PatchRec) (lo : Nat) : List Nat := (List.range 2048).filter (fun n => decide (lo ≤ n) && l.any (fun r => r.sheaf == n))
/-- Is the whole patch written at once (R120)? -/
def patchWhole (l : List PatchRec) : Bool := l.all (fun r => decide (patchWords l (fun q => q.core == r.core) ≤ 4096))
/-- PATCH_STATUS takes a code and no patch is left. -/
def State.patchEnd (s : State) (code : Nat) : State :=
  ({ s with img := { s.img with patch := none, checked := false, stepping := false } }.setFld R.IMG_PATCH_STATUS code).showImgBusy
/-- A patch is done, or discarded (PATCHED). -/
def State.patchOver (s : State) (code : Nat) : State := (s.patchEnd code).setIrq R.IMG_IRQ_STATUS 4
/-- A patch is refused. -/
def State.patchRefuse (s : State) (code : Nat) : State := (s.patchOver code).setIrq R.IMG_IRQ_STATUS 1
/-- A write of PATCH_AT_HI: the patch is armed and its check starts. -/
def State.patchArm (s : State) (hi : Nat) : State :=
  let s1 := s.setFld R.IMG_PATCH_AT_HI hi
  let n := s1.reg64 R.IMG_PATCH_AT_LO R.IMG_PATCH_AT_HI
  if s1.img.patch.isSome then ((s1.setFld R.IMG_PATCH_STATUS 0x33).setIrq R.IMG_IRQ_STATUS 4).setIrq R.IMG_IRQ_STATUS 1
  else ({ s1 with img := { s1.img with patch := some n, checked := false, stepping := false } }.setFld R.IMG_PATCH_STATUS 1).showImgBusy
/-- The check of the armed patch ends. (DEDUCED, log 32, unsafe) -/
def State.patchChecked (s : State) : State :=
  match s.img.patch with
  | none => s
  | some n =>
    if s.img.checked then s
    else
      let size := match s.image with | some i => i.patchSize | none => 0
      let base := match s.image with | some i => granBase + i.patchBase | none => granBase
      match (if size = 0 then (none, s) else s.readShared 2 base size 0) with
      | (none, s1) => s1.patchRefuse 0x30
      | (some l, s1) =>
        match patchScan l (l.length / 4 + 1) 0 with
        | none => s1.patchRefuse 0x30
        | some rs =>
          if !rs.all s1.patchInHalf then s1.patchRefuse 0x30
          else if !rs.all (fun r => decide (patchWords rs (fun q => q.core == r.core && q.sheaf == r.sheaf) ≤ 4096)) then s1.patchRefuse 0x31
          else if n ≤ s1.tick.num + 1 then s1.patchRefuse 0x20
          else { s1 with img := { s1.img with checked := true } }.showImgBusy
/-- Write one record into its core's memory. -/
def State.patchWrite (s : State) (l : List Byte) (r : PatchRec) : State :=
  if r.space = 2 then
    (List.range r.count).foldl (fun t k =>
      t.setPWord r.core (r.addr + k) (BitVec.ofNat 48 (leAt l (r.off + 8 * k) 3 + leAt l (r.off + 8 * k + 4) 3 * 0x1000000))) s
  else (List.range r.count).foldl (fun t k => t.setCoreWord r.core r.space (r.addr + k) (BitVec.ofNat 24 (leAt l (r.off + 4 * k) 3))) s
/-- One step: the records of the next sheaf number, on every core. (DEDUCED, log 32, unsafe) -/
def State.patchStep (s : State) : State :=
  let rs := s.patchRecs
  match patchSheaves rs (s.fld R.IMG_PATCH_PROGRESS_NEXT) with
  | [] => s.patchOver 3
  | n :: rest =>
    let s1 := ((rs.filter (fun r => r.sheaf == n)).foldl (fun t r => t.patchWrite s.patchBytes r) s).setIrq R.IMG_IRQ_STATUS 3
    let s2 := s1.setFld R.IMG_PATCH_PROGRESS_LEFT rest.length
    match rest with
    | [] => s2.patchOver 3
    | m :: _ => s2.setFld R.IMG_PATCH_PROGRESS_NEXT m
/-- The armed patch lands: whole, or its first step. (DEDUCED, log 32, unsafe) -/
def State.patchFire (s : State) : State :=
  let rs := s.patchRecs
  if patchWhole rs then (rs.foldl (fun t r => t.patchWrite s.patchBytes r) s).patchOver 3
  else
    let all := patchSheaves rs 0
    let s1 := { s with img := { s.img with stepping := true } }.setFld R.IMG_PATCH_STATUS 2
    ((s1.setFld R.IMG_PATCH_PROGRESS_NEXT (all.headD 0)).setFld R.IMG_PATCH_PROGRESS_LEFT all.length).patchStep
/-- A patch at boundary t. -/
def State.patchBoundary (s : State) (t : Nat) : State :=
  match s.img.patch with
  | none => s
  | some n =>
    if s.img.stepping then s.patchStep
    else if !s.img.checked then (if n ≤ t + 1 then s.patchRefuse 0x20 else s)
    else if n ≤ t then s.patchFire
    else s
/-- CMD = CANCEL_PATCH: an armed patch, or a stepping one before its next step. -/
def State.cancelPatch (s : State) : State := if s.img.patch.isSome then s.patchEnd 0x23 else s

/-! The switch at its boundaries -/

/-- Channels of an image's SILO_MAP (R138). -/
def Image.siloChans (i : Image) : Nat := match i.silo with | some (ns, _) => ns | none => 0
/-- Boundary T−1: receive maps change over. (DEDUCED, log 31, unsafe) -/
def State.switchReceive (s : State) (i : Image) : State :=
  let s1 := (s.sapRxMap i.sap).strmRxMap i.strm
  { s1 with silo := { s1.silo with rpMap := i.siloChans }, chain := { s1.chain with rxMap := i.chain }, img := { s1.img with stage := 1 } }
/-- One entry of the carry map: words from the old half into the new one. -/
def State.carryCopy (s : State) (c : CarryEnt) : State :=
  (List.range c.len).foldl (fun t k => t.setCoreWord c.newCore c.newSpace (c.newBase + k) (s.coreWord c.oldCore c.oldSpace (c.oldBase + k))) s
/-- The carry map of the new image, when the running epoch is the one it names (R115). -/
def State.carry (s : State) (i : Image) : State :=
  let same : Bool := match i.predEpoch, s.image with | some e, some r => decide (r.epoch = e) | _, _ => false
  if same then (i.carry.foldl (fun t c => t.carryCopy c) s).setFld R.IMG_STATUS_CARRY_SKIPPED 0
  else s.setFld R.IMG_STATUS_CARRY_SKIPPED 1
/-- The core registers of the new image (R73). -/
def State.showCores (s : State) (i : Image) : State :=
  let s1 := s.setReg64 R.IATC_ACTIVE_LO R.IATC_ACTIVE_HI i.coreMask
  (List.range 64).foldl (fun t n =>
    let d := FMap.get CoreDecl.none i.cores n
    let part (f g h : Fld) (w : Nat) (u : State) : State := ((u.setFld f (bits w 26 16)).setFld g (bits w 15 15)).setFld h (bits w 14 0)
    let t1 := ((t.setFld (R.IATC_ENTRY n) d.entry).setFld (R.IATC_DECL n) d.decl).setFld (R.IATC_CORE_STAT_STATE n) (if i.has n then 1 else 0)
    part (R.IATC_CARRY1_LEN n) (R.IATC_CARRY1_SPACE n) (R.IATC_CARRY1_BASE n) d.carry1
      (part (R.IATC_CARRY0_LEN n) (R.IATC_CARRY0_SPACE n) (R.IATC_CARRY0_BASE n) d.carry0 t1)) s1
/-- The keys of the channels that an image's lists deliver (R31). (DEDUCED, log 37, unsafe) -/
def Image.heldKeys (i : Image) : List Nat :=
  let keys (dir : Nat) (l : List Desc) : List Nat := l.flatMap (fun d => (List.range d.count).map (fun c => heldKey dir (refType d.w0) (d.index c)))
  keys 0 i.gather ++ keys 1 i.scatter
/-- A channel that is new to the image starts with 0; one that it keeps keeps its value. (DEDUCED, log 37, unsafe) -/
def State.dropHeld (s : State) (i : Image) : State :=
  let keep := i.heldKeys
  { s with held := s.held.filter (fun e => decide (heldKey 2 0 0 ≤ e.1) || keep.contains e.1) }
/-- Indices of the sinks of a TYPE that a scatter list feeds from Marver. -/
def arraySinks (type : Nat) (sc : List Desc) : List Nat :=
  (sc.filter (fun d => decide (d.origin = 1) && decide (refType d.w0 = type))).flatMap (fun d => (List.range d.count).map (fun c => d.index c))
/-- Map entries of T+1: those fed directly are the new image's, array-fed ones still the old image's. -/
def mixedMap {α : Type} (key : α → Nat) (old new : List α) (array : List Nat) : List α :=
  new.filter (fun e => !array.contains (key e)) ++ old.filter (fun e => array.contains (key e))
/-- The chain map of T+1: slots fed from Marver keep their old action, and the spur its old slots where one of them is. -/
def mixedChain (old new : ChainMap) (array : List Nat) : ChainMap :=
  let ring := (array.filter (fun x => decide (x / 4096 = 2))).map (· % 4096)
  let n1 := { new with action := ring.foldl (fun m x => FMap.set 0 m x (FMap.get 0 old.action x)) new.action, ringSlots := if ring.isEmpty then new.ringSlots else Nat.max old.ringSlots new.ringSlots }
  if array.any (fun x => decide (x / 4096 = 0)) then { n1 with spurTx := old.spurTx } else n1
/-- The transmit maps wait for their boundaries: direct paths T+1, array paths T+2 (Timeline 4-1). (DEDUCED, log 31, unsafe) -/
def State.switchTransmit (s : State) (i : Image) (t : Nat) : State :=
  let array (type : Nat) : List Nat := arraySinks type i.scatter
  { s with
    sap := { s.sap with txPend := s.sap.txPend ++ [(t + 2, i.sap)] },
    strm := { s.strm with txPend := s.strm.txPend ++ [(t + 1, mixedMap TxEnt.stream s.strm.txMap i.strm.tx ((array 1).map (· / 64))), (t + 2, i.strm.tx)] },
    chain := { s.chain with txPend := s.chain.txPend ++ [(t + 1, mixedChain s.chain.txMap i.chain (array 2)), (t + 2, i.chain)] },
    amp := { s.amp with txPend := s.amp.txPend ++ [(t + 1, mixedMap AmpMapEnt.chan s.amp.map i.amp (array 4)), (t + 2, i.amp)] } }
/-- The registers that name the running image. -/
def State.showImage (s : State) (i : Image) (t : Nat) : State :=
  ((((s.setReg64 R.IMG_EPOCH_LO R.IMG_EPOCH_HI i.epoch).setReg64 R.IMG_HASH_LO R.IMG_HASH_HI i.hash).setReg64 R.IMG_SWITCHED_LO R.IMG_SWITCHED_HI t).setFld
    R.IMG_SETTLE i.settle).setFld R.TICK_STATUS_RATE i.rate
/-- What a switch at boundary T discards or lets land first: a commit and a patch armed before T land, later ones are discarded (R121, R146). -/
def State.switchDiscards (s : State) (t at' : Nat) : State :=
  let s1 := match s.bind.rtAt with
    | some n => if n < at' then s.rtBoundary t else s.rtDrop 0x45
    | none => s
  match s1.img.patch with
  | none => s1
  | some n =>
    let s2 := if n < at' ∧ !s1.img.stepping then s1.patchBoundary t else s1
    if s2.img.patch.isSome then s2.patchOver 0x32 else s2
/-- Boundary T: the new image comes into force. (DEDUCED, log 31, unsafe) -/
def State.imgSwitch (s : State) (slot at' t : Nat) (i : Image) : State :=
  let newRate := decide (s.img.lastRate ≠ some i.rate)
  let s1 := (s.switchDiscards t at').carry i
  let keep : Bool := match i.predEpoch, s1.image with | some e, some r => decide (r.epoch = e) | _, _ => false
  let s2 := { s1 with marv := { s1.marv with keep := keep } }
  let s3 := ((((s2.setFld R.IMG_OP_CUR s2.img.newOp).showOp.showCores i).showImage i t).bindSwitch i slot).ringSwitch i.rings (samplesOf i.rate)
  let s4 := ((s3.siloMap i.silo i.rate newRate).dropHeld i).switchTransmit i t
  let s5 := if newRate then s4.marvZero.setFld R.MARV_HIST_WPTR 0 else s4
  let s6 := { s5 with img := { s5.img with oldSlot := s5.img.running, running := some slot, armed := none, stage := 0, post := 1, lastRate := some i.rate,
                                           fell := decide (s5.img.newOp < s.fld R.IMG_OP_CUR) } }
  let s6' := match s6.img.oldSlot with | some sl => s6.setSlotState sl 2 | none => s6
  let s7 := (slotsFor i.placement slot).foldl (fun u sl => u.setSlotState sl 3) s6'
  ((s7.setFld R.IMG_STATUS_SWITCH_ARMED 0).imgCode 0x24).setIrq R.IMG_IRQ_STATUS 2
/-- Boundary T+1: Marver's list and banks change over. -/
def State.switchMarv (s : State) : State :=
  match s.image with
  | some i =>
    let s1 := (s.marvSwitch i.marv (s.img.running.getD 0)).setFld R.MARV_DECL i.marvDecl
    { s1 with img := { s1.img with post := 2 } }
  | none => s
/-- Boundary T+2: the old slot becomes EMPTY, and the supply follows a point that fell. (DEDUCED, log 31, unsafe) -/
def State.switchEnd (s : State) : State :=
  let s1 := match s.img.oldSlot with | some sl => s.slotEmpty sl | none => s
  let s2 := if s1.img.fell then { s1 with pwr := { s1.pwr with vout := some (opSupply (s1.fld R.IMG_OP_CUR), false) } } else s1
  { s2 with img := { s2.img with oldSlot := none, post := 0, fell := false } }
/-- The loader at boundary t: the stages of a switch that are due. A switch whose supply is not confirmed is withdrawn with OP_FAIL. (DEDUCED, log 31, unsafe) -/
def State.imgBoundary (s : State) (t : Nat) : State :=
  let s0 := if s.img.post = 2 then s.switchEnd else if s.img.post = 1 then s.switchMarv else s
  match s0.img.armed with
  | none => s0
  | some (sl, at') =>
    match s0.slotImage sl with
    | none => s0
    | some i =>
      let s1 := if s0.img.stage = 0 ∧ at' ≤ t + 1 then
          (if s0.img.supply then s0.switchReceive i else (s0.disarm 0).imgRefuse 0x22 1)
        else s0
      if s1.img.stage = 1 ∧ s1.img.armed.isSome ∧ at' ≤ t then s1.imgSwitch sl at' t i else s1

end Sys2Proof.Machine
end

