-- ==== Sys2Proof/Machine/Pwr.lean ====
section
/-!
DEFINITION. Feeds and their switch-over (R419–R422), domain requests (R424), the core supply over PMBus (R425), standby and wake (R426).
-/

namespace Sys2Proof.Machine

def State.pwrIrq (s : State) (k : Nat) : State := s.setIrq R.PWR_IRQ_STATUS k

/-! Feeds -/

/-- The engine wakes from standby on event k: the domains and Granary states return, and STANDBY clears. -/
def State.wake (s : State) (k : Nat) : State :=
  if s.bit R.PWR_STATUS_STANDBY ∧ (k = 5 ∨ bitOf (s.fld R.PWR_WAKE_EN) k) then
    let s1 := (s.setFld R.PWR_WAKE_STATUS (s.fld R.PWR_WAKE_STATUS ||| 2 ^ k)).pwrIrq 3
    let s2 := ((s1.setFld R.PWR_STATUS_STANDBY 0).domsUp s.pwr.savedDom).setHalfState 0 s.pwr.savedA
    s2.setHalfState 1 s.pwr.savedB
  else s
/-- A received frame; in standby one that matches a wake pattern wakes the engine (R216, R426). -/
def State.frameIn (s : State) (n : Nat) (l : List Byte) (pcsErr : Bool) : State :=
  let wakes := s.bit R.PWR_STATUS_STANDBY && !(s.wakeHits n l).isEmpty
  let s1 := s.netReceive n l pcsErr
  if wakes then s1.wake (if n = 0 then 0 else 1) else s1
/-- A feed's sense pin crosses its threshold (R419). -/
def State.feedCompare (s : State) (backup : Bool) (mv : Nat) : State :=
  let f := if backup then R.PWR_STATUS_BACK_OK else R.PWR_STATUS_MAIN_OK
  let th := s.fld R.PWR_VIN_CFG_THRESH
  if th < mv then (if backup ∨ s.bit f then s.setFld f 1 else (s.setFld f 1).wake 5)
  else if mv < th - s.fld R.PWR_VIN_CFG_HYST then s.setFld f 0
  else s
/-- A switch to feed `t` (0 main, 1 backup) begins: the first of the two pin changes. -/
def State.feedStart (s : State) (t : Nat) : State :=
  let s1 := { s with pwr := { s.pwr with incoming := some t } }.setFld R.PWR_STATUS_FEED 2
  let on := s.bit R.PWR_CTRL_MBB
  if (t = 0) = on then { s1 with pins := { s1.pins with pselMain := on } } else { s1 with pins := { s1.pins with pselBack := on } }
/-- FORCE selects a feed. -/
def State.feedForced (s : State) : State :=
  let f := s.fld R.PWR_CTRL_FORCE
  let now := s.fld R.PWR_STATUS_FEED
  if f = 1 ∧ now = 1 then s.feedStart 0 else if f = 2 ∧ now = 0 then s.feedStart 1 else s
/-- SWITCH_DELAY_EXPIRY. -/
def State.switchDelay (s : State) : State :=
  if s.fld R.PWR_CTRL_FORCE = 0 ∧ s.fld R.PWR_STATUS_FEED = 0 ∧ !s.bit R.PWR_STATUS_MAIN_OK ∧ s.bit R.PWR_STATUS_BACK_OK then s.feedStart 1 else s
/-- RETURN_DELAY_EXPIRY. -/
def State.returnDelay (s : State) : State :=
  if s.fld R.PWR_CTRL_FORCE = 0 ∧ s.fld R.PWR_STATUS_FEED = 1 ∧ s.bit R.PWR_STATUS_MAIN_OK then s.feedStart 0 else s
/-- The second pin change: the switch is complete. -/
def State.feedPin (s : State) : State :=
  match s.pwr.incoming with
  | none => s
  | some t =>
    let s1 := { s with pwr := { s.pwr with incoming := none, forceNext := false },
                       pins := { s.pins with pselMain := decide (t = 0), pselBack := decide (t ≠ 0) } }.setFld R.PWR_STATUS_FEED t
    let s2 := ((s1.count (if t = 0 then R.PWR_FEED_CNT_TO_MAIN else R.PWR_FEED_CNT_TO_BACKUP) 1).pwrIrq 0).fcu' 53 (if t = 0 then 2 else 1) 0
    if s.pwr.forceNext then s2.feedForced else s2
/-- A write of `PWR.CTRL.FORCE`; during a switch it applies after it. (DEDUCED, log 64, unsafe) -/
def State.forceWrite (s : State) (f : Nat) : State :=
  let s1 := s.setFld R.PWR_CTRL_FORCE f
  if s.pwr.incoming.isSome then { s1 with pwr := { s1.pwr with forceNext := true } } else s1.feedForced
/-- The on-die AON switch changes its input (R422). -/
def State.aonSwitch (s : State) (back : Bool) : State :=
  if s.bit R.PWR_STATUS_AON_SRC = back then s else (s.setBit R.PWR_STATUS_AON_SRC back).pwrIrq 4

/-! Domains -/

/-- A write of `PWR.DOM_REQ`: with AUTO = 1 it is only kept. -/
def State.domReqWrite (s : State) (v : Nat) : State :=
  if s.bit R.PWR_CTRL_AUTO then s.setFld R.PWR_DOM_REQ (v % 4096 ||| 1) else s.domReqApply (v % 4096)
/-- A write of `PWR.CTRL.AUTO`: the rule of R424 that it selects applies. -/
def State.autoWrite (s : State) (on : Bool) : State :=
  if s.bit R.PWR_CTRL_AUTO = on then s
  else
    let s1 := s.setBit R.PWR_CTRL_AUTO on
    if on then s1.domTurn else s1.domReqApply (s1.fld R.PWR_DOM_REQ)

/-! The core supply -/

/-- The Grange writes VOUT_COMMAND for a change that the loader asked for. -/
def State.voutChange (s : State) : State := if s.pwr.vout.isSome then s.setFld R.PWR_STATUS_PMB_BUSY 1 else s
/-- A READ_VOUT after SETTLE: within TOL of the target it confirms the change. -/
def State.voutConfirm (s : State) (mv : Nat) : State :=
  match s.pwr.vout with
  | none => s
  | some (target, raise) =>
    if s.bit R.PWR_STATUS_PMB_BUSY then
      let s1 := s.setFld R.PWR_PMB_STATUS_VOUT mv
      if target ≤ mv + s.fld R.PWR_PMB_CFG_TOL ∧ mv ≤ target + s.fld R.PWR_PMB_CFG_TOL then
        let s2 := { s1 with pwr := { s1.pwr with vout := none } }.setFld R.PWR_STATUS_PMB_BUSY 0
        if raise ∧ s2.img.armed.isSome then { s2 with img := { s2.img with supply := true } } else s2
      else s1
    else s
/-- A low PMB_ALERT_N; with the pin high, a NACK or a fault bit. -/
def State.pmbAlert (s : State) (low : Bool) : State :=
  (((s.setBit R.PWR_PMB_STATUS_ALERT low).setFld R.PWR_PMB_STATUS_ERR 1).pwrIrq 2).fcu' 53 3 0

/-! Standby -/

/-- No image runs and none waits: both slots are EMPTY. -/
def State.dropImages (s : State) : State :=
  let s1 := { s with img := { ImgSt.reset with lastRate := s.img.lastRate }, bind := BindSt.reset }
  let s2 := ((s1.setSlotState 0 0).setSlotState 1 0).setFld R.IMG_STATUS_SWITCH_ARMED 0
  (({ s2 with chain := { s2.chain with rxMap := ChainMap.empty, txMap := ChainMap.empty, txPend := [] },
              strm := { s2.strm with txPend := [] } }.strmRxMap StrmMap.empty).strmTxMap []).showImgBusy
/-- CMD = STANDBY (R426). (DEDUCED, log 64, unsafe) -/
def State.standbyCmd (s : State) : State :=
  if s.bit R.TICK_CTRL_RUN ∨ s.bit R.PAIR_CTRL_EN then s.pwrIrq 1
  else if s.bit R.PWR_STATUS_STANDBY then s
  else
    let s1 := { s with pwr := { s.pwr with savedDom := s.fld R.PWR_DOM_STATUS_ON, savedA := s.halfState 0, savedB := s.halfState 1 } }
    let s2 := [1, 2, 3, 4, 5, 6, 10, 11].foldl (fun t d => t.domOff d) s1.dropImages
    let s3 := [0, 1].foldl (fun t h => if t.halfState h = 2 then t else t.setHalfState h 1) s2
    let s4 := [1, 2, 3].foldl (fun t n => if t.bit (R.NET_STATUS_LINK n) then t.netLinkDown n false false else t) s3
    s4.setFld R.PWR_STATUS_STANDBY 1
/-- `PWR.WAKE_TIMER` expires. -/
def State.wakeTimer (s : State) : State := if s.fld R.PWR_WAKE_TIMER = 0 then s else s.wake 4

end Sys2Proof.Machine
end

