-- ==== Sys2Proof/Machine/Pair.lean ====
section
/-!
DEFINITION. The pair unit (R278–R303): the claim, heartbeats, states, start-up, takeover, divergence, resync up to the replay, handover.
-/

namespace Sys2Proof.Machine

/-! The claim and the state -/

def State.pairEn (s : State) : Bool := s.bit R.PAIR_CTRL_EN
def State.pairState (s : State) : Nat := s.fld R.PAIR_STATUS_STATE
def State.holdsClaim (s : State) : Bool := s.bit R.PAIR_STATUS_CLAIM_HELD
def State.pairSynced (s : State) : Bool := s.bit R.PAIR_STATUS_SYNCED
def State.pathAUp (s : State) : Bool := s.bit R.PAIR_STATUS_TWIN_UP
def State.pathBUp (s : State) : Bool := s.bit R.PAIR_STATUS_PATHB_UP
/-- Is this the preferred side (R278)? -/
def State.preferred (s : State) : Bool := decide (s.fld R.PAIR_CTRL_PREF = s.fld R.PAIR_STATUS_SIDE)
/-- A message of the pair unit to the FCU: the tick number is its address. -/
def State.pairFault (s : State) (kind : Nat) : State := s.fcu' 30 kind (s.tick.num % 2 ^ 36)
def State.pairIrq (s : State) (k : Nat) : State := s.setIrq R.PAIR_IRQ_STATUS k
def State.cmdStatus (s : State) (c : Nat) : State := s.setFld R.PAIR_CMD_STATUS c
/-- The pair unit changes state; ISOLATED and STANDBY_DEGRADED are reported (R287). -/
def State.setPairState (s : State) (v : Nat) : State :=
  if s.pairState = v then s
  else
    let s1 := ({ s with pair := { s.pair with matched := 0 } }.setFld R.PAIR_STATUS_STATE v).pairIrq 0
    if v = 5 then (s1.pairIrq 6).pairFault 2 else if v = 3 then s1.pairFault 3 else s1
/-- PAIR_CLAIM_N and PAIR_OWN are driven, or released (R279); the claim watchdog counts while the claim is held (R36). -/
def State.claimPins (s : State) (on : Bool) : State :=
  let s1 := { s with pins := { s.pins with claimDrive := on, pairOwn := on } }
  (s1.setBit R.PAIR_STATUS_CLAIM_HELD on).setBit R.TICK_CLAIM_WD_ARMED on
/-- A handover ends without the claim moving. -/
def State.handoverFail (s : State) : State :=
  if s.pair.hand.isSome then
    let s1 := { s with pair := { s.pair with hand := none, acked := false, initiator := false, wtrRetry := if s.pair.initiator then 12000 else s.pair.wtrRetry } }
    if s.pair.initiator then s1.cmdStatus 0x63 else s1
  else s
/-- The claim is released at once: by the claim watchdog, the safe state or the Grange watchdog (R287, R290). -/
def State.claimRelease (s : State) : State :=
  if s.holdsClaim then
    let s1 := ((s.claimPins false).handoverFail).setFld R.PAIR_STATUS_UNSETTLED 0
    let s2 := { s1 with pair := { s1.pair with lineSeen := false, startTicks := 0, relNext := false, handRel := false, sender := false, resyncT := 0 } }
    if s2.pairState = 4 then (s2.setFld R.PAIR_STATUS_SYNCED 0).setPairState 1 else s2
  else s

/-! Resync requests and failures (R294) -/

/-- KiB that the replay buffer needs: the staging area and 8 ticks of gathered blocks (R297). -/
def State.rbufNeed (s : State) : Nat :=
  416 + (8 * 4 * ((s.bind.gather.map (fun d => d.count * s.nsmp)).foldl (· + ·) 0) + 1023) / 1024
def State.rbufOk (s : State) : Bool := decide (s.rbufNeed ≤ s.fld R.PAIR_RBUF_SIZE)
/-- The standby asks for a resync, or waits 12 ticks while the epochs differ. -/
def State.askResync (s : State) : State :=
  let s1 := { s with pair := { s.pair with asked := true, retry := 12 } }
  if s.bit R.PAIR_STATUS_EPOCH_DIFF then s1
  else if !s.rbufOk then s1.cmdStatus 0x62
  else { s1 with pair := { s1.pair with req := 1, reqTick := 0 } }
/-- The standby enters SYNCING and, with AUTO_RESYNC, asks. -/
def State.enterSyncing (s : State) : State :=
  let s1 := (s.setFld R.PAIR_STATUS_SYNCED 0).setPairState 1
  if s1.bit R.PAIR_CTRL_AUTO_RESYNC ∧ s1.pathAUp ∧ !s1.bit R.PAIR_STATUS_RESYNC_STOPPED then s1.askResync else s1
/-- Nothing of a resync is left on the standby. -/
def State.resyncClear (s : State) : State :=
  let p := { s.pair with asked := false, transfer := false, recording := false, replaying := false, loaded := false, buffer := [], staged := [], resyncT := 0 }
  { s with pair := p }.setFld R.PAIR_REPLAY 0 |>.setFld R.PAIR_SETTLE_LEFT 0
/-- A resync is abandoned: RESYNC_FAIL, and after three in a row no automatic request follows. -/
def State.resyncFail (s : State) : State :=
  if s.pair.transfer then
    let s1 := ((s.resyncClear.pairIrq 5).pairFault 6)
    let n := s.pair.fails + 1
    let s2 := { s1 with pair := { s1.pair with fails := n, retry := 12, asked := true, commanded := false } }
    let s3 := if s.pair.commanded then s2.cmdStatus 0x64 else s2
    if 3 ≤ n then s3.setFld R.PAIR_STATUS_RESYNC_STOPPED 1 else s3
  else s

/-! Commands -/

/-- Do the READY and the running image keep the pair-mode budgets (R281)? -/
def State.pairFits (s : State) : Bool :=
  let ok (i : Option Image) : Bool := match i with | some x => x.budgetOk true (s.fld R.IMG_CTRL_OP_MAX) | none => true
  ok s.img.slotA && ok s.img.slotB
/-- A write of PAIR.CTRL.EN. -/
def State.pairEnWrite (s : State) (on : Bool) : State :=
  if s.pairEn = on then s
  else if s.bit R.TICK_CTRL_RUN ∨ (on ∧ !s.pairFits) then s.cmdStatus 0x61
  else
    let s1 := (((s.setBit R.PAIR_CTRL_EN on).setBit R.TICK_STATUS_PAIR_RESERVE on).showOp).showNext
    if on then s1
    else
      let s2 := ({ (s1.claimPins false) with pair := { PairSt.zero with inbox := s1.pair.inbox } }.setPairState 0).netGate (s1.bit R.FCU_STATUS_SAFE)
      [R.PAIR_STATUS_SYNCED, R.PAIR_STATUS_TWIN_UP, R.PAIR_STATUS_PATHB_UP, R.PAIR_STATUS_PARTNER_SEEN, R.PAIR_STATUS_UNSETTLED,
        R.PAIR_STATUS_RESYNC_STOPPED, R.PAIR_STATUS_EPOCH_DIFF, R.PAIR_STATUS_PARTNER_STATE, R.PAIR_SETTLE_LEFT, R.PAIR_REPLAY].foldl
        (fun t f => t.setFld f 0) s2
/-- TICK.CTRL.RUN is set: an engine of a pair starts up (R287). -/
def State.pairRunSet (s : State) : State :=
  if s.pairEn ∧ s.pairState = 0 then
    { s with pair := { s.pair with lineSeen := false, startTicks := 0 } }.setFld R.PAIR_STATUS_SYNCED 0 |>.setPairState 1
  else s
/-- CMD = RESYNC. -/
def State.resyncCmd (s : State) : State :=
  if !s.pairEn ∨ s.holdsClaim ∨ s.pair.transfer ∨ (s.pairState ≠ 1 ∧ s.pairState ≠ 2 ∧ s.pairState ≠ 3) then s.cmdStatus 0x61
  else if !s.pathAUp then s.cmdStatus 0x60
  else if !s.rbufOk then s.cmdStatus 0x62
  else
    let s1 := ((s.setFld R.PAIR_STATUS_RESYNC_STOPPED 0).setFld R.PAIR_STATUS_SYNCED 0).setPairState 1
    ({ s1 with pair := { s1.pair with fails := 0, commanded := true } }.cmdStatus 1).askResync
/-- Has the partner answered as a synced standby? -/
def State.partnerStandby (s : State) : Bool := match s.pair.beat with | some b => decide (b.state = 2) && b.synced | none => false
/-- A handover to tick H is asked for. (DEDUCED, log 46, unsafe) -/
def State.initiate (s : State) (h : Nat) : State :=
  { s with pair := { s.pair with hand := some h, initiator := true, acked := false, req := 3, reqTick := h } }.cmdStatus 1
/-- CMD = SWAP (R300). H leaves one tick for the request and one for the answer before boundary H−2. -/
def State.swapCmd (s : State) : State :=
  if !s.pairEn ∨ s.pairState = 0 then s.cmdStatus 0x61
  else if !s.pathAUp then s.cmdStatus 0x60
  else if !(if s.holdsClaim then s.partnerStandby else decide (s.pairState = 2) && s.pairSynced) ∨ s.pair.hand.isSome ∨ s.pair.transfer ∨ s.pair.sender then
    s.cmdStatus 0x61
  else s.initiate (s.tick.num + 5)
/-- CMD = RELEASE: at the next boundary. -/
def State.releaseCmd (s : State) : State :=
  if s.pairEn ∧ s.pairState = 4 then { s with pair := { s.pair with relNext := true } }.cmdStatus 1 else s.cmdStatus 0x61

/-! Heartbeats (R283–R285) -/

/-- The bytes of a heartbeat that carries the digest of tick k. -/
def State.beatBytes (s : State) (k digest settle : Nat) : List Byte :=
  let b (x : Bool) (v : Nat) : Nat := if x then v else 0
  let flags := s.pairState + 8 * s.fld R.PAIR_STATUS_SIDE + b (s.holdsClaim && !s.pair.handRel) 16 + b s.pairSynced 32 + b s.fenced 64 + b s.pathAUp 128 +
    256 * s.fld R.PAIR_CTRL_PREF
  let body := leBytes 2 0x5648 ++ leBytes 2 (s.fld R.PAIR_ID) ++ leBytes 2 flags ++ leBytes 2 0 ++ leBytes 8 k ++ leBytes 4 digest ++ leBytes 4 settle ++
    leBytes 8 (s.reg64 R.IMG_EPOCH_LO R.IMG_EPOCH_HI) ++ leBytes 1 s.pair.req ++ leBytes 3 0 ++ leBytes 8 s.pair.reqTick
  body ++ leBytes 4 (crc32c body)
/-- Each boundary sends the heartbeat of the ended tick: path A as a TWIN block, path B as a frame on each named port. -/
def State.beatSend (s : State) (k settle : Nat) : State :=
  let digest := match s.tick.past with | (t, d, _) :: _ => if t = k then d else 0 | [] => 0
  let l := s.beatBytes k digest settle
  let s1 := if s.chainUp 0 ∧ s.twinMode then s.chainSend 0 (ctrlBlock 4 l) else s
  let frame := beBytes 2 (s.fld R.PAIR_HB_DST_HI) ++ beBytes 4 (s.fld R.PAIR_HB_DST_LO) ++ beBytes 2 (s.fld R.PAIR_HB_SRC_HI) ++
    beBytes 4 (s.fld R.PAIR_HB_SRC_LO) ++ beBytes 2 0x88B5 ++ l
  let s2 := ((List.range 4).filter (fun n => bitOf (s.fld R.PAIR_HB_CFG_PORTS) n)).foldl (fun t n =>
    (t.unitQueue n (s.fld R.PAIR_HB_CFG_QUEUE) 0 false frame).2) s1
  { s2 with pair := { s2.pair with req := 0, reqTick := 0 } }
/-- A valid heartbeat of the other side (R284). -/
def State.beatParse (s : State) (l : List Byte) : Option Beat :=
  let f := leAt l 4 2
  let k := leAt l 8 8
  if l.length = 48 ∧ leAt l 0x2C 4 = crc32c (l.take 0x2C) ∧ leAt l 0 2 = 0x5648 ∧ leAt l 2 2 = s.fld R.PAIR_ID ∧ bits f 3 3 ≠ s.fld R.PAIR_STATUS_SIDE ∧
      s.tick.num ≤ k + 2 ∧ k + 1 ≤ s.tick.num then
    some { state := bits f 2 0, claim := bitOf f 4, synced := bitOf f 5, fenced := bitOf f 6, twin := bitOf f 7, tick := k, digest := leAt l 0x10 4,
           settle := leAt l 0x14 4, epoch := leAt l 0x18 8, req := leAt l 0x20 1, reqTick := leAt l 0x24 8 }
  else none
/-- A divergence of tick k (R293). -/
def State.diverge (s : State) (k : Nat) : State :=
  let s1 := (((s.pairIrq 1).setReg64 R.PAIR_DIVERGE_T_LO R.PAIR_DIVERGE_T_HI k).countSat R.PAIR_EVT_CNT_DIVERGE 1).pairFault 4 |>.handoverFail
  if s1.holdsClaim then s1
  else
    let s2 := { s1 with pair := { s1.pair with matched := 0 } }.setFld R.PAIR_STATUS_SYNCED 0
    if s2.pair.transfer then s2.resyncFail
    else if s2.pairState = 2 ∧ s2.bit R.PAIR_CTRL_AUTO_RESYNC then s2.enterSyncing
    else s2
/-- A resync is complete: the first compared digest matched. -/
def State.resyncDone (s : State) : State :=
  let s1 := ({ s.resyncClear with pair := { s.resyncClear.pair with fails := 0, commanded := false } }.setFld R.PAIR_STATUS_SYNCED 1).setPairState
    (if s.pathAUp then 2 else 3)
  let s2 := (s1.countSat R.PAIR_EVT_CNT_RESYNC 1).pairIrq 4
  if s.pair.commanded then s2.cmdStatus 2 else s2
/-- The digest comparison (R285): once for a tick; from RESYNC_AT to the end of the replay no tick is compared (Table 11-4). A mismatch after it
abandons the resync. (DEDUCED, log 46, unsafe) -/
def State.beatCompare (s : State) (b : Beat) : State :=
  if b.epoch ≠ s.reg64 R.IMG_EPOCH_LO R.IMG_EPOCH_HI then
    (if s.bit R.PAIR_STATUS_EPOCH_DIFF then s else (s.setFld R.PAIR_STATUS_EPOCH_DIFF 1).diverge b.tick)
  else
    let s0 := s.setFld R.PAIR_STATUS_EPOCH_DIFF 0
    match s0.digestFor b.tick with
    | none => s0
    | some own =>
      if b.settle ≠ 0 ∨ s0.fld R.PAIR_SETTLE_LEFT ≠ 0 ∨ s0.pair.recording ∨ (s0.pair.transfer ∧ !s0.pair.loaded) ∨ b.tick < s0.pair.compared then s0
      else
        let s1 := (({ s0 with pair := { s0.pair with compared := b.tick + 1 } }.setFld R.PAIR_DIGEST_OWN own).setFld R.PAIR_DIGEST_PARTNER b.digest).setFld R.PAIR_DIGEST_TICK b.tick
        if own ≠ b.digest then s1.diverge b.tick
        else if s1.pair.transfer ∧ s1.pairState = 1 then s1.resyncDone
        else if s1.pairState = 3 ∧ !s1.pairSynced then
          let s2 := { s1 with pair := { s1.pair with matched := s1.pair.matched + 1 } }
          if s2.fld R.IMG_SETTLE + 12 ≤ s2.pair.matched then { s2 with pair := { s2.pair with matched := 0 } }.setFld R.PAIR_STATUS_SYNCED 1 else s2
        else s1
/-- The partner's request in a heartbeat. -/
def State.beatRequest (s : State) (b : Beat) : State :=
  if b.req = 1 ∧ s.holdsClaim then
    let s1 := if s.pair.acked then s else s.handoverFail
    if s1.pair.hand.isSome ∨ s1.pair.sender ∨ !s1.rbufOk ∨ b.epoch ≠ s1.reg64 R.IMG_EPOCH_LO R.IMG_EPOCH_HI then
      { s1 with pair := { s1.pair with req := 5, reqTick := 0 } }
    else
      let t := s1.tick.num + 3
      { s1 with pair := { s1.pair with sender := true, resyncT := t, req := 2, reqTick := t } }.setReg64 R.PAIR_RESYNC_T_LO R.PAIR_RESYNC_T_HI t
  else if b.req = 2 ∧ s.pair.asked ∧ !s.pair.transfer ∧ !s.holdsClaim then
    { s with pair := { s.pair with asked := false, transfer := true, resyncT := b.reqTick, staged := [], buffer := [] } }.setReg64
      R.PAIR_RESYNC_T_LO R.PAIR_RESYNC_T_HI b.reqTick
  else if b.req = 5 ∧ s.pair.asked ∧ !s.pair.transfer then
    let s1 := { s with pair := { s.pair with retry := 12, commanded := false } }
    if s.pair.commanded then s1.cmdStatus 0x64 else s1
  else if b.req = 3 ∧ s.pair.hand.isNone ∧ !s.pair.transfer ∧ !s.pair.sender ∧ s.pair.req ≠ 1 ∧ s.tick.num + 2 ≤ b.reqTick ∧
      ((s.holdsClaim ∧ b.state = 2 ∧ b.synced) ∨ (!s.holdsClaim ∧ s.pairState = 2 ∧ s.pairSynced)) then
    { s with pair := { s.pair with hand := some b.reqTick, initiator := false, acked := true, req := 4, reqTick := b.reqTick } }
  else if b.req = 4 ∧ s.pair.initiator ∧ s.pair.hand = some b.reqTick then { s with pair := { s.pair with acked := true } }
  else s
/-- A heartbeat is used: the partner's state and claim, requests over path A, and the comparison. -/
def State.beatUse (s : State) (b : Beat) (pathA : Bool) : State :=
  let s1 := { s with pair := { s.pair with beat := some b, noClaim := if b.claim then 0 else s.pair.noClaim } }.setFld R.PAIR_STATUS_PARTNER_STATE b.state
  let s2 := if s1.pairState = 5 then s1.setPairState s1.pair.back else s1
  let s3 := if s2.pairState = 4 ∧ b.claim ∧ !s2.preferred ∧ !s2.pair.relNext then
      ({ s2 with pair := { s2.pair with relNext := true, lineSeen := false, startTicks := 0 } }.handoverFail.setFld R.PAIR_STATUS_SYNCED 0).setPairState 1
        |>.pairIrq 8 |>.pairFault 5
    else s2
  let s4 := if pathA then s3.beatRequest b else s3
  s4.beatCompare b
/-- HEARTBEAT_RECEIVE: path A delivers the body of a TWIN block; without one, the next path-B heartbeat from Winnow is taken. Where both paths
deliver one for a tick, path A's is used: while path A can deliver, path B's waits for the end of the tick. (DEDUCED, log 46, unsafe) -/
def State.heartbeat (s : State) (twin : Option (List Byte)) : State :=
  match twin with
  | some l =>
    match s.pairEn && s.twinMode && s.chainUp 0, s.beatParse l with
    | true, some b => 
      { s with pair := { s.pair with pathA := { s.pair.pathA with got := true }, usedA := (b.tick :: s.pair.usedA).take 4 } }.beatUse b true
    | _, _ => s
  | none =>
    match s.pair.inbox with
    | [] => s
    | f :: r =>
      let s1 := { s with pair := { s.pair with inbox := r } }
      match s1.pairEn, s1.beatParse ((f.bytes.drop (parseHdr f.bytes).off).take 48) with
      | true, some b =>
        let s2 := { s1 with pair := { s1.pair with pathB := { s1.pair.pathB with got := true } } }
        if s2.pathAUp ∨ (s2.twinMode ∧ s2.chainUp 0) then { s2 with pair := { s2.pair with pendB := s2.pair.pendB ++ [b] } } else s2.beatUse b false
      | _, _ => s1

/-! Paths and the claim line -/

def State.showSeen (s : State) : State := s.setBit R.PAIR_STATUS_PARTNER_SEEN (s.pathAUp || s.pathBUp)
/-- PATH_LOST: 3 ticks without a valid heartbeat. With both paths lost, the next sample of the claim line decides. -/
def State.pathLost (s : State) (pathB : Bool) : State :=
  let lost := s.pairEn && decide (3 ≤ (if pathB then s.pair.pathB else s.pair.pathA).miss)
  if pathB then (if lost && s.pathBUp then (s.setFld R.PAIR_STATUS_PATHB_UP 0).showSeen else s)
  else if lost && s.pathAUp then
    let s1 := ((s.setFld R.PAIR_STATUS_TWIN_UP 0).showSeen.pairIrq 7).setPhaseLock false
    let s2 := s1.resyncFail
    let s3 := if s2.holdsClaim ∨ s2.pair.initiator then s2.handoverFail else s2
    let s4 := { s3 with pair := { s3.pair with sender := false } }
    if s4.pairState = 1 then (s4.setFld R.PAIR_STATUS_SYNCED 0).setPairState 3
    else if s4.pairState = 2 ∧ s4.pathBUp then s4.setPairState 3
    else s4
  else s
/-- Path A is up again (R287). -/
def State.pathARise (s : State) : State :=
  let s1 := (s.setFld R.PAIR_STATUS_TWIN_UP 1).showSeen.pairIrq 7
  if s1.pairState = 3 then
    (if !s1.pairSynced ∧ s1.bit R.PAIR_CTRL_AUTO_RESYNC then s1.enterSyncing else s1.setPairState 2)
  else s1
/-- One path's counts at a boundary. -/
def HbPath.turn (p : HbPath) : HbPath := if p.got then ⟨0, p.good + 1, false⟩ else ⟨p.miss + 1, 0, false⟩
/-- The ended tick's path-B heartbeats that path A did not deliver are used, before the boundary changes anything (R284, R285). -/
def State.beatsTurn (s : State) : State :=
  let late := s.pair.pendB.filter (fun b => !s.pair.usedA.contains b.tick)
  if s.pairEn then late.foldl (fun t b => t.beatUse b false) { s with pair := { s.pair with pendB := [] } } else s
/-- Both paths at a boundary: a missing heartbeat counts, 12 in a row bring the path up. (DEDUCED, log 46, unsafe) -/
def State.pathsTurn (s : State) : State :=
  let a := s.pair.pathA.turn
  let b := s.pair.pathB.turn
  let s1 := { s with pair := { s.pair with pathA := a, pathB := b, noClaim := s.pair.noClaim + 1 } }
  let s2 := if s.pair.pathA.got then s1 else s1.count R.PAIR_HB_MISS_PATH_A 1
  let s3 := if s.pair.pathB.got then s2 else s2.count R.PAIR_HB_MISS_PATH_B 1
  let s4 :=
    if 12 ≤ b.good ∧ !s3.pathBUp then
      let u := (s3.setFld R.PAIR_STATUS_PATHB_UP 1).showSeen
      if u.pairState = 2 ∧ !u.pathAUp ∧ a.good < 12 then u.setPairState 3 else u
    else s3
  if 12 ≤ a.good ∧ !s4.pathAUp then s4.pathARise else s4
/-- Start-up (R288). -/
def State.startUp (s : State) (low : Bool) : State :=
  if !low ∧ 3 ≤ s.pair.noClaim then
    let s1 := { s with pair := { s.pair with startTicks := s.pair.startTicks + 1 } }
    if s1.preferred ∨ s1.fld R.PAIR_CTRL_START_WAIT ≤ s1.pair.startTicks then { s1 with pair := { s1.pair with claimNext := true, takeover := false } } else s1
  else
    let s1 := { s with pair := { s.pair with startTicks := 0 } }
    if !low ∧ 3 ≤ s.pair.noClaim then s1
    else if !s1.pathAUp then (s1.setFld R.PAIR_STATUS_SYNCED 0).setPairState 3
    else if s1.bit R.PAIR_CTRL_AUTO_RESYNC ∧ !s1.pair.asked ∧ !s1.bit R.PAIR_STATUS_RESYNC_STOPPED then s1.askResync
    else s1
/-- CLAIM_SAMPLE: the line 1 µs after the boundary. -/
def State.claimSample (s : State) (low : Bool) : State :=
  let s1 := { (s.setBit R.PAIR_STATUS_CLAIM_LINE low) with pair := { s.pair with lineSeen := s.pair.lineSeen || low } }
  let st := s1.pairState
  if !s1.pairEn ∨ st = 0 ∨ s1.holdsClaim ∨ s1.pair.claimNext then s1
  else if st = 1 ∧ !s1.pair.transfer ∧ (low ∨ !s1.pair.lineSeen) then s1.startUp low
  else if !low ∧ st ≠ 4 ∧ s1.pair.relTick ≠ s1.tick.num + 1 then
    { s1.handoverFail with pair := { s1.handoverFail.pair with claimNext := true, takeover := true } }
  else if low ∧ (st = 2 ∨ st = 3) ∧ !s1.pathAUp ∧ !s1.pathBUp then { s1 with pair := { s1.pair with back := st } }.setPairState 5
  else s1

/-! Claims at a boundary -/

/-- The claim is taken at boundary t: at start-up, or as a takeover, which abandons a resync (R288, R289, R294). (DEDUCED, log 46, unsafe) -/
def State.claimTake (s : State) (t : Nat) : State :=
  let s0 := { s with pair := { s.pair with claimNext := false, takeover := false } }
  if s.bit R.FCU_STATUS_SAFE ∨ s.holdsClaim ∨ s.pairState = 0 then s0
  else
    let s1 := (if s0.pair.transfer ∨ s0.pair.asked then s0.resyncFail.resyncClear else s0).claimPins true
    if s.pair.takeover then
      let s2 := (((s1.setBit R.PAIR_STATUS_UNSETTLED (!s1.pairSynced)).countSat R.PAIR_EVT_CNT_TAKEOVER 1).setReg64 R.PAIR_HANDOVER_T_LO
        R.PAIR_HANDOVER_T_HI t).pairIrq 2 |>.ampTakeover
      (if s2.pairState = 6 then s2 else s2.setPairState 4).pairFault 1
    else
      let s2 := s1.setFld R.PAIR_STATUS_SYNCED 1
      if s2.pairState = 6 then s2 else s2.setPairState 4
/-- A release that waited for its boundary: a conflict (the state is SYNCING already), or CMD = RELEASE. -/
def State.claimDrop (s : State) (t : Nat) : State :=
  let s1 := ({ s with pair := { s.pair with relNext := false, relTick := t + 1 } }.claimPins false).handoverFail.setFld R.PAIR_STATUS_UNSETTLED 0
  if s1.pairState = 4 then (s1.setPairState (if s1.pathAUp then 2 else 3)).cmdStatus 2 else s1
/-- The claim moves at H (R298): the incoming engine drives it now, the outgoing one lets go 1 µs later. -/
def State.handOver (s : State) (h t : Nat) : State :=
  let s0 := { s with pair := { s.pair with hand := none, acked := false, initiator := false } }
  let note (u : State) : State :=
    let u1 := ((u.countSat R.PAIR_EVT_CNT_HANDOVER 1).setReg64 R.PAIR_HANDOVER_T_LO R.PAIR_HANDOVER_T_HI h).pairIrq 3
    if s.pair.initiator then u1.cmdStatus 2 else u1
  if s.holdsClaim then
    let s1 := note { s0 with pair := { s0.pair with handRel := true, relTick := t + 1, back := 2 } }
    if s1.pairState = 4 then s1.setPairState 2 else s1
  else if s.pairState = 2 ∧ !s.bit R.FCU_STATUS_SAFE then note ((s0.claimPins true).setPairState 4).ampTakeover
  else s.handoverFail
/-- A handover at boundary t: cancelled without an acknowledgement by H−2, else made at H. (DEDUCED, log 46, unsafe) -/
def State.handBoundary (s : State) (t : Nat) : State :=
  match s.pair.hand with
  | none => s
  | some h =>
    if s.pair.initiator ∧ !s.pair.acked ∧ h ≤ t + 2 then s.handoverFail
    else if s.pair.acked ∧ h ≤ t then s.handOver h t
    else s
/-- HANDOVER_RELEASE: 1 µs after H. -/
def State.handRelease (s : State) : State :=
  if s.pair.handRel then
    ({ s with pair := { s.pair with handRel := false } }.claimPins false).setFld R.PAIR_STATUS_UNSETTLED 0
  else s
/-- FENCED follows the fabric unit (R301). -/
def State.pairFence (s : State) (t : Nat) : State :=
  let st := s.pairState
  let s1 :=
    if s.fenced ∧ st ≠ 6 then { s with pair := { s.pair with back := if s.holdsClaim then 4 else st } }.setPairState 6
    else if !s.fenced ∧ st = 6 then
      s.setPairState (if s.holdsClaim then 4 else if s.pair.back = 2 ∨ s.pair.back = 4 then (if s.pathAUp then 2 else 3) else s.pair.back)
    else s
  let ready : Bool := match s1.pair.beat with | some b => decide (b.state = 2) && b.synced && !b.fenced | none => false
  if s1.pairState = 6 ∧ s1.holdsClaim ∧ ready ∧ s1.pathAUp ∧ s1.pair.hand.isNone ∧ !s1.pair.handRel ∧ s1.pair.wtrRetry = 0 then s1.initiate (t + 5) else s1
/-- May this engine revert now (R299)? -/
def State.mayRevert (s : State) : Bool := s.preferred && s.bit R.PAIR_CTRL_REVERT && decide (s.pairState = 2) && s.pairSynced && !s.fenced
/-- The wait-to-revert count at a boundary. -/
def State.wtrTurn (s : State) : State :=
  let s1 := { s with pair := { s.pair with wtrRetry := s.pair.wtrRetry - 1, retry := s.pair.retry - 1 } }
  s1.setFld R.PAIR_WTR_LEFT (if s1.mayRevert then s1.fld R.PAIR_WTR_LEFT - 1 else s1.fld R.PAIR_WTR)
/-- PAIR_WTR_EXPIRY. (DEDUCED, log 46, unsafe) -/
def State.wtrExpiry (s : State) : State :=
  if s.pairEn ∧ s.mayRevert ∧ s.fld R.PAIR_WTR_LEFT = 0 ∧ s.pathAUp ∧ s.pair.hand.isNone ∧ s.pair.wtrRetry = 0 ∧ !s.pair.transfer then s.initiate (s.tick.num + 5)
  else s
/-- RESYNC_RETRY: 12 ticks after a failed resync, or an unanswered request. (DEDUCED, log 46, unsafe) -/
def State.resyncRetry (s : State) : State :=
  if s.pairEn ∧ s.pairState = 1 ∧ s.pair.asked ∧ !s.pair.transfer ∧ s.pair.retry = 0 ∧ s.pathAUp ∧ !s.bit R.PAIR_STATUS_RESYNC_STOPPED ∧
      s.bit R.PAIR_CTRL_AUTO_RESYNC then s.askResync
  else s
/-- SETTLE_END: SETTLE_LEFT has reached 0, and the last heartbeat is compared. -/
def State.settleEnd (s : State) : State :=
  match s.pair.beat with
  | some b => if s.pairEn ∧ s.pairState = 1 ∧ s.pair.transfer ∧ !s.pair.recording ∧ s.fld R.PAIR_SETTLE_LEFT = 0 then s.beatCompare b else s
  | none => s

/-! The shadow (R295) -/

/-- The carry words of a core, range by range. -/
def State.carrySegs (s : State) (n : Nat) : List ShadowSeg :=
  let seg (space base len : Nat) : List ShadowSeg :=
    if len = 0 then [] else [.words n space base ((List.range len).map (fun k => s.coreWord n space (base + k)))]
  seg (s.fld (R.IATC_CARRY0_SPACE n)) (s.fld (R.IATC_CARRY0_BASE n)) (s.fld (R.IATC_CARRY0_LEN n)) ++
    seg (s.fld (R.IATC_CARRY1_SPACE n)) (s.fld (R.IATC_CARRY1_BASE n)) (s.fld (R.IATC_CARRY1_LEN n))
/-- The recurrent state of the active engine. Of a Silo replay goes along whether its next block is read: the standby reads that record from its own
ring. (DESIGN CHOICE, log 47, unsafe) -/
def State.shadow (s : State) : List ShadowSeg :=
  (List.range 64).flatMap s.carrySegs ++
  (List.range 16).map (fun t => .delays (2048 * t) ((List.range 2048).map (fun p => s.le (delayAddr t p) 4))) ++
  s.bind.rings.map (fun e => .ring e.1 e.2.w e.2.len e.2.z e.2.fill) ++ [.marv (s.fld R.MARV_HIST_WPTR)] ++
  (List.range 32).map (fun n => .sil n (s.silState n) (s.silOf n).silent (s.silOf n).half (s.silOf n).waking (s.silOf n).pend (s.silOf n).ending (s.silOf n).seen) ++
  [.silo s.siloWidx s.siloOldest s.silo.first (s.fld R.SILO_MARK_STATE) ((List.range 4).map s.markIdx)
     (s.fld R.SILO_RP_STATUS_STATE + 256 * s.fld R.SILO_RP_STATUS_REASON) s.rpIdx s.silo.left (if s.silo.read then 1 else 0),
   .patch (if s.img.stepping then patchSheaves s.patchRecs (s.fld R.IMG_PATCH_PROGRESS_NEXT) else []), .done]
/-- A segment of the shadow into the standby's own state. (DESIGN CHOICE, log 47, unsafe) -/
def State.loadSeg (s : State) (g : ShadowSeg) : State :=
  match g with
  | .words n space first ws => ws.zipIdx.foldl (fun t p => t.setCoreWord n space (first + p.2) p.1) s
  | .delays first ws => ws.zipIdx.foldl (fun t p => t.setLe (delayAddr ((first + p.2) / 2048) ((first + p.2) % 2048)) 4 p.1) s
  | .ring n w len z fill => if s.hasRing n then s.setRing n { s.ring n with w := w, len := len, z := z, fill := fill, cur := none } else s
  | .marv w => s.setFld R.MARV_HIST_WPTR w
  | .sil ch st silent half waking pend ending seen =>
    (s.setSil ch { s.silOf ch with silent := silent, half := half, waking := waking, pend := pend, ending := ending, seen := seen }).setSilState ch st
  | .silo widx _ first marks idx rp rpIdx left mode =>
    let s1 := ((s.setReg64 R.SILO_WIDX_LO R.SILO_WIDX_HI widx).setFld R.SILO_MARK_STATE marks).setReg64 R.SILO_RP_IDX_LO R.SILO_RP_IDX_HI rpIdx
    let s2 := idx.zipIdx.foldl (fun t p => t.setReg64 (R.SILO_MARK_LO p.2) (R.SILO_MARK_HI p.2) p.1) s1
    let s3 := (s2.setFld R.SILO_RP_STATUS_STATE (rp % 256)).setFld R.SILO_RP_STATUS_REASON (rp / 256)
    let (next, s4) := if mode = 1 then s3.siloBlock (rpIdx - 1) else ([], s3)
    { s4 with silo := { s4.silo with first := first, left := left, next := next, read := decide (mode = 1), wrote := true, sets := [] },
              pair := { s4.pair with siloT := if s.siloOn ∧ s.siloNs ≠ 0 then widx - 1 else widx } }
  | .patch sheaves =>
    match s.img.stepping, sheaves with
    | true, n :: r => (s.setFld R.IMG_PATCH_PROGRESS_NEXT n).setFld R.IMG_PATCH_PROGRESS_LEFT (r.length + 1)
    | _, _ => s
  | .done => s
/-! The replay buffer in LPDDR5 (R297) -/

/-- Bus address of the replay buffer. -/
def State.rbufBase (s : State) : Nat := s.fld R.PAIR_RBUF_LO * 4096 + s.fld R.PAIR_RBUF_HI * 0x100000000
/-- `n` bytes reach the replay buffer at an offset. The spec does not lay the buffer out: which byte holds what is free. (DESIGN CHOICE, log 48, unsafe) -/
def State.rbufPut (s : State) (off n : Nat) : State :=
  let (b, s1) := s.freeBytes n
  (s1.writeShared 2 (s1.rbufBase + off) b 0).2
/-- Bytes that a segment takes in the staging area. -/
def segSize : ShadowSeg → Nat
  | .words _ _ _ ws => 4 * ws.length
  | .delays _ ws => 4 * ws.length
  | .ring .. => 20
  | .marv _ => 4
  | .sil .. => 32
  | .silo .. => 96
  | .patch l => 4 * l.length
  | .done => 0
/-- SHADOW_SEGMENT_RECEIVE: into the staging area. -/
def State.shadowReceive (s : State) (g : ShadowSeg) : State :=
  if s.pair.transfer ∧ !s.pair.replaying ∧ s.pathAUp then
    let s1 := s.rbufPut ((s.pair.staged.map segSize).foldl (· + ·) 0) (segSize g)
    { s1 with pair := { s1.pair with staged := s1.pair.staged ++ [g] } }
  else s
/-- The active engine at the end of tick T captures the shadow, with the Silo's record of T and its marks in it. -/
def State.shadowCapture (s : State) : State :=
  if s.pair.sender ∧ s.holdsClaim ∧ s.tick.num = s.pair.resyncT then { s with pair := { s.pair with toSend := s.siloEnd.shadow } } else s
/-- The active engine sends a quarter of the shadow in each of ticks T+1 to T+4. -/
def State.shadowSend (s : State) (t : Nat) : State :=
  let l := s.pair.toSend
  if s.pair.sender ∧ s.pair.resyncT < t then
    let left := 5 - (t - s.pair.resyncT)
    let n := if left ≤ 1 then l.length else (l.length + left - 1) / left
    { s with pair := { s.pair with shadowOut := l.take n, toSend := l.drop n, sender := decide (t < s.pair.resyncT + 4) } }
  else { s with pair := { s.pair with shadowOut := [] } }
/-- The standby records every input block that the Binder would gather for tick t. (DESIGN CHOICE, log 48, unsafe) -/
def State.captureTick (s : State) (t : Nat) : State :=
  let (bs, s1) := s.bind.gather.foldl (fun (q : List (List (List Word)) × State) d =>
    let (b, u) := q.2.sourceBlocks d 0
    (q.1 ++ [b], u)) ([], s)
  let buf := s1.pair.buffer ++ [⟨t, bs⟩]
  let size := 4 * (bs.map (fun b => (b.map List.length).foldl (· + ·) 0)).foldl (· + ·) 0
  let s2 := s1.rbufPut (416 * 1024 + t % 8 * size) size
  { s2 with pair := { s2.pair with buffer := buf } }.setFld R.PAIR_REPLAY (Nat.min buf.length 0xFFFF)
/-- Ticks of settle time left, at a boundary: one stays while the standby replays or a Silo replay reads records from before T (R296). (DEDUCED, log 46, unsafe) -/
def State.settleTurn (s : State) : State :=
  let n := s.fld R.PAIR_SETTLE_LEFT
  if n = 0 then s
  else if n = 1 ∧ (s.pair.recording ∨ (s.rpLive ∧ s.rpIdx < s.pair.siloT)) then s
  else s.setFld R.PAIR_SETTLE_LEFT (n - 1)
/-- The standby's resync at boundary t: the recording starts at T+1, the shadow is loaded at T+5, and an emptied buffer ends the replay. A
switch abandons it (R302). -/
def State.resyncBoundary (s : State) (t : Nat) : State :=
  if !s.pair.transfer then s
  else if s.img.post = 1 then s.resyncFail
  else if !s.pair.recording then
    if s.pair.resyncT + 1 ≤ t ∧ s.fld R.PAIR_SETTLE_LEFT = 0 ∧ s.pair.buffer.isEmpty ∧ !s.pair.loaded ∧ s.pair.resyncT ≠ 0 then
      ({ s with pair := { s.pair with recording := true } }.setFld R.PAIR_SETTLE_LEFT (Nat.max 1 (s.fld R.IMG_SETTLE))).captureTick t
    else s
  else if s.pair.replaying ∧ s.pair.buffer.isEmpty then
    { s with pair := { s.pair with recording := false, replaying := false, loaded := true, resyncT := 0 } }
  else
    let s1 := s.captureTick t
    if 8 < s1.pair.buffer.length then s1.resyncFail
    else if !s1.pair.replaying ∧ s1.pair.resyncT + 5 ≤ t then
      (if s1.pair.staged.getLast? = some .done then
        { s1.pair.staged.foldl (fun u g => u.loadSeg g) s1 with pair := { (s1.pair.staged.foldl (fun u g => u.loadSeg g) s1).pair with
          replaying := true, staged := [] } }
      else s1.resyncFail)
    else s1
/-- The engine that holds the claim sends its stagger phase on CHN0 (R339). (DESIGN CHOICE, log 47, unsafe) -/
def State.phaseSend (s : State) : State :=
  if s.pairEn ∧ s.holdsClaim ∧ s.pathAUp ∧ s.chainUp 0 ∧ s.hasAmp then s.chainSend 0 (ctrlBlock 4 (leBytes 4 s.amp.stagRef)) else s
/-- Is network transmit withheld, by the state (R282) or in the safe state (R387)? -/
def State.withholds (s : State) : Bool :=
  s.bit R.FCU_STATUS_SAFE ||
  (s.pairEn && !(decide (s.pairState = 4)) && !(decide (s.pairState = 6) && s.holdsClaim && !s.pair.handRel) && decide (s.pairState ≠ 0))
/-- The pair unit at boundary t; `ended`: tick t−1 was computed, so its heartbeat is due. -/
def State.pairBoundary (s : State) (t : Nat) (ended : Bool) : State :=
  if !s.pairEn then s
  else
    let settle := s.fld R.PAIR_SETTLE_LEFT
    let s1 := if s.pair.relNext then s.pathsTurn.claimDrop t else s.pathsTurn
    let s2 := (if s1.pair.claimNext then s1.claimTake t else s1).handBoundary t
    let s3 := ((s2.pairFence t).wtrTurn.shadowSend t).settleTurn.resyncBoundary t
    let s4 := if ended then s3.beatSend (t - 1) settle else s3
    s4.phaseSend.netGate s4.withholds

end Sys2Proof.Machine
end

