-- ==== Sys2Proof/Machine/Pcie.lean ====
section
/-!
DEFINITION. The host port: interrupt lines and MSI-X messages (R369), doorbells (R370), link and function resets (R366).
-/

namespace Sys2Proof.Machine

/-! Interrupt lines -/

/-- The word of a register as its fields hold it, without what a read does. -/
def State.regWord (s : State) (a : Nat) : Nat := (regFieldsAt a).foldl (fun v f => v + s.fld f * 2 ^ f.lo) 0
/-- Enable and status registers of interrupt line k, in the order of R369; SAP and HOP have rules of their own. -/
def irqRegs (k : Nat) : Nat × Nat :=
  match k with
  | 0 => (0x40040038, 0x4004003C)
  | 1 => (0x40050018, 0x4005001C)
  | 2 => (0x40070078, 0x4007007C)
  | 3 => (0x40078130, 0x40078134)
  | 4 => (0x40060020, 0x40060024)
  | 6 => (0x400A0080, 0x400A0084)
  | 7 => (0x400B0080, 0x400B0084)
  | 8 => (0x400C0080, 0x400C0084)
  | 9 => (0x400D0080, 0x400D0084)
  | 10 => (0x400F0020, 0x400F0024)
  | 11 => (0x40100020, 0x40100024)
  | 12 => (0x400300B0, 0x400300B4)
  | 13 => (0x40110070, 0x40110074)
  | 14 => (0x40120008, 0x4012000C)
  | 15 => (0x40130058, 0x4013005C)
  | 16 => (0x40140040, 0x40140044)
  | 17 => (0x40180090, 0x40180094)
  | 18 => (0x401A0090, 0x401A0094)
  | 19 => (0x40150018, 0x4015001C)
  | 20 => (0x40190020, 0x40190024)
  | 22 => (0x4016000C, 0x40160010)
  | 23 => (0x40170018, 0x4017001C)
  | 24 => (0x400E0080, 0x400E0084)
  | 25 => (0x40010040, 0x40010044)
  | _ => (0x401E0004, 0x401E0008)
/-- Ports with an enabled bit set (`SAP.IRQ_STATUS.PORT`). -/
def State.sapPortIrq (s : State) : Nat := maskOf 16 (fun n => s.regWord (0x40081034 + 0x40 * n) &&& s.fld (R.SAP_PORT_IRQ_STATUS n) ≠ 0)
/-- Hoppers with UNDERRUN or OVERFLOW set (`HOP.ERR_LO`, `HOP.ERR_HI`). -/
def State.hopErr (s : State) : Nat := maskOf 64 (fun n => s.bit (R.HOP_Q_STATUS_UNDERRUN n) || s.bit (R.HOP_Q_STATUS_OVERFLOW n))
/-- Interrupt line k of the blocks, in the order of R369. -/
def State.irqLine (s : State) (k : Nat) : Bool :=
  if k = 5 then
    decide (s.fld R.SAP_IRQ_STATUS_GRP &&& s.fld R.SAP_GRP_IRQ_EN_GRP ≠ 0) ||
    (s.bit R.SAP_IRQ_STATUS_START_LATE && s.bit R.SAP_GRP_IRQ_EN_START_LATE) || decide (s.sapPortIrq ≠ 0)
  else if k = 21 then
    decide (s.fld R.HOP_LEVEL_LO &&& s.fld R.HOP_LEVEL_EN_LO ≠ 0) || decide (s.fld R.HOP_LEVEL_HI &&& s.fld R.HOP_LEVEL_EN_HI ≠ 0) ||
    (s.bit R.HOP_ERR_EN && decide (s.hopErr ≠ 0))
  else decide (s.regWord (irqRegs k).1 &&& s.regWord (irqRegs k).2 ≠ 0)
/-- The Grange's NET counter interrupt: a counter's bit 31 has changed and its flag is set (R219, R399). -/
def State.netCounterIrq (s : State) : Bool :=
  (List.range 5).any (fun n => decide (s.fld (R.NET_GCNT_FLAG_LO n) ≠ 0) || decide (s.fld (R.NET_GCNT_FLAG_HI n) ≠ 0))
/-- The interrupts that reach the Grange beside `GRNG.IRQ_PEND`'s lines (R399): the host's doorbell, the NET counter interrupt, the FCU's
non-maskable interrupt. -/
def State.grangeIrqs (s : State) : Bool × Bool × Bool := (decide (s.fld R.PCIE_DB_H2G ≠ 0), s.netCounterIrq, s.grng.nmi)
/-- Interrupt source n of the host (R369). -/
def State.hostSource (s : State) (n : Nat) : Bool :=
  if n < 24 then s.irqLine n else if n < 32 then false else bitOf (s.fld R.PCIE_DB_G2H) (n - 32)

/-! MSI-X -/

/-- A word of the MSI-X table; the mask bit of a vector is set at reset. (DEDUCED, log 16, unsafe) -/
def State.msixWord (s : State) (w : Nat) : Nat := FMap.get (if w % 4 = 3 then 1 else 0) s.pcie.msix w
def State.setMsixWord (s : State) (w v : Nat) : State :=
  { s with pcie := { s.pcie with msix := FMap.set (if w % 4 = 3 then 1 else 0) s.pcie.msix w v } }
/-- Vectors whose OR of enabled sources is high. -/
def State.msixLevel (s : State) : Nat :=
  (List.range 64).foldl (fun m n =>
    if s.bit (R.PCIE_VEC_MAP_EN n) then (if s.hostSource n then m ||| 2 ^ s.fld (R.PCIE_VEC_MAP_VECTOR n) else m) else m) 0
/-- The message of vector v is sent, or held in the pending-bit array by its mask. -/
def State.msixSend (s : State) (v : Nat) : State :=
  if s.msixWord (4 * v + 3) % 2 = 1 then { s with pcie := { s.pcie with pba := s.pcie.pba ||| 2 ^ v } }
  else { s with pcie := { s.pcie with sent := s.pcie.sent ++ [(s.msixWord (4 * v) + s.msixWord (4 * v + 1) * 0x100000000, s.msixWord (4 * v + 2))] } }
/-- One message for each vector whose OR has risen. -/
def State.msixEdges (s : State) : State :=
  let now := s.msixLevel
  if now = s.pcie.level then s
  else
    let s1 := (List.range 64).foldl (fun t v => if bitOf now v ∧ !bitOf s.pcie.level v then t.msixSend v else t) s
    { s1 with pcie := { s1.pcie with level := now } }
/-- A host write of a word of the table; clearing a mask sends the message that it held back. (DEDUCED, log 16, unsafe) -/
def State.msixWrite (s : State) (w v : Nat) : State :=
  let s1 := s.setMsixWord w v
  if w % 4 = 3 ∧ v % 2 = 0 ∧ bitOf s.pcie.pba (w / 4) then
    { s1 with pcie := { s1.pcie with pba := putBit s1.pcie.pba (w / 4) false } }.msixSend (w / 4)
  else s1

/-! Doorbells -/

/-- Host-to-Grange doorbells ring: they interrupt the Grange, and wake the engine. -/
def State.dbH2gRing (s : State) (v : Nat) : State :=
  let s1 := s.orFld R.PCIE_DB_H2G (v % 0x100000000)
  if v % 0x100000000 = 0 then s1 else s1.wake 3
/-- Grange-to-host doorbells ring: interrupt sources 32 to 63. -/
def State.dbG2hRing (s : State) (v : Nat) : State := s.orFld R.PCIE_DB_G2H (v % 0x100000000)

/-! Link -/

/-- Fields of the PCIE block return to their reset values, but for those of `PCIE.LINK`. -/
def State.pcieClear (s : State) : State :=
  { s with regs := s.regs.drop (fun k => decide (k / 32 / 0x10000 = 0x401C) && decide (k / 32 ≠ 0x401C0000)),
           pcie := { PcieSt.reset with sent := s.pcie.sent, resp := s.pcie.resp } }
/-- The link is up at a width and a speed; the code of the training state is not stated. (DEDUCED, log 63, unsafe) -/
def State.pcieUp (s : State) (width speed : Nat) : State :=
  let (v, s1) := s.takeFree
  (((s1.setFld R.PCIE_LINK_LTSSM v).setFld R.PCIE_LINK_WIDTH width).setFld R.PCIE_LINK_SPEED speed).setFld R.PCIE_LINK_UP 1
/-- The link goes down: UP clears and PCIE LINK_DOWN is reported. -/
def State.pcieDown (s : State) : State :=
  if s.bit R.PCIE_LINK_UP then
    let (v, s1) := s.takeFree
    ((s1.setFld R.PCIE_LINK_LTSSM v).setFld R.PCIE_LINK_UP 0).fcu' 49 1 0
  else s
/-- A function level reset: the PCIE block and the endpoint alone; the link stays as it is. (DEDUCED, log 63, unsafe) -/
def State.pcieFlr (s : State) : State := s.pcieClear
/-- PCIE_PERST_N resets the endpoint alone: the link goes down as well. (DEDUCED, log 63, unsafe) -/
def State.pciePerst (s : State) : State :=
  (((s.pcieDown.pcieClear).setFld R.PCIE_LINK_LTSSM 0).setFld R.PCIE_LINK_WIDTH 0).setFld R.PCIE_LINK_SPEED 0

end Sys2Proof.Machine
end

