-- ==== Sys2Proof/Machine/Firm.lean ====
section
/-!
DEFINITION. Firmware packages (R407), the chip resets (R427, R428), wipe and boot (R430–R432), Grange restarts (R401), the Grange watchdog
(R400) and the roll-back of a trial (R408).
-/

namespace Sys2Proof.Machine

/-! Packages -/

def pkgVersion (l : List Byte) : Nat := leAt l 4 4
def pkgSecVer (l : List Byte) : Nat := leAt l 8 4
def pkgLength (l : List Byte) : Nat := leAt l 12 4
def pkgSlot (l : List Byte) : Nat := leAt l 20 4
/-- A complete package: header, body and signature (R407). -/
def pkgOk (l : List Byte) : Bool :=
  decide (leAt l 0 4 = 0x56594657) && decide (pkgLength l ≤ 229376) && decide (pkgSlot l ≤ 3) &&
  decide (128 + pkgLength l ≤ l.length) && ((l.drop 24).take 40).all (fun b => b == 0)
/-- Does a package verify: complete, and signed by the key of its SLOT where the state requires it? (DEDUCED, log 33, unsafe) -/
def State.pkgVerifies (s : State) (l : List Byte) : Bool :=
  let n := 64 + pkgLength l
  pkgOk l && (!s.bit R.LCS_SIGREQ_FW || s.keyVerifies (pkgSlot l) (l.take n) ((l.drop n).take 64))
def State.fwSlot (s : State) (k : Nat) : FwSlot := FMap.get FwSlot.none s.grng.slots k
def State.setFwSlot (s : State) (k : Nat) (x : FwSlot) : State := { s with grng := { s.grng with slots := FMap.set FwSlot.none s.grng.slots k x } }
/-- The payload of an UPDATE record: target, VERSION, SEC_VER and result. -/
def updPay (target version sec result : Nat) : List Byte := leBytes 1 target ++ leBytes 4 version ++ leBytes 4 sec ++ leBytes 1 result
/-- An UPDATE record for a package. -/
def State.updRecord (s : State) (target : Nat) (l : List Byte) (result : Nat) : State :=
  s.logOffer 4 (updPay target (pkgVersion l) (pkgSecVer l) result)

/-! Resets -/

/-- Registers that a chip warm reset keeps: the life-cycle record and `SYS.RSTCAUSE` (R427). (DEDUCED, log 62, unsafe) -/
def keptReg (a : Nat) : Bool :=
  decide (a = 0x40000010) || decide (a = 0x401D0000) || decide (a = 0x401D0004) || decide (a = 0x401D0010) || decide (a = 0x401D0014) ||
  (decide (0x401D0020 ≤ a) && decide (a < 0x401D0040))
/-- Is an address in the MRAM? -/
def inMram (a : Nat) : Bool := decide (mramBase ≤ a) && decide (a < mramBase + 0x40000)
/-- What a reset keeps of the Grange: the NOR. A slot whose programming the reset cuts off is invalid. (DEDUCED, log 62, unsafe) -/
def GrngSt.afterReset (g : GrngSt) : GrngSt :=
  let kept := { GrngSt.reset with slots := g.slots, active := g.active, nor := g.nor, norHere := g.norHere, hostOut := g.hostOut, owed := g.owed }
  match g.staging with
  | some (t, l, _, _) =>
    let x := { kept with owed := kept.owed ++ [updPay (t % 256) (pkgVersion l) (pkgSecVer l) 7] }
    if t % 256 ≤ 1 then { x with slots := FMap.set FwSlot.none x.slots (t % 256) FwSlot.none } else x
  | none => kept
/-- The engine under reset: every output in its reset state, every register at its reset value, memories as `keep` says (R427, R428). -/
def State.resetBase (s : State) (keep : Nat → Bool) : State :=
  { State.reset with
      part := s.part, free := s.free, pending := s.pending, lcs := s.lcs, grng := s.grng.afterReset,
      pcie := { PcieSt.reset with sent := s.pcie.sent },
      pins := { Pins.reset with bootMode := s.pins.bootMode, pairSide := s.pins.pairSide },
      regs := s.regs.drop (fun k => !keptReg (k / 32)),
      mem := s.mem.drop (fun a => !keep a),
      mem14 := { MemSt.reset with bad := s.mem14.bad.filter keep } }
/-- A chip warm reset with its cause (Table 17-3). PSEL pins and the AON switch keep their state. (DEDUCED, log 62, unsafe) -/
def State.warmReset (s : State) (cause : Nat) : State :=
  let s1 := s.resetBase (fun a => inMram a || decide (ddrBase ≤ a))
  let s2 := { s1 with jtag := s.jtag, pins := { s1.pins with pselMain := s.pins.pselMain, pselBack := s.pins.pselBack } }
  let s3 := (s2.setFld R.PWR_STATUS_FEED (if s.pins.pselMain then 0 else 1)).setFld R.PWR_STATUS_AON_SRC (s.fld R.PWR_STATUS_AON_SRC)
  ((s3.countSat R.SYS_RSTCAUSE_COUNT 1).setFld R.SYS_RSTCAUSE_LAST cause).orFld R.SYS_RSTCAUSE_CAUSE (2 ^ cause)
/-- A power-on reset: as a warm reset, with RSTCAUSE = POR alone; the LPDDR5 holds nothing. (DEDUCED, log 62, unsafe) -/
def State.powerReset (s : State) : State :=
  let s1 := s.resetBase inMram
  (((s1.setFld R.SYS_RSTCAUSE_COUNT 0).setFld R.SYS_RSTCAUSE_DDR_WIPED 0).setFld R.SYS_RSTCAUSE_LAST 0).setFld R.SYS_RSTCAUSE_CAUSE 1
/-- A write of `RST.CHIP`: the key resets the chip, by the host or by the Grange. -/
def State.chipWrite (s : State) (grange : Bool) (v : Nat) : State :=
  if v % 65536 = 0xA5C3 then s.warmReset (if grange then 5 else 2) else s
/-- PCIE_PERST_N: the endpoint alone, or the chip with PERST_CHIP. -/
def State.perstLow (s : State) : State := if s.bit R.RST_CTRL then s.warmReset 3 else s.pciePerst

/-! Firmware starts -/

/-- Grange SRAM is zeroed. -/
def State.sramZero (s : State) : State := { s with mem := s.mem.drop (fun a => decide (sramBase ≤ a) && decide (a < sramBase + 0x40000)) }
/-- The watchdog's full count in ms (0 acts as 1). -/
def State.wdogFull (s : State) : Nat := Nat.max 1 (s.fld R.GRNG_WDOG_TIMEOUT)
/-- The ROM verifies a package and jumps into it, or reports the failure. -/
def State.fwStart (s : State) (l : List Byte) (slot : Nat) (trial : Bool) : State :=
  if s.pkgVerifies l then
    let s1 := s.sramZero.setBytes sramBase ((l.drop 64).take (pkgLength l))
    let s2 := ((s1.setFld R.SYS_REMAP 1).setFld R.GRNG_WDOG_EN 1).setFld R.GRNG_WDOG_LEFT s1.wdogFull
    let s3 := ((s2.setFld R.GRNG_FW_VER (pkgVersion l)).setFld R.GRNG_STATUS_SLOT slot).setBit R.GRNG_STATUS_TRIAL trial
    { s3 with grng := { s3.grng with waitHost := false } }
  else s.verifyFailed
/-- The ROM starts the firmware of NOR slot k. -/
def State.slotStart (s : State) (k : Nat) (trial : Bool) : State :=
  let x := s.fwSlot k
  if x.ok then { s with grng := { s.grng with bootSlot := if trial then s.grng.bootSlot else k } }.fwStart x.bytes k trial else s.verifyFailed
/-- The ROM waits for a package from the host. (DEDUCED, log 61, unsafe) -/
def State.hostWait (s : State) : State := { s with grng := { s.grng with waitHost := true } }
/-- The ROM boots firmware by the boot mode in force (R401, R431); a RETIRED engine boots none. (DEDUCED, log 61, unsafe) -/
def State.fwBoot (s : State) (recovery : Nat) : State :=
  let m := s.fld R.SYS_BOOT_MODE
  if s.fld R.LCS_STATE_STATE = 4 then s
  else if m = 1 ∨ (m = 0 ∧ s.bit R.SYS_BOOT_NOR_ABSENT) then s.hostWait
  else if !s.grng.norHere then s
  else if m = 2 then s.slotStart recovery false
  else s.slotStart s.grng.active false
/-- Doorbell bit 0 while the ROM waits: the package that `PCIE.MBX_H2G0` and `PCIE.MBX_H2G1` name in the Granary (R431). -/
def State.hostPackage (s : State) : State :=
  if s.grng.waitHost then
    match s.readShared 0 (granBase + s.fld (R.PCIE_MBX_H2G 0)) (s.fld (R.PCIE_MBX_H2G 1)) 0 with
    | (some l, s1) =>
      let (v, s2) := s1.takeFree
      let s3 := s2.fwStart l 0 false
      if s3.grng.waitHost then s3 else s3.setFld R.SYS_BOOT_TIME_MS v
    | (none, s1) => s1.verifyFailed
  else s

/-! Grange restart and watchdog -/

/-- The Grange processor restarts: RUN falls, its SRAM and what lay in it are gone. -/
def State.grangeDown (s : State) : State :=
  let g := s.grng.afterReset
  let s1 := { s.sramZero with grng := { g with booted := s.grng.booted, bootSlot := s.grng.bootSlot, nmi := s.grng.nmi, owed := [] } }
  let s2 := (((s1.setFld R.GRNG_STATUS_RUN 0).setFld R.GRNG_STATUS_TRIAL 0).setFld R.SYS_REMAP 0).count R.GRNG_RESTART_CNT 1
  (g.owed.foldl (fun t p => t.logOffer 4 p) (s2.setFld R.GRNG_LOG_HEAD s2.logScan)).cfgLoad
/-- A Grange restart (R401). -/
def State.grangeRestart (s : State) : State := s.grangeDown.fwBoot s.grng.bootSlot
/-- The restart into the staged slot on trial (R408). -/
def State.grangeTrial (s : State) (k : Nat) : State := s.grangeDown.slotStart k true
/-- The UPDATE payload of a trial that rolls back. -/
def State.rollPay (s : State) : List Byte :=
  let l := (s.fwSlot (s.fld R.GRNG_STATUS_SLOT)).bytes
  updPay (s.fld R.GRNG_STATUS_SLOT) (pkgVersion l) (pkgSecVer l) 5
/-- A trial is over: the ROM restarts into the previous slot and sets ROLLED_BACK. (DEDUCED, log 59, unsafe) -/
def State.rollBack (s : State) : State :=
  let p := s.rollPay
  (((s.grangeDown).setFld R.GRNG_STATUS_ROLLED_BACK 1).logOffer 4 p).slotStart s.grng.active false
/-- TRIAL_TIMEOUT: 60 s without UPD_CONFIRM. (DEDUCED, log 59, unsafe) -/
def State.trialTimeout (s : State) : State := if s.bit R.GRNG_STATUS_TRIAL then s.rollBack else s
/-- WATCHDOG_EXPIRY: the claim is released, and the Grange restarts or the chip is reset. The WDOG message is reported once the restart has
cleared the Grange's buffer, so that its log record stands. -/
def State.watchdogExpiry (s : State) : State :=
  if s.bit R.GRNG_WDOG_EN ∧ !s.grng.waitHost then
    let s1 := s.claimRelease
    let trial := s1.bit R.GRNG_STATUS_TRIAL
    if s1.bit R.GRNG_WDOG_ACTION then
      let s2 := if trial then { s1 with grng := { s1.grng with owed := s1.grng.owed ++ [s1.rollPay] } } else s1
      let s3 := (s2.fcu' 50 1 0).warmReset 4
      if trial then s3.setFld R.GRNG_STATUS_ROLLED_BACK 1 else s3
    else (if trial then s1.rollBack else s1.grangeRestart).fcu' 50 1 0
  else s
/-- A write of `GRNG.WDOG_KICK`. -/
def State.wdogKick (s : State) (v : Nat) : State :=
  if v % 65536 = 0xC35A ∧ s.bit R.GRNG_WDOG_EN then s.setFld R.GRNG_WDOG_LEFT s.wdogFull else s

/-! Boot -/

/-- A life-cycle state's two signature requirements (Table 16-6). -/
def State.showSigreq (s : State) : State :=
  let st := s.fld R.LCS_STATE_STATE
  (s.setBit R.LCS_SIGREQ_FW (decide (1 ≤ st ∧ st ≤ 3))).setBit R.LCS_SIGREQ_IMG (decide (st = 2 ∨ st = 3))
/-- Does a transition wipe the MRAM user area, and the key slots (Table 16-7)? -/
def wipesUser (old new : Nat) : Bool := decide (new = 4) || (decide (old = 2) && decide (new = 3))
def wipesKeys (new : Nat) : Bool := decide (new = 4)
/-- A PENDING transition is carried out: its wipe, then the new state and the LIFECYCLE record. (DEDUCED, log 60, unsafe) -/
def State.lcFinish (s : State) : State :=
  if s.bit R.LCS_STATE_PENDING then
    let old := s.fld R.LCS_STATE_STATE
    let new := s.lcs.target
    let s1 := if wipesUser old new then
        { s with mem := s.mem.drop (fun a => decide (mramBase ≤ a) && decide (a < mramBase + 0x38000)) } else s
    let s2 := if wipesKeys new then { s1 with lcs := { s1.lcs with keys := [] } }.setFld R.LCS_KEYVALID 0 else s1
    let s3 := ((s2.setFld R.LCS_STATE_PENDING 0).setFld R.LCS_STATE_STATE new).showSigreq
    (s3.setFld R.GRNG_LOG_HEAD s3.logScan).logOffer 3 (leBytes 1 old ++ leBytes 1 new ++ leBytes 4 (s3.fld (R.LCS_CNT 1)))
  else s.setFld R.GRNG_LOG_HEAD s.logScan
/-- DDR_WIPE_ON_RESET as the reset finds it in the life-cycle record: the old value after a write that the reset may have met within 1 µs,
where a free value says so (R412). (DEDUCED, log 60, unsafe) -/
def State.wipeAsRead (s : State) : Bool × State :=
  match s.lcs.wiping with
  | none => (s.bit R.LCS_CTRL, s)
  | some (old, _) =>
    let (v, s1) := s.takeFree
    (if v % 2 = 1 then old != 0 else s.bit R.LCS_CTRL, { s1 with lcs := { s1.lcs with wiping := none } })
/-- The ROM zeroes every on-die SRAM, and LPDDR5 where required (R430). -/
def State.bootWipe (s0 : State) : State :=
  let (wipe, s) := s0.wipeAsRead
  let ddr := wipe || s.bit R.LCS_STATE_PENDING
  let keep (a : Nat) : Bool := inMram a || (decide (ddrBase ≤ a) && !ddr)
  { s with mem := s.mem.drop (fun a => !keep a), mem14 := { s.mem14 with bad := s.mem14.bad.filter keep } }.setBit R.SYS_RSTCAUSE_DDR_WIPED ddr
/-- The straps as sampled, and the boot mode that they give (R431). (DEDUCED, log 61, unsafe) -/
def State.bootStraps (s : State) (mode : Nat) (side : Bool) : State :=
  let m := if mode = 3 then (if s.fld R.LCS_STATE_STATE = 0 then 3 else 0) else if 4 ≤ mode then 0 else mode
  let sd := if side then 1 else 0
  let s1 := { s with pins := { s.pins with bootMode := mode, pairSide := sd } }
  let s2 := ((s1.setFld R.SYS_BOOT_STRAP mode).setFld R.SYS_BOOT_PAIR_SIDE sd).setFld R.PAIR_STATUS_SIDE sd
  (s2.setFld R.SYS_BOOT_MODE m).setBit R.SYS_BOOT_STRAP_BAD (decide (4 ≤ mode))
/-- LPDDR5 training: its result is locked into `DDR.CFG`, or its failure is reported (R364). -/
def State.bootTrain (s : State) (e : BootEnv) : State :=
  if e.trained then
    let s1 := (((s.setFld R.DDR_CFG_SIZE e.size.val).setBit R.DDR_CFG_RANKS e.ranks).setFld R.DDR_CFG_RATE e.rate.val).setFld R.DDR_STATUS_TRAINED 1
    { s1 with mem14 := { s1.mem14 with ddrLocked := true } }
  else s.fcu' 48 3 0
/-- BOOT: what follows the release of a chip reset (Timeline 17-2). (DEDUCED, log 61, unsafe) -/
def State.boot (s : State) (e : BootEnv) : State :=
  if s.grng.booted then s
  else
    let s0 := { s with grng := { s.grng with booted := true, norHere := e.nor, owed := [] } }
    let s1 := ((s0.bootStraps e.mode.val e.side).showSigreq.bootWipe).lcFinish
    let s2 := ((s1.setFld R.CLK_PLL_STATUS_LOCK 255).setHalfState 0 (s1.halfState 0)).setHalfState 1 (s1.halfState 1)
    let s3 := (s2.domsUp s2.domWanted).bootTrain e
    let s4 := if s3.fld R.SYS_BOOT_MODE = 0 ∧ !e.nor then s3.setFld R.SYS_BOOT_NOR_ABSENT 1 else s3
    let s5 := (s4.logOffer 2 (leBytes 4 (s4.regWord 0x40000010))).cfgLoad
    let s6 := s.grng.owed.foldl (fun t p => t.logOffer 4 p) s5
    let s7 := s6.fwBoot (1 - s6.grng.active)
    if s7.bit R.SYS_REMAP then s7.setFld R.SYS_BOOT_TIME_MS e.ms else s7

/-! TAP -/

/-- The IDCODE register (R447). -/
def idcode (base metal : Nat) : Nat := (4 * (base - 1) + metal) % 16 * 0x10000000 + 0x1024 * 0x1000 + 0x4D1 * 2 + 1
/-- Does the life-cycle state allow full debug (Table 16-6)? -/
def State.fullDebug (s : State) : Bool := decide (s.fld R.LCS_STATE_STATE = 0 ∨ s.fld R.LCS_STATE_STATE = 1 ∨ s.fld R.LCS_STATE_STATE = 3)
/-- TAP_INSTRUCTION: BYPASS in place of EXTEST, CLAMP and HIGHZ while RUN = 1, and of a debug instruction that the state does not allow. (DEDUCED, log 60, unsafe) -/
def State.tapLoad (s : State) (ir : TapInstr) : State :=
  let v : TapInstr := match ir with
    | .extest => if s.bit R.TICK_CTRL_RUN then .bypass else .extest
    | .clamp => if s.bit R.TICK_CTRL_RUN then .bypass else .clamp
    | .highz => if s.bit R.TICK_CTRL_RUN then .bypass else .highz
    | .debug => if s.fullDebug then .debug else .bypass
    | i => i
  { s with jtag := ⟨v⟩ }
/-- TAP_RESET: the IDCODE instruction is selected. -/
def State.tapInit (s : State) : State := { s with jtag := ⟨.idcode⟩ }

end Sys2Proof.Machine
end

