-- ==== Sys2Proof/Machine/Mbx.lean ====
section
/-!
DEFINITION. Mailbox commands (R406): how one is taken and answered, and what each of Table 16-4 does; firmware and library updates (R408),
life-cycle requests (R409, R410), outbound DMA (R411).
-/

namespace Sys2Proof.Machine

/-! Taking and answering -/

/-- The words of a command. -/
def State.mbxWords (s : State) : Mbx → List Nat
  | .host => (List.range 64).map (fun w => s.fld (R.PCIE_MBX_H2G w))
  | .mgmt ws => ws.map BitVec.toNat
/-- Does a command come over MGMT? -/
def mgmtOf : Mbx → Bool
  | .host => false
  | .mgmt _ => true
/-- A word of a list of arguments; a missing one is 0. -/
def arg (l : List Nat) (i : Nat) : Nat := (l[i]?).getD 0
/-- A command's result: STATUS and result words. -/
abbrev MbxAns := Nat × List Nat
/-- The command codes of Table 16-4. (DEDUCED, log 55, unsafe) -/
def mbxKnown (c : Nat) : Bool :=
  decide (1 ≤ c ∧ c ≤ 8) || decide (0x10 ≤ c ∧ c ≤ 0x15) || decide (0x20 ≤ c ∧ c ≤ 0x23) || decide (c = 0x30) || decide (c = 0x31)
/-- The Grange answers a command: word 0 and results into the mailbox with doorbell bit 0, or to the sender on MGMT. -/
def State.mbxAnswer (s : State) (mgmt : Bool) (cmd tag : Nat) (a : MbxAns) : State :=
  let ws := (cmd * 0x1000000 + tag * 0x10000 + a.1 * 0x100 + a.2.length) :: a.2
  if mgmt then { s with grng := { s.grng with mgmtAns := ws } }
  else ((List.range ws.length).foldl (fun t w => t.setFld (R.PCIE_MBX_G2H w) (arg ws w)) s).dbG2hRing 1
/-- Does the Grange take commands from this side now? In RETIRED the ROM takes them. -/
def State.mbxOpen (s : State) (via : Mbx) : Bool :=
  (s.bit R.GRNG_STATUS_RUN || decide (s.fld R.LCS_STATE_STATE = 4)) && (!(mgmtOf via) || s.bit R.GRNG_CTRL_MGMT_CMD)
/-- One command: `run` gives the state after it, and its answer unless it answers later. An unknown CMD is answered UNKNOWN; the CMD of another
row, and in RETIRED everything but INFO and the refusal of WIPE_CFG, has no effect here. (DEDUCED, log 55, unsafe) -/
def State.mbxTake (s : State) (via : Mbx) (code : Nat) (run : State → List Nat → Nat → State × Option MbxAns) : State :=
  let ws := s.mbxWords via
  let w0 := arg ws 0
  let cmd := w0 / 0x1000000
  let tag := w0 / 0x10000 % 256
  let n := w0 % 65536
  if !s.mbxOpen via then s
  else if !mbxKnown cmd then s.mbxAnswer (mgmtOf via) cmd tag (1, [])
  else if cmd ≠ code then s
  else if s.fld R.LCS_STATE_STATE = 4 ∧ code ≠ 1 ∧ code ≠ 0x23 then s
  else if 63 < n then s.mbxAnswer (mgmtOf via) cmd tag (2, [])
  else
    match run s ((ws.drop 1).take n) tag with
    | (s1, some a) => s1.mbxAnswer (mgmtOf via) cmd tag a
    | (s1, none) => s1
/-- A command that answers at once, in this order: the answer, then what it does after it. -/
def State.mbxThen (s : State) (via : Mbx) (code tag : Nat) (a : MbxAns) (f : State → State) : State × Option MbxAns :=
  (f (s.mbxAnswer (mgmtOf via) code tag a), none)

/-- The 32-bit words of bytes. -/
def wordsOf (l : List Byte) : List Nat := (List.range ((l.length + 3) / 4)).map (fun i => leAt l (4 * i) 4)
/-- The bytes of words. -/
def bytesOf (l : List Nat) : List Byte := l.flatMap (leBytes 4)

/-! Log, configuration, sensors -/

/-- INFO. -/
def State.mbxInfo (s : State) : State × Option MbxAns :=
  (s, some (0, [s.regWord 0x401D0000, s.fld R.GRNG_FW_VER, s.regWord 0x401B0004, Config.uid % 0x100000000, Config.uid / 0x100000000 % 0x100000000]))
/-- Records of the ring from `seq` on, as far as it holds them; an armed MRAM checker fails the first read (R392). -/
def State.logFetch (s : State) (seq n : Nat) : List (List Byte) × State :=
  if s.injArmed 7 then
    (((List.range n).drop 1).filterMap (fun i => s.logRead (seq + i)), (s.fcuInj 50 3 (logAddr seq) true).injDone)
  else ((List.range n).filterMap (fun i => s.logRead (seq + i)), s)
/-- LOG_READ: the named records that the ring holds. -/
def State.mbxLogRead (s : State) (a : List Nat) : State × Option MbxAns :=
  if a.length ≠ 2 ∨ arg a 1 = 0 ∨ 3 < arg a 1 then (s, some (2, []))
  else
    let (l, s1) := s.logFetch (arg a 0) (arg a 1)
    (s1, some (0, l.flatMap wordsOf))
/-- LOG_DUMP through the outbound DMA; `ok` is whether the host completes the writes. STATUS after a failed write is not stated. -/
def State.mbxLogDump (s : State) (a : List Nat) (ok : Bool) : State × Option MbxAns :=
  if a.length ≠ 4 ∨ arg a 1 = 0 ∨ 3072 < arg a 1 then (s, some (2, []))
  else if s.bit R.GRNG_ODMA_CTRL_START then (s, some (3, []))
  else
    let dst := arg a 2 + arg a 3 * 0x100000000
    let (l, s0) := s.logFetch (arg a 0) (arg a 1)
    if ok then
      ({ s0 with grng := { s0.grng with hostOut := s0.grng.hostOut ++ [(dst, l.flatMap id)] } }.setFld R.GRNG_ODMA_CTRL_DONE 1, some (0, []))
    else
      let (v, s1) := ((s0.setFld R.GRNG_ODMA_CTRL_ERR 1).fcu' 49 2 0).takeFree
      (s1, some (v % 256, []))
/-- LOG_WRITE: a SOFTWARE record of seven words. (DEDUCED, log 55, unsafe) -/
def State.mbxLogWrite (s : State) (a : List Nat) : State × Option MbxAns :=
  if a.length ≠ 7 then (s, some (2, []))
  else if 256 ≤ s.grng.logBuf.length then (s.logOffer 6 (bytesOf a), some (3, []))
  else (s.logOffer 6 (bytesOf a), some (0, [(s.fld R.GRNG_LOG_HEAD + s.grng.logBuf.length) % 0x100000000]))
/-- CFG_READ: byte offset and a count of words. (DEDUCED, log 55, unsafe) -/
def State.mbxCfgRead (s : State) (a : List Nat) : State × Option MbxAns :=
  if a.length ≠ 2 ∨ arg a 1 = 0 ∨ 60 < arg a 1 ∨ cfgMax < arg a 0 + 4 * arg a 1 then (s, some (2, []))
  else (s, some (0, wordsOf (FMap.getRun 0 s.grng.work (arg a 0) (4 * arg a 1))))
/-- CFG_WRITE: byte offset and the words; the working copy grows to hold them. -/
def State.mbxCfgWrite (s : State) (a : List Nat) : State × Option MbxAns :=
  let l := bytesOf (a.drop 1)
  if a.length < 2 ∨ 61 < a.length ∨ cfgMax < arg a 0 + l.length then (s, some (2, []))
  else
    ({ s with grng := { s.grng with work := FMap.setRun 0 s.grng.work (arg a 0) l,
                                    workLen := Nat.max s.grng.workLen (arg a 0 + l.length) } }, some (0, []))
/-- CFG_COMMIT. -/
def State.mbxCfgCommit (s : State) : State × Option MbxAns :=
  let (g, s1) := s.cfgCommit
  (s1, some (0, [g]))
/-- SENS_READ: VALUE and STATUS of a range of sensors; the read clears their rejection counts. (DEDUCED, log 55, unsafe) -/
def State.mbxSensRead (s : State) (a : List Nat) : State × Option MbxAns :=
  let n := arg a 0
  let c := arg a 1
  if a.length ≠ 2 ∨ c = 0 ∨ 31 < c ∨ 34 < n + c then (s, some (2, []))
  else
    let ks := (List.range c).map (fun i => n + i)
    (ks.foldl (fun t k => t.setFld (R.SENS_S_STATUS_REJ_CNT k) 0) s,
     some (0, ks.flatMap (fun k => [s.fld (R.SENS_S_VALUE k), s.regWord (0x401E0108 + 0x10 * k)])))

/-! Updates -/

/-- Offset of library entry k's directory record in the NOR (Table 16-5). -/
def libEntry (k : Nat) : Nat := 0x280000 + 16 * k
def State.norBytes (s : State) (o n : Nat) : List Byte := FMap.getRun 0 s.grng.nor o n
def State.norLe (s : State) (o : Nat) : Nat := leNat (s.norBytes o 4)
def State.setNor (s : State) (o : Nat) (l : List Byte) : State := { s with grng := { s.grng with nor := FMap.setRun 0 s.grng.nor o l } }
/-- The first offset above every other library image. (DEDUCED, log 59, unsafe) -/
def State.libFree (s : State) (k : Nat) : Nat :=
  (List.range 256).foldl (fun m j => if j = k then m else Nat.max m (s.norLe (libEntry j) + s.norLe (libEntry j + 4))) 0x290000
/-- An UPD_STAGE is refused with a status, and its record is written. -/
def State.stageRefuse (s : State) (target : Nat) (l : List Byte) (status : Nat) : State × Option MbxAns :=
  (s.updRecord target l status, some (status, []))
/-- The STATUS that refuses an UPD_STAGE before its package is read. (DEDUCED, log 59, unsafe) -/
def State.stageBad (s : State) (a : List Nat) : Option Nat :=
  let k := arg a 0 % 256
  if a.length ≠ 4 ∨ 2 < k ∨ (k ≤ 1 ∧ k = s.grng.active) ∨ arg a 3 = 0 ∨ (k ≤ 1 ∧ 0x100000 < arg a 3) then some 2
  else if s.grng.staging.isSome then some 3
  else if s.bit R.GRNG_STATUS_TRIAL then some 6
  else none
/-- UPD_STAGE: the package is verified, and programming starts; the answer follows it. (DEDUCED, log 59, unsafe) -/
def State.mbxStage (s : State) (a : List Nat) (tag : Nat) (mgmt : Bool) : State × Option MbxAns :=
  let t := arg a 0
  let k := t % 256
  let dst := arg a 1 + arg a 2 * 0x100000000
  match s.stageBad a with
  | some st => (s, some (st, []))
  | none =>
    match s.readShared 0 dst (arg a 3) 0 with
    | (none, s1) => (s1, some (2, []))
    | (some l, s1) =>
      if k ≤ 1 ∧ !s1.pkgVerifies l then s1.verifyFailed.stageRefuse k l 4
      else if k ≤ 1 ∧ pkgSecVer l < s1.fld (R.LCS_CNT 0) then s1.stageRefuse k l 5
      else ({ s1 with grng := { s1.grng with staging := some (t % 65536, l, tag, mgmt), staged := none } }, none)
/-- The programming of a stage ends; a failure leaves the slot invalid (UPD_STAGE_COMPLETE). (DEDUCED, log 59, unsafe) -/
def State.stageDone (s : State) (ok : Bool) : State :=
  match s.grng.staging with
  | none => s
  | some (t, l, tag, mgmt) =>
    let k := t % 256
    let s1 := { s with grng := { s.grng with staging := none } }
    let s2 :=
      if k ≤ 1 then
        (let s3 := s1.setFwSlot k (if ok then ⟨true, l⟩ else FwSlot.none)
         { s3 with grng := { s3.grng with staged := if ok then some k else none } })
      else if ok then
        (let o := s1.libFree (t / 256)
         (s1.setNor o l).setNor (libEntry (t / 256)) (leBytes 4 o ++ leBytes 4 l.length ++ leBytes 4 (leAt l 8 4) ++ leBytes 4 (crc32c l)))
      else s1.setNor (libEntry (t / 256)) (leBytes 16 0)
    (s2.updRecord k l (if ok then 0 else 7)).mbxAnswer mgmt 0x10 tag (if ok then 0 else 7, [])
/-- UPD_ACTIVATE: answered, then the Grange restarts into the staged slot. -/
def State.mbxActivate (s : State) (via : Mbx) (tag : Nat) : State × Option MbxAns :=
  match s.grng.staged with
  | none => (s, some (6, []))
  | some k => s.mbxThen via 0x11 tag (0, []) (fun t => t.grangeTrial k)
/-- UPD_CONFIRM: the slot on trial becomes active, and counter 0 rises to its SEC_VER. -/
def State.mbxConfirm (s : State) : State × Option MbxAns :=
  if s.bit R.GRNG_STATUS_TRIAL then
    let k := s.fld R.GRNG_STATUS_SLOT
    let l := (s.fwSlot k).bytes
    let s1 := { s with grng := { s.grng with active := k } }.setFld R.GRNG_STATUS_TRIAL 0
    ((s1.setFld (R.LCS_CNT 0) (Nat.max (s1.fld (R.LCS_CNT 0)) (pkgSecVer l))).updRecord k l 0, some (0, []))
  else (s, some (6, []))
/-- The library image that a LIB_LOAD copies, or the STATUS that refuses it: a bad argument, a bad CRC. (DEDUCED, log 59, unsafe) -/
def State.libImage (s : State) (a : List Nat) : Nat × List Byte :=
  let e := libEntry (arg a 0)
  let n := s.norLe (e + 4)
  if a.length ≠ 3 ∨ 255 < arg a 0 ∨ n = 0 ∨ 0x10000000 < n then (2, [])
  else
    let l := s.norBytes (s.norLe e) n
    if crc32c l ≠ s.norLe (e + 12) then (7, []) else (0, l)
/-- LIB_LOAD: a library image is copied to an address. -/
def State.mbxLibLoad (s : State) (a : List Nat) : State × Option MbxAns :=
  match s.libImage a with
  | (0, l) =>
    (match s.writeShared 0 (arg a 1 + arg a 2 * 0x100000000) l 0 with
      | (true, s1) => (s1, some (0, [l.length]))
      | (false, s1) => (s1, some (2, [])))
  | (st, _) => (s, some (st, []))
/-- SNAP_SAVE: the working copy as snapshot k. (DEDUCED, log 57, unsafe) -/
def State.mbxSnapSave (s : State) (a : List Nat) : State × Option MbxAns :=
  if a.length ≠ 1 ∨ 7 < arg a 0 then (s, some (2, []))
  else (s.setNor (0x200000 + 0x10000 * arg a 0) (cfgImage 0 s.cfgWork), some (0, []))
/-- SNAP_LOAD: snapshot k becomes the working copy and is committed. -/
def State.mbxSnapLoad (s : State) (a : List Nat) : State × Option MbxAns :=
  let o := 0x200000 + 0x10000 * arg a 0
  if a.length ≠ 1 ∨ 7 < arg a 0 then (s, some (2, []))
  else
    match cfgBody (s.norBytes o (16 + Nat.min (s.norLe (o + 8)) cfgMax)) with
    | some b => (((s.cfgTake b).cfgCommit).2, some (0, []))
    | none => (s, some (7, []))

/-! Life cycle -/

/-- Is a transition in Table 16-7, and does it take a token? -/
def lcPath (old new : Nat) : Option Bool :=
  if old = 0 ∧ (new = 1 ∨ new = 4) then some false
  else if old = 1 ∧ new = 2 then some false
  else if old = 2 ∧ new = 3 then some true
  else if old = 3 ∧ new = 2 then some false
  else if (1 ≤ old ∧ old ≤ 3) ∧ new = 4 then some true
  else none
/-- The message that a token signs (R409). (DEDUCED, log 60, unsafe) -/
def State.tokenMsg (s : State) (new : Nat) : List Byte :=
  leBytes 8 Config.uid ++ leBytes 4 new ++ leBytes 4 (s.fld (R.LCS_CNT 1)) ++ leBytes 4 (s.fld R.SYS_ID) ++ leBytes 12 0
/-- A refused request: its code, and the answer. -/
def State.lcRefuse (s : State) (code status : Nat) : State × Option MbxAns := (s.setFld R.LCS_LC_STATUS code, some (status, []))
/-- LC_REQUEST: refused, or accepted with PENDING and a chip warm reset. -/
def State.mbxLcRequest (s : State) (via : Mbx) (a : List Nat) : State × Option MbxAns :=
  let old := s.fld R.LCS_STATE_STATE
  let new := arg a 0
  if (mgmtOf via) then (s, some (6, []))
  else if a.length ≠ 1 ∧ a.length ≠ 17 then (s, some (2, []))
  else if s.grng.staging.isSome then (s, some (3, []))
  else
    match lcPath old new with
    | none => s.lcRefuse 0x70 6
    | some token =>
      if token ∧ !s.keyVerifies 0 (s.tokenMsg new) (bytesOf (a.drop 1)) then s.verifyFailed.lcRefuse 0x71 8
      else if new = 1 ∧ s.fld R.LCS_KEYVALID = 0 then s.lcRefuse 0x72 6
      else
        let s1 := { s with lcs := { s.lcs with target := new } }.setFld R.LCS_STATE_PENDING 1
        ((if token then s1.count (R.LCS_CNT 1) 1 else s1).warmReset 6, none)
/-- KEY_WRITE. -/
def State.mbxKeyWrite (s : State) (via : Mbx) (a : List Nat) : State × Option MbxAns :=
  if (mgmtOf via) ∨ 1 < s.fld R.LCS_STATE_STATE then (s, some (6, []))
  else if a.length ≠ 17 ∨ 3 < arg a 0 then (s, some (2, []))
  else
    let s1 := { s with lcs := { s.lcs with keys := FMap.set [] s.lcs.keys (arg a 0) (bytesOf (a.drop 1)) } }
    (s1.orFld R.LCS_KEYVALID (2 ^ arg a 0), some (0, []))
/-- CNT_INC. -/
def State.mbxCntInc (s : State) (a : List Nat) : State × Option MbxAns :=
  if a.length ≠ 1 ∨ arg a 0 < 2 ∨ 7 < arg a 0 then (s, some (2, []))
  else
    let s1 := s.count (R.LCS_CNT (arg a 0)) 1
    (s1, some (0, [s1.fld (R.LCS_CNT (arg a 0))]))
/-- WIPE_CFG. The MRAM write takes up to 1 µs (R412). (DEDUCED, log 60, unsafe) -/
def State.mbxWipeCfg (s : State) (via : Mbx) (a : List Nat) : State × Option MbxAns :=
  if (mgmtOf via) ∨ s.fld R.LCS_STATE_STATE = 4 then (s, some (6, []))
  else if a.length ≠ 1 ∨ 1 < arg a 0 then (s, some (2, []))
  else
    let old := match s.lcs.wiping with | some (o, _) => o | none => s.fld R.LCS_CTRL
    ({ s.setFld R.LCS_CTRL (arg a 0) with lcs := { s.lcs with wiping := some (old, 0) } }, some (0, [arg a 0]))

/-! Outbound DMA -/

/-- May a copy of the length in `GRNG.ODMA_LEN` start (R411)? (DEDUCED, log 23, unsafe) -/
def State.odmaLenOk (s : State) : Bool :=
  let n := s.fld R.GRNG_ODMA_LEN
  decide (4 ≤ n) && decide (n ≤ 0x100000) && decide (n % 4 = 0)
/-- ODMA_START. A length outside R411 starts nothing. (DEDUCED, log 23, unsafe) -/
def State.odmaStart (s : State) : State := if s.odmaLenOk then s.setFld R.GRNG_ODMA_CTRL_START 1 else s

end Sys2Proof.Machine
end

