-- ==== Sys2Proof/Machine/Run.lean ====
section
/-!
DEFINITION. Starting and stopping the tick sequencer (R17, R18, R38, R39).
-/

namespace Sys2Proof.Machine

/-- Was the seed written in the tick in which RUN is now set (R39)? Written since the last boundary it was while boundaries fall; while none
falls the model does not see ticks pass, and a free value says. -/
def State.seedInTick (s : State) : Bool × State :=
  if !(s.bit R.TICK_CTRL_TBASE && s.tick.seedNew) then (false, s)
  else if s.bit R.TICK_STATUS_RUNNING then (true, s)
  else let (v, s1) := s.takeFree; (decide (v % 2 = 1), s1)
/-- `TICK.CTRL.RUN` is set: the sequencer waits for the first boundary; TBASE is taken now. In RETIRED the datapath is held in reset (R409). (DEDUCED, log 25, unsafe) -/
def State.runSet (s : State) : State :=
  if s.bit R.TICK_CTRL_RUN || decide (s.fld R.LCS_STATE_STATE = 4) then s
  else
    let (late, s0) := s.seedInTick
    let s1 := s0.setFld R.TICK_CTRL_RUN 1
    let s2 := { s1 with tick := { s1.tick with starting := true, localBase := s1.bit R.TICK_CTRL_TBASE, seedLate := late },
                        fab := { s1.fab with started := 0, stopAt := none } }
    s2.clkRunSet.sapRunSet.pairRunSet
/-- An armed action across a stop: it stays armed only where a free value says so (R39). (DEDUCED, log 25, unsafe) -/
def State.keepsArmed (s : State) : Bool × State := let (v, s1) := s.takeFree; (decide (v % 2 = 1), s1)
/-- Armed switch, patch and AT interrupt, and the changeovers that a switch still has before it, when RUN is cleared (R39, R124): whether each goes on is
free. (DEDUCED, log 25, unsafe) -/
def State.armedRunClear (s : State) : State :=
  let s0 := if s.img.post ≠ 0 then
      let (k, u) := s.keepsArmed
      if k then u else { u with img := { u.img with post := 0, oldSlot := none } }
    else s
  let s1 := if s0.img.armed.isSome then
      let (k, u) := s0.keepsArmed
      if k then u else u.disarm (u.fld R.IMG_STATUS_CODE)
    else s0
  let s2 := if s1.img.patch.isSome then
      let (k, u) := s1.keepsArmed
      if k then u else u.patchEnd (u.fld R.IMG_PATCH_STATUS)
    else s1
  if s2.tick.atArmed.isSome then
    let (k, u) := s2.keepsArmed
    if k then u else { u with tick := { u.tick with atArmed := none } }
  else s2
/-- `TICK.CTRL.RUN` is cleared: the current tick is the last; before the first boundary nothing starts. (DEDUCED, log 25, unsafe) -/
def State.runClear (s : State) : State :=
  if s.bit R.TICK_CTRL_RUN then
    let s1 := s.setFld R.TICK_CTRL_RUN 0
    let s2 := { s1 with tick := { s1.tick with starting := false, stopping := s1.bit R.TICK_STATUS_RUNNING } }
    s2.sapRunClear.clkRunClear.armedRunClear
  else s

end Sys2Proof.Machine
end

