-- ==== Sys2Proof/Machine/Fab.lean ====
section
/-!
DEFINITION. The fabric unit (R318–R324): beacons sent, received and forwarded, the agreement checks, fencing, deputy and resuming master,
stops that the fabric follows.
-/

namespace Sys2Proof.Machine

def State.fabEn (s : State) : Bool := s.bit R.FAB_CTRL_EN
def State.fabRole (s : State) : Nat := s.fld R.FAB_CTRL_ROLE
/-- Does this engine send beacons: the master unless RESUMING, or the acting deputy (R320, R321)? -/
def State.fabSends (s : State) : Bool :=
  s.fabEn && ((decide (s.fabRole = 1) && !s.bit R.FAB_STATUS_RESUMING) || (decide (s.fabRole = 2) && s.bit R.FAB_STATUS_ACTING))
def State.fabIrq (s : State) (k : Nat) : State := s.setIrq R.FAB_IRQ_STATUS k
/-- A report of the fabric unit to the fault collector. -/
def State.fabFault (s : State) (kind addr : Nat) : State := s.fcu' 34 kind addr
/-- One tick in units of 2^-16 ns, three times over. -/
def fabTick3 : Int := 250000 * 65536
/-- The length of a beacon's body. -/
def beaconLen : Nat := 88

/-! Sending (R319, R320) -/

/-- The body of the beacon that starts here: HOPS 0; CORR is the time from the boundary to the departure, which is free. (DEDUCED, log 50, unsafe) -/
def State.beaconBody (s : State) (corr : Nat) : List Byte :=
  let next := match s.img.armed with | some (sl, _) => s.slotImage sl | none => none
  let sw := next.isSome
  let stop := s.bit R.FAB_STOP_STATUS_ARMED
  let acting := s.bit R.FAB_STATUS_ACTING
  let ns := nsOf (s.bndOf s.selCur)
  leBytes 2 0x4642 ++ leBytes 2 (s.fld R.FAB_ID_FABRIC_ID) ++ leBytes 1 (s.fld R.FAB_ID_NODE + if acting then 128 else 0) ++ leBytes 1 0 ++
  leBytes 1 (s.fld R.TICK_CTRL_RUN + (if stop then 2 else 0) + if sw then 4 else 0) ++ leBytes 1 (s.fld R.TICK_STATUS_RATE) ++
  leBytes 8 s.tick.num ++ leBytes 8 (s.reg64 R.IMG_EPOCH_LO R.IMG_EPOCH_HI) ++ leBytes 8 (s.reg64 R.IMG_HASH_LO R.IMG_HASH_HI) ++
  leBytes 4 (s.fld R.FAB_FW_VER) ++ leBytes 4 (ns % 1000000000) ++ leBytes 8 (ns / 1000000000) ++ leBytes 8 corr ++
  leBytes 8 (match next with | some i => i.epoch | none => 0) ++
  leBytes 8 (match s.img.armed with | some (_, t) => if sw then t else 0 | none => 0) ++
  leBytes 8 (if stop then s.reg64 R.FAB_STOP_AT_LO R.FAB_STOP_AT_HI else 0) ++ leBytes 8 0
/-- A beacon leaves on CHN1 and CHN2, where they are UP. -/
def State.beaconSend (s : State) : State :=
  let (c, s1) := s.takeFree
  let l := ctrlBlock 3 (s1.beaconBody c)
  [1, 2].foldl (fun st p => if st.chainUp p then st.chainSend p l else st) s1
/-- IDLE_BEACON_SEND: while no boundaries are produced. -/
def State.idleBeacon (s : State) : State := if s.fabSends ∧ !s.bit R.TICK_STATUS_RUNNING then s.beaconSend else s

/-! Receiving (R320) -/

/-- Fields of a beacon body. -/
structure Beacon where
  origin : Nat
  acting : Bool
  hops   : Nat
  flags  : Nat
  tick   : Nat
  epoch  : Nat
  hash   : Nat
  fw     : Nat
  ns     : Nat
  sec    : Nat
  corr   : Int
  swEpoch : Nat
  swAt   : Nat
  runAt  : Nat
  deriving DecidableEq, Repr
/-- A body read as a beacon. -/
def beaconParse (b : List Byte) : Beacon :=
  ⟨leAt b 4 1 % 16, bitOf (leAt b 4 1) 7, leAt b 5 1 % 16, leAt b 6 1, leAt b 8 8, leAt b 16 8, leAt b 24 8, leAt b 32 4, leAt b 36 4,
    leAt b 40 8 % 0x1000000000000, signedOf 64 (leAt b 48 8), leAt b 56 8, leAt b 64 8, leAt b 72 8⟩
/-- Is a body that of a valid beacon? -/
def State.beaconOk (s : State) (b : List Byte) : Bool :=
  let x := beaconParse b
  decide (b.length = beaconLen) && decide (leAt b 0 2 = 0x4642) && decide (leAt b 2 2 = s.fld R.FAB_ID_FABRIC_ID) &&
  ((!x.acting && decide (x.origin = s.fld R.FAB_ID_MASTER_ID)) ||
   (x.acting && s.bit R.FAB_ID_DEPUTY_EN && decide (x.origin = s.fld R.FAB_ID_DEPUTY_ID)))
/-- Replace bytes of a list. -/
def patchList (l : List Byte) (o : Nat) (x : List Byte) : List Byte := l.take o ++ x ++ l.drop (o + x.length)
/-- A beacon goes on out of the other ring port, with the residence time in CORR and one hop more. (DEDUCED, log 50, unsafe) -/
def State.beaconForward (s : State) (p : Nat) (b : List Byte) (corr residence : Int) : State :=
  let x := beaconParse b
  if x.hops = 15 ∨ x.origin = s.fld R.FAB_ID_NODE ∨ !s.chainUp (3 - p) then s
  else
    let b1 := patchList (patchList b 5 (leBytes 1 (x.hops + 1))) 48 (leBytes 8 (unsignedOf 64 (corr + residence)))
    s.chainSend (3 - p) (ctrlBlock 3 b1)
/-- The order in which a follower prefers beacons: of the real master, of fewer hops, from CHN1. -/
def beaconBetter (a b : Bool × Nat × Nat) : Bool :=
  let r (x : Bool × Nat × Nat) : Nat := (if x.1 then 1000 else 0) + x.2.1 * 10 + x.2.2
  decide (r a < r b)
/-- Fence reasons change: each new one is reported (R322). -/
def State.setFence (s : State) (k : Nat) (on : Bool) : State :=
  let was := bitOf (s.fld R.FAB_STATUS_FENCE) k
  let s1 := s.setFld R.FAB_STATUS_FENCE (putBit (s.fld R.FAB_STATUS_FENCE) k on)
  if on ∧ !was then s1.fabFault 1 (s1.fld R.FAB_STATUS_FENCE) else s1
/-- The registers that show the beacon in use. -/
def State.beaconShow (s : State) (x : Beacon) : State :=
  let changed := s.fab.had && decide (s.fld R.FAB_STATUS_BEACON_FROM ≠ x.origin)
  let s1 := ((s.setFld R.FAB_STATUS_BEACON_FROM x.origin).setFld R.FAB_STATUS_HOPS x.hops).setReg64 R.FAB_BCN_TICK_LO R.FAB_BCN_TICK_HI x.tick
  let s2 := (s1.setReg64 R.FAB_BCN_EPOCH_LO R.FAB_BCN_EPOCH_HI x.epoch).setReg64 R.FAB_BCN_HASH_LO R.FAB_BCN_HASH_HI x.hash
  let s3 := ((s2.setFld R.FAB_BCN_FW x.fw).setFld R.FAB_BCN_TIME_NS x.ns).setFld R.FAB_BCN_TIME_SEC x.sec
  let s4 := { s3 with fab := { s3.fab with had := true } }
  if changed then s4.fabIrq 3 else s4

/-! Agreement (R322, R324) -/

/-- The offset of the nearest own boundary from the master's boundary, in units of 2^-16 ns times 3. -/
def offset3 (masterBnd : Int) : Int :=
  let u := 3 * masterBnd
  (2 * u + fabTick3) / (2 * fabTick3) * fabTick3 - u
/-- Firmware versions: the major one decides, the minor one warns. -/
def State.versionCheck (s : State) (fw : Nat) : State :=
  let own := s.fld R.FAB_FW_VER
  let s1 := s.setFence 1 (decide (fw / 0x1000000 ≠ own / 0x1000000))
  let differs := decide (fw / 0x10000 % 256 ≠ own / 0x10000 % 256)
  let s2 := s1.setBit R.FAB_STATUS_VERSION_WARN differs
  if differs ∧ !s.bit R.FAB_STATUS_VERSION_WARN then ((s2.countSat R.FAB_EVT_CNT_VERSION 1).fabIrq 4).fabFault 2 fw else s2
/-- The epoch row: a READY image of the wanted epoch is armed (R116); without one a different epoch fences. (DEDUCED, log 50, unsafe) -/
def State.epochCheck (s : State) (x : Beacon) : State :=
  let own := s.reg64 R.IMG_EPOCH_LO R.IMG_EPOCH_HI
  let now := s.tick.num
  let ready (e : Nat) : Option Nat := if s.fld R.IMG_STATUS_CODE = 0x22 then none else s.readyWith e
  let sw := if bitOf x.flags 2 ∧ now + 2 ≤ x.swAt then (ready x.swEpoch).map (fun sl => (sl, x.swAt)) else none
  let late := if x.epoch ≠ own ∧ s.img.armed.isNone then (ready x.epoch).map (fun sl => (sl, now + 2)) else none
  let s1 := match (if sw.isSome then sw else late) with
    | some (sl, t) => if s.img.armed = some (sl, t) ∨ s.img.stage ≠ 0 then s else (s.armSwitch sl t true).fabIrq 5
    | none => s
  let held : Bool := (ready x.epoch).isSome
  s1.setFence 3 (decide (x.epoch ≠ own) && !held)
/-- RUN_FOLLOW: a start, and a stop at RUN_AT. (DEDUCED, log 50, unsafe) -/
def State.runFollow (s : State) (x : Beacon) : State :=
  if s.bit R.FAB_CTRL_RUN_FOLLOW then
    let stop := bitOf x.flags 1
    if bitOf x.flags 0 ∧ !s.bit R.TICK_CTRL_RUN ∧ !(stop ∧ x.runAt ≤ x.tick) then s.runSet
    else if stop ∧ s.bit R.TICK_CTRL_RUN then
      (if x.runAt ≤ s.tick.num then s.runClear else { s with fab := { s.fab with stopAt := some x.runAt } })
    else s
  else s
/-- A follower uses a beacon: every row of Table 12-6. (DEDUCED, log 50, unsafe) -/
def State.beaconUse (s : State) (x : Beacon) (masterBnd : Int) : State :=
  let o3 := offset3 masterBnd
  let s1 := (s.beaconShow x).setSFld R.FAB_OFFSET ((2 * o3 + 3 * 65536) / (6 * 65536))
  let s2 := s1.setFence 0 (decide (x.hash ≠ s1.reg64 R.IMG_HASH_LO R.IMG_HASH_HI))
  let s3 := s2.versionCheck x.fw
  let far := decide ((3 * 65536 * s3.fld R.FAB_FENCE_FENCE_NS : Nat) < o3.natAbs)
  let s4 := if far then s3.setFence 2 true else s3
  let near := decide (o3.natAbs ≤ 3 * 65536 * s4.fld R.FAB_FENCE_REJOIN_NS)
  let s5 := { s4 with fab := { s4.fab with rejoin := if near then s4.fab.rejoin else 0, near := near } }
  let s6 := { s5 with fab := { s5.fab with
    realign := if s5.bit R.TICK_STATUS_RUNNING ∧ bitOf x.flags 0 ∧ x.tick ≠ s5.tick.num then some (x.tick + 1) else none } }
  (s6.epochCheck x).runFollow x
/-- Does this engine follow: not while it sends beacons of its own? -/
def State.follows (s : State) : Bool := s.fabEn && !s.fabSends
/-- At the end of a tick the follower uses the best beacon of it: one valid beacon a tick (R320). -/
def State.beaconTurn (s : State) : State :=
  match s.fab.cand with
  | some (b, bnd) => ({ s with fab := { s.fab with cand := none } }).beaconUse (beaconParse b) bnd
  | none => s
/-- BEACON_RECEIVE on a ring port: forwarded at once; while boundaries fall, the tick's best beacon is used at its end, and without boundaries each
is used as it comes. `arrival` after the last own boundary, and the `residence` before forwarding, in units of 2^-16 ns. -/
def State.beaconReceive (s : State) (p : Nat) (l : List Byte) (arrival residence : Int) : State :=
  if (p ≠ 1 ∧ p ≠ 2) ∨ !s.fabEn ∨ !s.chainUp p then s
  else match ctrlParse l with
    | some (3, b) =>
      if !s.beaconOk b then s
      else
        let x := beaconParse b
        let corr := x.corr + (s.fld (R.CHAIN_P_DELAY p) : Int) * 65536 / 1000
        let s1 := s.beaconForward p b corr residence
        let s2 := ({ s1 with fab := { s1.fab with sinceAny := 0, sinceReal := if x.acting then s1.fab.sinceReal else 0 } }).setFld R.FAB_STATUS_NO_BEACON 0
        let s3 := if s2.fabRole = 2 ∧ s2.bit R.FAB_STATUS_ACTING ∧ !x.acting then { s2 with fab := { s2.fab with actStop := true } } else s2
        let s4 := if s3.fabRole = 1 ∧ x.acting ∧ s3.fab.started ≤ 12 ∧ !s3.bit R.FAB_STATUS_RESUMING then
            { s3 with fab := { s3.fab with resume := 0 } }.setFld R.FAB_STATUS_RESUMING 1
          else s3
        let rank := (x.acting, x.hops, p)
        let best : Bool := match s4.fab.used with | some u => beaconBetter rank u | none => true
        if !((s4.follows || s4.fab.actStop) && best) then s4
        else if s4.bit R.TICK_STATUS_RUNNING then { s4 with fab := { s4.fab with used := some rank, cand := some (b, arrival - corr) } }
        else ({ s4 with fab := { s4.fab with used := some rank } }).beaconUse x (arrival - corr)
    | some _ => s
    | none => s.ctrlBad p

/-! Timeouts and stops -/

/-- DEPUTY_TAKEOVER: 12 ticks without a beacon of the master. -/
def State.deputyTakeover (s : State) : State :=
  if s.fabEn ∧ s.fabRole = 2 ∧ s.bit R.FAB_ID_DEPUTY_EN ∧ !s.bit R.FAB_STATUS_ACTING ∧ 12 ≤ s.fab.sinceReal then
    ((s.setFld R.FAB_STATUS_ACTING 1).countSat R.FAB_EVT_CNT_DEPUTY 1).fabFault 3 (s.tick.num % 2 ^ 36)
  else s
/-- NO_BEACON: a follower without any valid beacon for 12 ticks; its fence bits stay. -/
def State.noBeacon (s : State) : State :=
  if s.follows ∧ 12 ≤ s.fab.sinceAny ∧ !s.bit R.FAB_STATUS_NO_BEACON then
    (((s.setFld R.FAB_STATUS_NO_BEACON 1).countSat R.FAB_EVT_CNT_NO_BEACON 1).fabIrq 2).fabFault 4 (s.tick.num % 2 ^ 36)
  else s
/-- A write of `FAB.STOP_AT_HI`: the master or the acting deputy arms a stop; on any other engine the write is ignored (R324). -/
def State.stopAtArm (s : State) (hi : Nat) : State :=
  if s.fabRole = 1 ∨ (s.fabRole = 2 ∧ s.bit R.FAB_STATUS_ACTING) then
    let s1 := s.setFld R.FAB_STOP_AT_HI hi
    let n := s1.reg64 R.FAB_STOP_AT_LO R.FAB_STOP_AT_HI
    if n < s1.tick.num + 2 then s1.setFld R.FAB_STOP_STATUS_LATE 1
    else ({ s1 with fab := { s1.fab with stopAt := some n } }).setFld R.FAB_STOP_STATUS_ARMED 1
  else s
/-- A write of `FAB.CTRL.EN`. With EN = 0 the engine neither sends nor checks beacons and is never fenced (R318). (DEDUCED, log 50, unsafe) -/
def State.fabEnWrite (s : State) (on : Bool) : State :=
  if s.fabEn = on then s
  else
    let s1 := { s with fab := { FabSt.reset with stopAt := s.fab.stopAt } }.setBit R.FAB_CTRL_EN on
    if on then s1
    else [R.FAB_STATUS_FENCE, R.FAB_STATUS_ACTING, R.FAB_STATUS_RESUMING, R.FAB_STATUS_NO_BEACON].foldl (fun t f => t.setFld f 0) s1

/-! Boundaries -/

/-- TIME ends after REJOIN_TICKS consecutive ticks within REJOIN_NS. -/
def State.rejoinTurn (s : State) : State :=
  let n := if s.fab.used.isSome ∧ s.fab.near then s.fab.rejoin + 1 else 0
  let s1 := { s with fab := { s.fab with rejoin := n } }
  if s1.fld R.FAB_REJOIN_TICKS ≤ n then s1.setFence 2 false else s1
/-- A master in RESUMING sends again after 12 consecutive ticks without a fence bit (R321). -/
def State.resumeTurn (s : State) : State :=
  if s.bit R.FAB_STATUS_RESUMING then
    let n := if s.fld R.FAB_STATUS_FENCE = 0 then s.fab.resume + 1 else 0
    let s1 := { s with fab := { s.fab with resume := n } }
    if 12 ≤ n then s1.setFld R.FAB_STATUS_RESUMING 0 else s1
  else s
/-- Fencing begins and ends at a boundary (R323). -/
def State.fenceTurn (s : State) : State :=
  let on := s.fabEn && decide (s.fld R.FAB_STATUS_FENCE ≠ 0) && !s.fabSends
  if on ∧ !s.fab.fenceOn then ({ s with fab := { s.fab with fenceOn := true } }.countSat R.FAB_EVT_CNT_FENCE 1).fabIrq 0
  else if !on ∧ s.fab.fenceOn then { s with fab := { s.fab with fenceOn := false } }.fabIrq 1
  else s
/-- A stop whose tick has come: this boundary was the last (R19, R324). -/
def State.stopTurn (s : State) (t : Nat) : State :=
  match s.fab.stopAt with
  | some n => if n ≤ t then ({ s with fab := { s.fab with stopAt := none } }.setFld R.FAB_STOP_STATUS_ARMED 0).runClear else s
  | none => s
/-- The fabric unit at a boundary, ahead of the chain ports: who sends, and who is fenced. -/
def State.fabTurn (s : State) : State :=
  if s.fabEn then
    let s1 := if s.fab.actStop then { s with fab := { s.fab with actStop := false } }.setFld R.FAB_STATUS_ACTING 0 else s
    let s2 := (s1.rejoinTurn).resumeTurn.fenceTurn
    let f := s2.fab
    { s2 with fab := { f with sinceAny := f.sinceAny + 1, sinceReal := f.sinceReal + 1, started := f.started + 1, used := none } }
  else s
/-- The fabric unit at boundary t, after the chain ports: the beacon, and a stop whose tick has come. -/
def State.fabBoundary (s : State) (t : Nat) : State := (if s.fabSends then s.beaconSend else s).stopTurn t

end Sys2Proof.Machine
end

