-- ==== Sys2Proof/Machine/Glean.lean ====
section
/-!
DEFINITION. The Gleaner (R352–R354): scrub reads of the Granary and of LPDDR5, and march tests of one segment at a time.
-/

namespace Sys2Proof.Machine

def State.gleanIrq (s : State) (k : Nat) : State := s.setIrq R.GLEAN_IRQ_STATUS k
/-- The Granary word that the next scrub read takes: the scrub position, or the start of the other half when its half is not ON. -/
def State.scrubWord (s : State) : Option Nat :=
  let w := s.mem14.scrubGran
  if s.halfState (w / 0x200000) = 0 then some w
  else if s.halfState (1 - w / 0x200000) = 0 then some ((1 - w / 0x200000) * 0x200000)
  else none
/-- What a scrub read does beyond the read itself: CE_CNT for a correction written back, UE for an uncorrectable word. -/
def State.scrubNote (s : State) (ok : Bool) (flip : Nat) : State :=
  if ok then (if flip = 1 then s.count R.GLEAN_CE_CNT 1 else s) else s.gleanIrq 1
/-- SCRUB_READ: one word through port B. (DEDUCED, log 21, unsafe) -/
def State.scrubRead (s : State) (flip : Nat) : State :=
  if s.bit R.GLEAN_CTRL_GRAN_SCRUB then
    match s.scrubWord with
    | none => s
    | some w =>
      let (ok, s1) := s.granCheck 1 (granBase + 8 * w) flip
      let s2 := s1.scrubNote ok flip
      { s2 with mem14 := { s2.mem14 with scrubGran := (w + 1) % 0x400000 } }
  else s
/-- DDR_SCRUB_READ: one line of the fitted LPDDR5. -/
def State.ddrScrub (s : State) (flip : Nat) : State :=
  if s.bit R.GLEAN_CTRL_DDR_SCRUB ∧ s.ddrSize ≠ 0 ∧ !s.bit R.PWR_STATUS_STANDBY then
    let line := s.mem14.scrubDdr % (s.ddrSize / 64)
    let (ok, s1) := s.ddrCheck (ddrBase + 64 * line) flip
    let s2 := s1.scrubNote ok flip
    { s2 with mem14 := { s2.mem14 with scrubDdr := (line + 1) % (s2.ddrSize / 64) } }
  else s
/-- A march pass is complete. -/
def State.marchPass (s : State) : State := ((s.count R.GLEAN_PASS_CNT 1).gleanIrq 2)
/-- The segment that the march tests next, and whether a pass ended before it: segments of a half that is not ON are skipped. -/
def State.marchPick (s : State) : Option (Nat × Bool) :=
  let n := s.mem14.marchNext
  if n < 4096 then
    (if s.halfState 0 = 0 then some (n, false) else if s.halfState 1 = 0 then some (4096, false) else none)
  else if s.halfState 1 = 0 then some (n, false) else if s.halfState 0 = 0 then some (0, true) else none
/-- MARCH_SEGMENT: a segment is borrowed, tested and returned; one that fails stays in the spare, and marching stops. (DEDUCED, log 21, unsafe) -/
def State.marchSegment (s : State) (pass : Bool) : State :=
  if s.bit R.GLEAN_CTRL_MARCH_EN ∧ !s.bit R.GLEAN_STATUS_REPAIRED then
    match s.marchPick with
    | none => s
    | some (n, ended) =>
      let s1 := (if ended then s.marchPass else s).setFld R.GLEAN_STATUS_SEGMENT n
      if pass then
        let s2 := { s1 with mem14 := { s1.mem14 with marchNext := (n + 1) % 8192 } }
        if n + 1 = 8192 then s2.marchPass else s2
      else
        let a := granBase + 4096 * n
        (((s1.setFld R.GLEAN_STATUS_REPAIRED 1).setFld R.GLEAN_FAIL_ADDR a).gleanIrq 0).fcu' 45 1 a
  else s
/-- The Gleaner is reset: the pass restarts at segment 0; a repair stays in force. -/
def State.gleanReset (s : State) : State :=
  let s1 := (((s.setFld R.GLEAN_STATUS_SEGMENT 0).setFld R.GLEAN_CE_CNT 0).setFld R.GLEAN_PASS_CNT 0).setFld R.GLEAN_IRQ_STATUS 0
  { s1 with mem14 := { s1.mem14 with marchNext := 0 } }

end Sys2Proof.Machine
end

