-- ==== Sys2Proof/Machine/Replay.lean ====
section
/-!
DEFINITION. What each Iator instruction does, as one operation; and the ticks that a standby replays back to back (R294, R297).
-/

namespace Sys2Proof.Machine

/-- The operation of a decoded instruction (R83–R96). -/
def operOf : Iop → Oper
  | .nop _ _ => operNop
  | .tend _ _ => operTend
  | .rts _ _ => operRts
  | .doI n la => operDo n la
  | .dor r b la => operDor r b la
  | .bra t => operBra t
  | .bcc c l t => operBcc c.val l.val t
  | .jsr t => operJsr t
  | .ldi d v => operLdi d v
  | .mul m n r d a b _ _ => if m then operMac n r d.val a.val b.val else operMpy n r d.val a.val b.val
  | .two o r d _ _ =>
    match o with
    | .add => operTwo addLane r d.val
    | .sub => operTwo subLane r d.val
    | .tfr => operTwo tfrLane r d.val
    | .cmp => operCmp r d.val
    | .max => operTwo maxLane r d.val
    | .min => operTwo minLane r d.val
    | .maxa => operTwo maxaLane r d.val
  | .one o d c _ _ =>
    match o with
    | .clr => operOne clrLane d.val
    | .rnd => operOne rndLane d.val
    | .neg => operOne negLane d.val
    | .abs => operOne absLane d.val
    | .asl => operOne (fun a => aslResult a c.toNat) d.val
    | .asr => operOne (fun a => asrResult a c.toNat) d.val
    | .fold => operFold d.val
    | .sat => operSat d.val
  | .gran o w f r g p _ _ => operGran o w f r g.val p
  | .hop p w f r h _ _ => operHop p w f r h.toNat

/-- A row of the instruction table reaches core n: the instruction at the program counter executes if it is that row's. -/
def State.iatorRow (s : State) (n wait : Nat) (row : Iop → Bool) : State :=
  s.iator n wait (fun i => if row i then some (operOf i) else none)

/-! A replayed tick -/

/-- One core runs to the end of its program; each long operation completes before the next instruction. `fuel` bounds the instructions. (DESIGN CHOICE, log 48, unsafe) -/
def State.replayCore (s : State) (n : Nat) : Nat → State
  | 0 => s
  | k + 1 =>
    if (s.core n).long.isEmpty then (if s.coreRuns n then (s.iator n 0 (fun i => some (operOf i))).replayCore n k else s.tendDone n)
    else (s.longComplete n 0 0).replayCore n k
/-- Instructions and long operations that a replayed core is given. (DESIGN CHOICE, log 48, unsafe) -/
def replayFuel : Nat := 0x40000
/-- The next command of Marver's list. -/
def State.marvOne (s : State) : State :=
  match s.marv.pos with
  | none => s
  | some i =>
    match s.marv.cmds[i]? with
    | none => s
    | some c =>
      match c.op with
      | 1 => s.marvLoad
      | 2 => s.marvClear
      | 3 => s.marvSweep []
      | 4 => s.marvSum
      | 5 => s.marvEmit
      | _ => s.marvEnd
/-- Marver's whole list. -/
def State.marvAll (s : State) : Nat → State
  | 0 => s
  | k + 1 => s.marvOne.marvAll k
/-- The history position advances by N (R152). -/
def State.histAdvance (s : State) : State := s.setFld R.MARV_HIST_WPTR ((s.fld R.MARV_HIST_WPTR + s.nsmp) % histLen)
/-- Every gather descriptor, from the buffered blocks. -/
def State.replayGather (s : State) (blocks : List (List (List Word))) : State :=
  s.bind.gather.zipIdx.foldl (fun t p => t.gatherDesc p.1 ((blocks[p.2]?).getD [])) s
/-- Every scatter descriptor, in list order. -/
def State.replayScatter (s : State) : State := s.bind.scatter.foldl (fun t d => t.scatterDesc d 0) s
/-- Is a register field kept by a replayed tick: FCU records, and the cycle, stall, limit and overdeclaration registers? -/
def replayKeeps (key : Nat) : Bool :=
  let a := key / 32
  let one (f : Fld) : Bool := decide (key = f.key)
  decide (a / 0x10000 = R.FCU_CTRL.addr / 0x10000) || one R.BIND_CYC_LAST || one R.BIND_CYC_PEAK || one R.MARV_CYC_LAST || one R.MARV_CYC_PEAK ||
  one R.IATC_OVERDECL_LO || one R.IATC_OVERDECL_HI || one R.IATC_LIMIT_LO || one R.IATC_LIMIT_HI ||
  (List.range 64).any (fun n => one (R.IATC_CYC_LAST n) || one (R.IATC_CYC_PEAK n) || one (R.IATC_STALL_LAST n)) || one R.GRNG_LOG_DROP
/-- The registers after a replayed tick: the kept ones as they were before. -/
def keepRegs (old new : FMap Nat) : FMap Nat :=
  (old.filter (fun e => replayKeeps e.1)).foldl (fun m e => (m.filter (fun x => decide (x.1 < e.1))) ++ [e] ++ m.filter (fun x => decide (e.1 < x.1)))
    (new.drop replayKeeps)
/-- REPLAY_TICK: the oldest buffered tick, from its gather to its digest. (DESIGN CHOICE, log 48, unsafe) -/
def State.replayOne (s : State) : State :=
  match s.pair.buffer with
  | [] => s
  | c :: r =>
    if !s.pair.replaying then s
    else
      let now := s.tick.num
      let s0 := { s with pair := { s.pair with replayTick := some c.tick }, tick := { s.tick with num := c.tick } }
      let s1 := ((s0.histAdvance).siloBoundary c.tick false).ringStaged.silTurns.bindOpen
      let s2 := ((List.range 64).foldl (fun t n => t.coreStart n) (s1.replayGather c.blocks)).marvStart
      let s3 := s2.marvAll (s2.marv.cmds.length + 1)
      let s4 := (List.range 64).foldl (fun t n => if t.hasProgram n then t.replayCore n replayFuel else t) s3
      let s5 := (s4.replayScatter.digestEnd.siloRecord true).marvClose.ringBoundary
      let s6 := { s5 with pair := { s5.pair with replayTick := none, buffer := r }, tick := { s5.tick with num := now }, fcu := s.fcu, grng := s.grng,
                          marv := { s5.marv with wrote := [] }, regs := keepRegs s.regs s5.regs }
      (s6.setFld R.MARV_IRQ_STATUS (putBit (s6.fld R.MARV_IRQ_STATUS) 5 (bitOf (s.fld R.MARV_IRQ_STATUS) 5))).setFld R.PAIR_REPLAY (Nat.min r.length 0xFFFF)

end Sys2Proof.Machine
end

