-- ==== Sys2Proof/Machine/BlockReset.lean ====
section
/-!
DEFINITION. Block resets (R385, R429, Table 17-4): what the reset of each block clears, and how the block resumes.
-/

namespace Sys2Proof.Machine

/-! Bus masters (R362) -/

/-- A master that is reset: its transactions in flight are retired with RESET_ABORT. -/
def State.abortMaster (s : State) (m : Nat) : State :=
  let mine := s.mem14.inflight.filter (fun x => x.1 == m)
  let s1 := { s with mem14 := { s.mem14 with inflight := s.mem14.inflight.filter (fun x => x.1 != m) } }
  mine.foldl (fun t x => t.busError 2 m x.2.1 x.2.2) s1

/-! Registers -/

/-- Counters that a read clears, and event bits, of the registers from `a` to before `b` return to their reset values. -/
def State.clearCounters (s : State) (a b : Nat) : State :=
  { s with regs := s.regs.drop (fun k => decide (a ≤ k / 32) && decide (k / 32 < b) &&
      (regFieldsAt (k / 32)).any (fun f => decide (f.lo = k % 32) && (decide (f.acc = .rc) || decide (f.acc = .w1c)))) }

/-! Blocks -/

/-- MARV: the feeds of the tick are held-last, history and FIR lines are zeroed, delays take their targets, a copy is discarded. (DEDUCED, log 54, unsafe) -/
def State.marvReset (s : State) : State :=
  let s1 := ((s.abortMaster 7).clearCounters 0x40060000 0x40070000).marvZero.delaysToTargets
  let s2 := if s1.marv.upd.isSome then s1.updEnd 0x52 else s1
  let s3 := { s2 with marv := { s2.marv with pos := none, ended := true, opened := none, acc := [], part := [], feeds := [], gsw := none } }
  ((s3.setFld R.MARV_STATUS_BUSY 0).setFld R.MARV_STATUS_GSW_ARMED 0).setFld R.MARV_HIST_WPTR 0
/-- SILO: a replay ends with ABORTED and gives 0, marks are lost, and a new ring starts. (DEDUCED, log 54, unsafe) -/
def State.siloReset (s : State) : State :=
  let s1 := s.clearCounters 0x40180000 0x40190000
  let (v, s2) := s1.takeFree
  let s3 := if s2.rpLive then s2.rpEnd 4 v else s2
  let s4 := (List.range 4).foldl (fun t m => if t.markState m = 1 then t.markGone m else t) s3
  { s4 with silo := { s4.silo with first := s4.siloWidx, cmds := [], sets := [], late := [], next := [], out := [], mode := 0, left := 0, read := false } }
/-- SAPn. -/
def State.sapBlockReset (s : State) (n : Nat) : State := (s.clearCounters (0x40081000 + 0x40 * n) (0x40081040 + 0x40 * n)).sapReset n
/-- NETn or MGMT: the PCS restarts, and the forwarding buffer is emptied. -/
def State.netReset (s : State) (n : Nat) : State :=
  let s1 := (s.clearCounters (0x400A0000 + 0x10000 * n) (0x400A0500 + 0x10000 * n)).pcsRestart n
  let s2 := s1.setNetPort n { s1.netPort n with fwd := [], lastFwd := 0, credit0 := 0, credit1 := 0, pauseTime := 0 }
  s2.pauseSet n 0
/-- STRM: receive streams enter WAITING. -/
def State.strmBlockReset (s : State) : State := ((s.abortMaster 8).clearCounters 0x400F0000 0x40100000).strmReset
/-- CHAINp: DOWN, then training. (DEDUCED, log 54, unsafe) -/
def State.chainBlockReset (s : State) (p : Nat) : State := (s.clearCounters (0x40120100 + 0x40 * p) (0x40120140 + 0x40 * p)).chainReset p
/-- An AMP group: its channels enter OFF. -/
def State.ampBlockReset (s : State) (g : Nat) : State :=
  (s.clearCounters (0x40141000 + 0x100 * g) (0x40141100 + 0x100 * g)).ampReset g
/-- HOP: one hopper is emptied, and its flags clear; it stays enabled. -/
def State.hopReset (s : State) (n : Nat) : State :=
  (((s.hopClear n).setFld (R.HOP_Q_STATUS_UNDERRUN n) 0).setFld (R.HOP_Q_STATUS_OVERFLOW n) 0).setFld (R.HOP_Q_STATUS_CFG_ERR n) 0
/-- Does block reset apply to an FCU source (R385)? (DEDUCED, log 52, unsafe) -/
def resets (src : Nat) : Bool :=
  decide (src = 4) || decide (src = 5) || (decide (6 ≤ src) && decide (src ≤ 27)) || (decide (31 ≤ src) && decide (src ≤ 33)) ||
  (decide (35 ≤ src) && decide (src ≤ 43)) || decide (src = 45) || decide (src = 46)
/-- The reset of a block, by its FCU source number; `hop` names the hopper of source 46. -/
def State.blockDo (s : State) (src hop : Nat) : State :=
  if src = 4 then s.marvReset
  else if src = 5 then s.siloReset
  else if src ≤ 21 then s.sapBlockReset (src - 6)
  else if src ≤ 26 then s.netReset (src - 22)
  else if src = 27 then s.strmBlockReset
  else if src ≤ 33 then s.chainBlockReset (src - 31)
  else if src ≤ 42 then s.ampBlockReset (src - 35)
  else if src = 45 then (s.abortMaster 9).gleanReset
  else if src = 46 then s.hopReset (hop % 64)
  else s
/-- The block of a reset: its source, and the hopper of source 46. -/
def resetKey (src hop : Nat) : Nat := if src = 46 then 46 + 128 * (hop % 64) else src
/-- Is the block still in reset? A reset lasts 1 µs; where the model has not seen 1 µs pass since it began, a free value says. -/
def State.inReset (s : State) (key : Nat) : Bool × State :=
  if s.pwr.resets.any (fun x => x.1 == key) then (let (v, s1) := s.takeFree; (decide (v % 2 = 1), s1)) else (false, s)
/-- A block reset is performed: COUNT and LAST. One that meets the block in reset is merged with the first (R433). (DEDUCED, log 54, unsafe) -/
def State.blockReset (s : State) (src hop : Nat) : State :=
  let key := resetKey src hop
  let (merged, s1) := s.inReset key
  let s2 := (s1.blockDo src hop).setFld R.RST_BLOCK_STATUS_LAST src
  if merged then s2
  else { s2.count R.RST_BLOCK_STATUS_COUNT 1 with pwr := { s2.pwr with resets := (key, 0) :: s2.pwr.resets.filter (fun x => x.1 != key) } }
/-- A write of `RST.BLOCK_CMD`. -/
def State.blockCmd (s : State) (src hop : Nat) : State := if resets src then s.blockReset src hop else s.setFld R.RST_BLOCK_STATUS_REFUSED 1

end Sys2Proof.Machine
end

