-- ==== Sys2Proof/Machine/Settle.lean ====
section
/-!
DEFINITION. The fault collector's commands (R383–R393), and what follows a command within its own time: the reactions of the messages that it
reported (R384–R389) and the MSI-X messages of the interrupts that it raised (R369).
-/

namespace Sys2Proof.Machine

def State.fcuIrq (s : State) (k : Nat) : State := s.setIrq R.FCU_IRQ_STATUS k

/-! The safe state -/

/-- The safe state is entered (Timeline 15-1). -/
def State.safeEnter (s : State) : State :=
  if s.bit R.FCU_STATUS_SAFE then s
  else
    let s1 := (s.setFld R.FCU_STATUS_SAFE 1).fcuIrq 1
    let s2 := { s1 with grng := { s1.grng with nmi := true } }
    ((s2.claimRelease).netGate true).ampSafe

/-! Commands -/

/-- CMD = RELEASE_HOLD: the hold ends at the next boundary. (DEDUCED, log 52, unsafe) -/
def State.releaseHold (s : State) : State := { s with fcu := { s.fcu with relNext := true, holdNext := false } }
/-- CMD = CLEAR_FIRST. -/
def State.clearFirst (s : State) : State :=
  (((((((s.setFld R.FCU_FIRST_LO 0).setFld R.FCU_FIRST_HI_ADDR_HI 0).setFld R.FCU_FIRST_HI_SOURCE 0).setFld R.FCU_FIRST_HI_KIND 0).setFld
    R.FCU_FIRST_HI_SEV 0).setFld R.FCU_FIRST_HI_INJ 0).setFld R.FCU_FIRST_HI_VALID 0).setReg64 R.FCU_FIRST_TICK_LO R.FCU_FIRST_TICK_HI 0
/-- The ERR_N pulse runs out. -/
def State.pulseEnd (s : State) : State := { s with fcu := { s.fcu with pulse := false } }
/-- Windows that have counted their boundaries close. -/
def State.windowsClose (s : State) : State := { s with fcu := { s.fcu with windows := s.fcu.windows.filter (fun w => w.left != 0) } }
/-- A self-fault of the collector: parity, or its two copies disagree (R393). The register whose offset the message carries is free. (DEDUCED, log 53,
safe) -/
def State.selfFault (s : State) (dual inj : Bool) : State :=
  let s1 := s.setFld (if dual then R.FCU_SELF_DUAL else R.FCU_SELF_PARITY) 1
  if s.bit R.FCU_STATUS_SAFE then s1
  else
    let (f, s2) := s1.takeFree
    s2.fcuInj 0 (if dual then 2 else 1) (f % 0x10000) inj
/-- A write of `FCU.INJECT`. The collector's own checkers, and that of the SRAM that a running Grange fetches from, make their check at once. (DEDUCED, log 53, unsafe) -/
def State.injectWrite (s : State) (v : Nat) : State :=
  let c := v % 16
  if v / 256 % 256 = 0x5A ∧ c < 10 ∧ !s.bit R.FCU_INJECT_ARMED then
    let s1 := ((s.setFld R.FCU_INJECT_CHECKER c).setFld R.FCU_INJECT_ARMED 1).setFld R.FCU_INJECT_DONE 0
    if c = 8 then (s1.selfFault false true).injDone
    else if c = 9 then (s1.selfFault true true).injDone
    else if c = 6 ∧ s1.bit R.SYS_REMAP then
      let (f, s2) := s1.takeFree
      (s2.fcuInj 50 2 (sramBase + f % 0x10000 * 4) true).injDone
    else s1
  else s

/-! Reactions -/

/-- The consequence set of a source (R389). -/
def State.conseqOf (s : State) (src : Nat) : Nat := FMap.get 0 s.fcu.conseq src
/-- A reaction opens a shadow window over the source's consequence set. -/
def State.windowOpen (s : State) (src : Nat) : State :=
  let n := s.fld R.FCU_SHADOW_TICKS
  if n = 0 then s else { s with fcu := { s.fcu with windows := s.fcu.windows ++ [⟨s.conseqOf src, n⟩] } }
/-- What a block reset is merged by: its source, and for HOP the hopper. (DEDUCED, log 52, unsafe) -/
def React.block (r : React) : Nat := if r.src = 46 then 128 + r.addr % 64 else r.src
/-- One reaction. A block that this command has reset already is still in reset, so its second reset is merged (R433). (DESIGN CHOICE, log 9, unsafe; DEDUCED, log 52, unsafe) -/
def State.react (s : State) (r : React) (done : List Nat) : State :=
  if r.code = 2 then (if done.contains r.block ∨ !resets r.src then s else s.blockReset r.src r.addr)
  else if r.code = 3 then { s with fcu := { s.fcu with holdNext := true } }
  else s.safeEnter
/-- The reactions that wait, in order, with those that they cause in turn. (DESIGN CHOICE, log 9, unsafe) -/
def State.reactAll (s : State) (done : List Nat) : Nat → State
  | 0 => s
  | fuel + 1 =>
    match s.fcu.todo with
    | [] => s
    | r :: rest =>
      let s1 := { s with fcu := { s.fcu with todo := rest } }.windowOpen r.src
      (s1.react r done).reactAll (if r.code = 2 then r.block :: done else done) fuel
/-- The next message comes in a later cycle: no tie with those before it. -/
def State.newCycle (s : State) : State := { s with fcu := { s.fcu with firstNew := false, lastNew := false } }
/-- The end of a command: the reactions of its messages, then the MSI-X messages of its interrupts. No reaction waits for a later command. (DESIGN CHOICE, log 9, unsafe) -/
def State.settle (s : State) : State :=
  let s1 := (s.newCycle.reactAll [] 512).newCycle
  { s1 with fcu := { s1.fcu with todo := [] } }.msixEdges
/-- The state after a command that did u to s: u settled. The ordering code and the waiting commands are no command's to change. (DESIGN CHOICE, log 9, unsafe) -/
def settled (s u : State) : State := { u.settle with part := s.part, pending := s.pending }
/-- A command's next state. (DESIGN CHOICE, log 9, unsafe) -/
def finish (s u : State) : Host.Outcome State Fault Refusal := .next (settled s u)

end Sys2Proof.Machine
end

