-- ==== Sys2Proof/Machine/Tick.lean ====
section
/-!
DEFINITION. The tick sequencer: what a tick's end closes, what a boundary does in its order (Timeline 1-1, R35), the window, the first and
the last boundary (R15–R26, R36–R39).
-/

namespace Sys2Proof.Machine

def State.tickIrq (s : State) (k : Nat) : State := s.setIrq R.TICK_IRQ_STATUS k
/-- A message of the sequencer: its ADDRESS is the tick number. -/
def State.tickFault (s : State) (kind : Nat) : State := s.fcu' 1 kind (s.tick.num % 2 ^ 36)

/-! The window -/

/-- The usable window starts: the cores and Marver's list start. -/
def State.windowStart (s : State) : State :=
  if s.bit R.TICK_STATUS_RUNNING ∧ !s.tick.inWindow then
    let s1 := { s with tick := { s.tick with inWindow := true } }
    if s1.computes then ((List.range 64).foldl (fun t n => t.coreStart n) s1).marvStart else s1
  else s
/-- Core n at the window end: one whose TEND has completed is done; one that has not executed TEND, or still waits in it for a long operation,
overruns (R25, R61, Table 2-7). (DEDUCED, log 26, unsafe) -/
def State.coreWindowEnd (s : State) (n : Nat) : State :=
  let t := s.tendDone n
  if t.hasProgram n ∧ t.coreBusy n then t.coreOverrun n else t
/-- The window ends: for the cores, and Marver's list must have ended; `spent` cycles of its current command have run. (DEDUCED, log 24, unsafe) -/
def State.windowEnd (s : State) (spent : Nat) : State :=
  if s.tick.inWindow ∧ !s.tick.ended then
    let s1 := { s with tick := { s.tick with ended := true } }
    if s1.computes then
      ((List.range 64).foldl (fun t n => t.coreWindowEnd n) s1).marvDeadline spent
    else s1
  else s

/-! The end of a tick -/

/-- The serial ports that the scatter list writes (R179). -/
def State.sapRouted (s : State) : List Nat :=
  (List.range 16).filter (fun n => s.sapServed n true)
/-- The Binder has not finished by the end of the trailing guard (R26). -/
def State.bindLate (s : State) : State := if s.binderLate then ((s.setFld R.TICK_LATE_BIND 1).tickIrq 5).tickFault 1 else s
/-- The tick ends: the window, the Binder's lateness, the digest, the transmit blocks, the sources and rings without a block. A tick that is
not computed here (R294) closes no more than its streams. (DEDUCED, log 24, unsafe) -/
def State.tickClose (s : State) : State :=
  let s0 := s.windowEnd 0
  if s0.computes then
    let s1 := s0.bindLate
    let s2 := if s1.tick.closed then s1 else s1.digestEnd
    ((s2.sapRouted.foldl (fun t n => t.sapWriteBlock n) s2).strmClose.bindCycles.marvClose.ringBoundary).shadowCapture
  else s0.strmClose

/-! The boundary -/

/-- The number of the next boundary: one more, or what the fabric realigns it to (R18, R322). -/
def State.nextNumber (s : State) : Nat × State :=
  match s.fab.realign with
  | some n => (n, ({ s with fab := { s.fab with realign := none } }.count R.TICK_REALIGN_CNT 1).tickIrq 3)
  | none => (s.tick.num + 1, s)
/-- The tick number becomes t; DIV and AT interrupts. -/
def State.setNumber (s : State) (t : Nat) : State :=
  let n := t % 2 ^ 64
  let s1 := { s with tick := { s.tick with num := n, inWindow := false, ended := false, seedNew := false } }
  let s2 := if n % Nat.max 1 (s1.fld R.TICK_IRQ_DIV) = 0 then s1.tickIrq 0 else s1
  match s2.tick.atArmed with
  | some a => if a ≤ n then { s2 with tick := { s2.tick with atArmed := none } }.tickIrq 1 else s2
  | none => s2
/-- The boundary's stamps, the grid's offset from the selected domain and whether it is locked (R17). -/
def State.phaseShow (s : State) : State :=
  let r : Int := if s.tick.localBase then 0 else (splitOffset (s.bndOf s.selCur)).2
  (s.setSFld R.TICK_PHASE_ERR ((2000 * r + 3 * nsUnit) / (6 * nsUnit))).showGrid
/-- The collector at a boundary: a hold begins or ends (R386). -/
def State.holdTurn (s : State) : State :=
  let s1 := if s.fcu.relNext then { s with fcu := { s.fcu with relNext := false } }.setFld R.FCU_STATUS_HOLDING 0 else s
  if s1.fcu.holdNext then { s1 with fcu := { s1.fcu with holdNext := false } }.setFld R.FCU_STATUS_HOLDING 1 else s1
/-- Open shadow windows count a boundary, after its own messages (R389). -/
def State.shadowTurn (s : State) : State :=
  { s with fcu := { s.fcu with windows := s.fcu.windows.map (fun w => { w with left := w.left - 1 }) } }
/-- Cores stopped by an overrun stand ready again (R25). -/
def State.coresReady (s : State) : State :=
  (List.range 64).foldl (fun t n => if t.fld (R.IATC_CORE_STAT_STATE n) = 4 then t.setFld (R.IATC_CORE_STAT_STATE n) 1 else t) s
/-- Does the replay of a resync end at this boundary? -/
def State.replayEnds (s : State) : Bool := s.pair.recording && s.pair.replaying && s.pair.buffer.isEmpty
/-- The history's write position advances by N over the ended tick (R152); it stands still while a standby replays, and while the domain that
holds it is off. (DEDUCED, log 39, unsafe) -/
def State.histTurn (s : State) (ended : Bool) : State := if ended && !s.pair.recording && s.domOn 6 then s.histAdvance else s
/-- Marver at boundary t. -/
def State.marvTurn (s : State) (t : Nat) : State := if s.image.isNone then s else s.marvBoundary t
/-- The Silo at boundary t; it stands still while a standby replays. -/
def State.siloTurn (s : State) (t : Nat) (ended : Bool) : State :=
  if s.replayEnds then s.siloBoundary t false else if s.pair.recording then s else s.siloBoundary t ended
/-- Everything that boundary t does after the tick has its number; `ended`: a tick came before it. The copies after a group switch and after
a route commit have ended by then (R131, R162). (DEDUCED, log 24, unsafe) -/
def State.boundary (s : State) (t : Nat) (ended : Bool) (env : BoundaryEnv) : State :=
  let s0 := s.beatsTurn.bankSynced.shadowSynced
  let s1 := ((s0.setNumber t).timeBoundary.phaseShow.holdTurn.siloTurn t ended).ringStaged
  let s2 := (((s1.histTurn ended).imgBoundary t).domTurn.rtBoundary t).patchBoundary t
  let s3 := ((((s2.marvTurn t).sapBoundary t).strmBoundary t ended).clkBoundary t).fabTurn
  let s4 := (((s3.chainBoundary t).silBoundary).ampBoundary t env).fabBoundary t
  let ends := s4.replayEnds
  let s5 := s4.pairBoundary t ended
  let s6 := if ends ∧ !s5.pair.recording then s5.histAdvance.silTurns else s5
  s6.coresReady.bindOpen.shadowTurn

/-! First, next and last -/

/-- The sequencer has stopped: no boundary falls, and RUNNING clears (R38). What the amplifier channels hold is still delivered; a realignment that
waited is gone. (DEDUCED, log 24, unsafe) -/
def State.runStop (s : State) : State :=
  if s.tick.stopping then
    let s1 := s.tickClose
    let s2 := { s1 with tick := { s1.tick with stopping := false, inWindow := false, ended := false, seedNew := false },
                        fab := { s1.fab with realign := none } }
    (((s2.setFld R.TICK_STATUS_RUNNING 0).setFld R.TICK_STATUS_LOCAL 0).showGrid).ampRunOut
  else s
/-- RUN_STOP: the instant at which the next boundary would have fallen. -/
def State.runStopAt (s : State) (dt : Nat) : State := if s.tick.stopping then (s.elapse dt).runStop else s
/-- The number of the first boundary: of its grid instant, or the seed; a seed written after RUN makes it free (R39). -/
def State.firstNumber (s : State) : Nat × State :=
  if s.tick.localBase then
    (if s.tick.seedLate then let (v, s1) := s.takeFree; (v % 2 ^ 64, s1) else (s.reg64 R.TICK_SEED_LO R.TICK_SEED_HI, s))
  else ((splitOffset (s.timeOf s.selCur)).1.toNat, s.setSFld R.TIME_GRID_OFS 0)
/-- The sequencer runs from here on: RUNNING and LOCAL. The tick before the first boundary is predicted at its nominal length. -/
def State.sequencerOn (s : State) : State :=
  let before (i : Nat) : Nat := s.timeOf i - 250000 * nsUnit / 3
  let s1 := { s with fab := { s.fab with realign := none },
                     tick := { s.tick with starting := false, seedLate := false, seedNew := false },
                     ptp := { s.ptp with bnd := FMap.set 0 (FMap.set 0 s.ptp.bnd 0 (before 0)) 1 (before 1) } }
  (s1.setFld R.TICK_STATUS_RUNNING 1).setBit R.TICK_STATUS_LOCAL s1.tick.localBase
/-- FIRST_BOUNDARY. -/
def State.firstBoundary (s : State) (env : BoundaryEnv) : State :=
  if s.tick.starting ∧ !s.bit R.TICK_STATUS_RUNNING then
    let (t, s1) := (s.elapse env.dt).firstNumber
    s1.sequencerOn.boundary t false env
  else s
/-- TICK_BOUNDARY; after RUN was cleared it is the stop of R38 instead. -/
def State.tickBoundary (s : State) (env : BoundaryEnv) : State :=
  if s.bit R.TICK_STATUS_RUNNING then
    let s1 := (s.elapse env.dt).beaconTurn
    if s1.tick.stopping then s1.runStop
    else
      let (t, s2) := s1.tickClose.nextNumber
      s2.boundary t true env
  else s

/-! Registers of the sequencer -/

/-- A write of `TICK.IRQ_AT_HI` arms the AT interrupt. -/
def State.irqAtArm (s : State) (hi : Nat) : State :=
  let s1 := s.setFld R.TICK_IRQ_AT_HI hi
  { s1 with tick := { s1.tick with atArmed := some (s1.reg64 R.TICK_IRQ_AT_LO R.TICK_IRQ_AT_HI) } }
/-- A read of `TICK.NUM_LO` latches NUM_HI. -/
def State.numLoRead (s : State) : State :=
  { s with tick := { s.tick with hiLatch := s.tick.num / 0x100000000 },
           mem14 := { s.mem14 with respBus := ⟨.ok, s.tick.num % 0x100000000⟩ } }
/-- A write of the seed in the tick in which RUN is set leaves the first number open (R39): after RUN and before the first boundary, and before RUN
when no boundary has fallen in between. (DEDUCED, log 25, unsafe) -/
def State.seedWritten (s : State) : State :=
  { s with tick := { s.tick with seedNew := true, seedLate := s.tick.seedLate || (s.tick.starting && s.tick.localBase) } }
/-- CLAIM_WATCHDOG_EXPIRY: the claim is held and no boundary fell for 3 ticks (R36). -/
def State.claimWatchdog (s : State) : State :=
  if s.holdsClaim then ((s.claimRelease.setFld R.TICK_CLAIM_WD_FIRED 1).tickIrq 4).tickFault 3 else s

end Sys2Proof.Machine
end

