-- ==== Sys2Proof/Machine/RegRead.lean ====
section
/-!
DEFINITION. Reading a register (R8–R11): its word by the access codes, RC fields cleared by the read, and the registers whose value the
engine computes, or that a read itself changes.
-/

namespace Sys2Proof.Machine

/-! By access code -/

/-- The word of a register; write-only fields read as 0 (R10). -/
def State.regPlain (s : State) (a : Nat) : Nat :=
  (regFieldsAt a).foldl (fun v f => if f.acc = .wo then v else v + s.fld f * 2 ^ f.lo) 0
/-- A read clears the RC fields of a register. -/
def State.regCleared (s : State) (a : Nat) : State :=
  (regFieldsAt a).foldl (fun t f => if f.acc = .rc then t.setFld f 0 else t) s

/-! Computed registers -/

/-- SYS (R9): the identity is hard-wired. -/
def State.readSys (s : State) (a : Nat) : Option (Nat × State) :=
  if a = 0x40000000 then some (0x56591024, s)
  else if a = 0x40000004 then some (Config.stepBase * 256 + Config.stepMetal, s)
  else if a = 0x40000008 then some (if s.hasAmp then 1 else 0, s)
  else none
/-- TICK (R37): the number and its latch, and the cycle within the tick, which the model does not know while RUNNING: a free value below
the tick's length. (DESIGN CHOICE, log 13, safe) -/
def State.readTick (s : State) (a : Nat) : Option (Nat × State) :=
  if a = 0x40040008 then some (s.tick.num % 0x100000000, s.numLoRead)
  else if a = 0x4004000C then some (s.tick.hiLatch, s)
  else if a = 0x40040018 then
    (if s.bit R.TICK_STATUS_RUNNING then
      let (v, s1) := s.takeFree
      some (v % opCycles (s.fld R.IMG_OP_CUR), s1)
     else some (0, s))
  else none
/-- IATC: the registers of a core without a program read as 0, but for CYC_PEAK (Table 2-9). -/
def State.readIatc (s : State) (a : Nat) : Option (Nat × State) :=
  let n := (a - 0x40051000) / 0x40
  if 0x40051000 ≤ a ∧ n < 64 ∧ (a - 0x40051000) % 0x40 ≠ 0x10 ∧ !s.hasProgram n then some (0, s) else none
/-- IMG: the latency entry of `IMG.LAT_INDEX`; 0 past the end of the table (R107). -/
def State.readImg (s : State) (a : Nat) : Option (Nat × State) :=
  let d := (s.bind.latency[s.fld R.IMG_LAT_INDEX]?).getD ⟨0, 0, 0, 0⟩
  if a = 0x40070068 then some (d.w0, s) else if a = 0x4007006C then some (d.w1, s) else if a = 0x40070070 then some (d.w2, s)
  else if a = 0x40070080 then some (d.w3 % 65536, s) else none
/-- BIND: the ring of `BIND.RING_SEL` and the look-ahead flags (Table 5-7). -/
def State.readBind (s : State) (a : Nat) : Option (Nat × State) :=
  let r := s.ring (s.fld R.BIND_RING_SEL)
  let n := (a - 0x40078400) / 0x10
  if a = 0x40078204 then
    some (match s.bind.stage with | some p => dringWord p.1 p.2 | none => FMap.get 0 s.bind.dring (s.fld R.BIND_RING_SEL), s)
  else if a = 0x40078208 then some (r.cap, s)
  else if a = 0x4007820C then some (r.w, s)
  else if a = 0x40078210 then some (r.mark, s)
  else if a = 0x40078214 then
    some ((if r.refused then 8 else 0) + (if r.clamp then 4 else 0) + (if r.fill then 2 else 0) + (if r.cap ≠ 0 ∧ r.inDdr then 1 else 0), s)
  else if 0x40078400 ≤ a ∧ n < 32 ∧ !s.hasAmp then some (0, s)
  else if 0x40078400 ≤ a ∧ n < 32 ∧ (a - 0x40078400) % 0x10 = 0 then
    some (s.fld (R.BIND_SIL_CTRL_EN n) + (if s.looksAhead n then 2 else 0), s)
  else none
/-- SAP: `SAP.IRQ_STATUS` shows the ports with an enabled bit set (Table 7-4). -/
def State.readSap (s : State) (a : Nat) : Option (Nat × State) :=
  if a = 0x4008001C then
    some (s.sapPortIrq + s.fld R.SAP_IRQ_STATUS_GRP * 0x10000 + s.fld R.SAP_IRQ_STATUS_START_LATE * 0x1000000, s)
  else none
/-- HOP: error masks, flags and counts; a read of POP pops (R356, R358, Table 14-11). (DEDUCED, log 14, unsafe) -/
def State.readHop (s : State) (a : Nat) : Option (Nat × State) :=
  let n := (a - 0x40091000) / 0x20
  if a = 0x40090008 then some (s.hopErr % 0x100000000, s)
  else if a = 0x4009000C then some (s.hopErr / 0x100000000, s)
  else if 0x40091000 ≤ a ∧ n < 64 then
    (if (a - 0x40091000) % 0x20 = 0xC then
      let len := (s.hop n).entries.length
      let depth := s.fld (R.HOP_Q_CFG_DEPTH n)
      let flags := (if len = 0 then 1 else 0) + (if 0 < depth ∧ depth ≤ len then 2 else 0)
      some (flags + s.fld (R.HOP_Q_STATUS_UNDERRUN n) * 4 + s.fld (R.HOP_Q_STATUS_OVERFLOW n) * 8 + s.fld (R.HOP_Q_STATUS_CFG_ERR n) * 16, s)
     else if (a - 0x40091000) % 0x20 = 0x10 then some ((s.hop n).entries.length, s)
     else if (a - 0x40091000) % 0x20 = 0x18 then some (s.hopPopRead n)
     else none)
  else none
/-- NETn and MGMT: octet counters, wake words, the stream-ID entry of `SID_INDEX` (R203, R216, R218). -/
def State.readNet (s : State) (a : Nat) : Option (Nat × State) :=
  let n := a / 0x10000 % 0x10000 - 0x400A
  let o := a % 0x10000
  if o = 0x404 then some (s.octetRead n false)
  else if o = 0x408 then some (FMap.get 0 s.net.octHi (2 * n), s)
  else if o = 0x430 then some (s.octetRead n true)
  else if o = 0x434 then some (FMap.get 0 s.net.octHi (2 * n + 1), s)
  else if o = 0x30C then some (s.wakeData n, s)
  else if 0x204 ≤ o ∧ o < 0x214 ∧ n < 4 then
    (match s.strm.sid.find? (fun e => e.port == n && e.index == s.fld (R.NET_SID_INDEX n)) with
     | some e => some (if o = 0x204 then e.w0 else if o = 0x208 then e.w1 else if o = 0x20C then e.w2 else e.w3, s)
     | none => some (0, s))
  else none
/-- STRM: the last CRF difference of the selected stream (R232). -/
def State.readStrm (s : State) (a : Nat) : Option (Nat × State) :=
  if a = 0x400F0018 then some (FMap.get 0 s.strm.crf (s.fld R.STRM_CRF_SEL), s) else none
/-- TIME: a read of `TIME.Tn_NS` latches the rest of the counter (R243). -/
def State.readTime (s : State) (a : Nat) : Option (Nat × State) :=
  if a = 0x40100108 then some (nsOf (s.timeOf 0) % 1000000000, s.timeNsRead 0)
  else if a = 0x40100188 then some (nsOf (s.timeOf 1) % 1000000000, s.timeNsRead 1)
  else none
/-- BUSM: transactions in flight of a master (R374). -/
def State.readBusm (s : State) (a : Nat) : Option (Nat × State) :=
  let m := (a - 0x40160100) / 4
  if 0x40160100 ≤ a ∧ m < 11 then some ((s.mem14.inflight.filter (fun x => x.1 == m)).length, s) else none
/-- SILO: capacity and the oldest readable index (R138, Table 5-8). -/
def State.readSilo (s : State) (a : Nat) : Option (Nat × State) :=
  if a = 0x40180014 then some (s.siloCap % 0x100000000, s)
  else if a = 0x40180020 then some (s.siloOldest % 0x100000000, s)
  else if a = 0x40180024 then some (s.siloOldest / 0x100000000 % 0x100000000, s)
  else none
/-- FCU: the pin and the windows, the reaction of the selected pair, and the record of the selected source, whose count a read clears
(R382, R384, R389, R391). -/
def State.readFcu (s : State) (a : Nat) : Option (Nat × State) :=
  let src := s.fld R.FCU_SRC_SEL
  let low : Bool := s.fcu.pulse || s.bit R.FCU_ERR_HOLD || s.bit R.FCU_STATUS_SAFE
  if a = 0x401A0004 then
    some ((if s.fcu.windows.any (fun w => w.left != 0) then 16 else 0) + (if low then 8 else 0) + s.fld R.FCU_STATUS_HOLDING * 4 +
      s.fld R.FCU_STATUS_SAFE * 2 + s.fld R.FCU_FIRST_HI_VALID, s)
  else if a = 0x401A0054 then some (s.reactionOf (s.fld R.FCU_REACT_SEL_SOURCE) (s.fld R.FCU_REACT_SEL_KIND), s)
  else if a = 0x401A005C then
    some (FMap.get 0 s.fcu.count src * 0x10000 + FMap.get 0 s.fcu.sev src * 0x4000 + FMap.get 0 s.fcu.kind src * 16,
      { s with fcu := { s.fcu with count := FMap.set 0 s.fcu.count src 0 } })
  else if 0x401A0060 ≤ a ∧ a < 0x401A0070 then some (s.conseqOf src / 0x100000000 ^ ((a - 0x401A0060) / 4) % 0x100000000, s)
  else none
/-- GRNG: the interrupt lines, and the watchdog's time, which falls from the last reading by an amount that the model does not know
(R399, R400). (DESIGN CHOICE, log 13, safe) -/
def State.readGrng (s : State) (a : Nat) : Option (Nat × State) :=
  if a = 0x401B0040 then some (maskOf 27 (fun k => s.irqLine k), s)
  else if a = 0x401B0014 ∧ s.bit R.GRNG_WDOG_EN then
    (let (v, s1) := s.takeFree
     let left := v % (s.fld R.GRNG_WDOG_LEFT + 1)
     some (left, s1.setFld R.GRNG_WDOG_LEFT left))
  else none
/-- RST: BUSY, while a block may still be in reset (R429); once it reads 0 all of them have resumed. -/
def State.readRst (s : State) (a : Nat) : Option (Nat × State) :=
  if a = 0x4002000C ∧ !s.pwr.resets.isEmpty then
    (let (v, s1) := s.takeFree
     let w := s1.regPlain a
     let s2 := s1.regCleared a
     some (if v % 2 = 1 then (w + 1, s2) else (w, { s2 with pwr := { s2.pwr with resets := [] } })))
  else none
/-- PCIE: sources 24 to 31 have no vector (R369). -/
def State.readPcie (s : State) (a : Nat) : Option (Nat × State) :=
  if 0x401C0160 ≤ a ∧ a < 0x401C0180 then some (0, s) else none
/-- LCS: the fused identity (R414). -/
def State.readLcs (s : State) (a : Nat) : Option (Nat × State) :=
  if a = 0x401D0008 then some (Config.uid % 0x100000000, s)
  else if a = 0x401D000C then some (Config.uid / 0x100000000 % 0x100000000, s)
  else none
/-- CLK: W60, which is FREERUN_WORD without a 60 s mean (R271), and the fixed rates of references 4 to 7 (Table 10-6). -/
def State.readClk (s : State) (a : Nat) : Option (Nat × State) :=
  let n := (a - 0x40030100) / 0x20
  if a = 0x40030060 then some (unsignedOf 32 s.w60, s)
  else if 0x40030180 ≤ a ∧ n < 8 ∧ a % 0x20 = 4 then some (s.refHz n, s)
  else none
/-- The registers of a block that the engine computes. -/
def State.regComputed (s : State) (a : Nat) : Option (Nat × State) :=
  match a / 0x10000 with
  | 0x4000 => s.readSys a
  | 0x4002 => s.readRst a
  | 0x4003 => s.readClk a
  | 0x4004 => s.readTick a
  | 0x4005 => s.readIatc a
  | 0x4007 => if a % 0x10000 < 0x8000 then s.readImg a else s.readBind a
  | 0x4008 => s.readSap a
  | 0x4009 => s.readHop a
  | 0x400A => s.readNet a
  | 0x400B => s.readNet a
  | 0x400C => s.readNet a
  | 0x400D => s.readNet a
  | 0x400E => s.readNet a
  | 0x400F => s.readStrm a
  | 0x4010 => s.readTime a
  | 0x4014 => if s.hasAmp then none else some (0, s)
  | 0x4016 => s.readBusm a
  | 0x4018 => s.readSilo a
  | 0x401A => s.readFcu a
  | 0x401B => s.readGrng a
  | 0x401C => s.readPcie a
  | 0x401D => s.readLcs a
  | _ => none

/-- A read of the register word at `a`, by the host or the Grange: its value, and the state that the read leaves. -/
def State.regRead (s : State) (a : Nat) : Nat × State :=
  match s.regComputed a with
  | some r => r
  | none => (s.regPlain a, s.regCleared a)

/-! The answer of an access -/

/-- The answer of the last register access or bus transaction. -/
def State.respond (s : State) (st : RespStatus) (data : Nat) : State := { s with mem14 := { s.mem14 with respBus := ⟨st, data⟩ } }
/-- Does an address lie in a register block? -/
def inRegs (a : Nat) : Bool := decide (0x40000000 ≤ a) && decide (a < 0x401F0000)
/-- A register read with its answer: an error where the block's domain is off (R424). -/
def State.regReadCmd (s : State) (a : Nat) : State :=
  match s.domBlocks a with
  | some d => (s.respond .error 0).domFault d
  | none => let (v, s1) := s.regRead a; s1.respond .ok v

end Sys2Proof.Machine
end

