-- ==== Sys2Proof/Machine/RegWrite.lean ====
section
/-!
DEFINITION. Writing a register (R8–R12): fields by their access codes, the registers whose write is a command or is guarded, and the writes
that the spec lists as host errors with unpredictable results (R378).
-/

namespace Sys2Proof.Machine

/-! By access code -/

/-- A write of `v` to one field by its access code. ST, WO and LK fields have rules of their own below. -/
def State.fieldWrite (s : State) (f : Fld) (v : Nat) : State :=
  match f.acc with
  | .rw => s.setFld f (bits v f.hi f.lo)
  | .w1c => s.clrFld f (bits v f.hi f.lo)
  | .w1s => s.orFld f (bits v f.hi f.lo)
  | .ro => s
  | .rc => s
  | .wo => s
  | .st => s
  | .lk => s
/-- A write of a register whose fields take effect by their access codes alone (REGISTER_WRITE, R10). -/
def State.regStore (s : State) (a v : Nat) : State := (regFieldsAt a).foldl (fun t f => t.fieldWrite f v) s

/-! Blocks with commands and guards -/

/-- SYS: only the Grange writes REMAP (R436). -/
def State.writeSys (s : State) (grange : Bool) (a v : Nat) : State := if a = 0x4000000C ∧ !grange then s else s.regStore a v
/-- PWR (R420, R424, R426). -/
def State.writePwr (s : State) (a v : Nat) : State :=
  if a = 0x40010000 then ((s.setFld R.PWR_CTRL_MBB (bits v 1 1)).autoWrite (bitOf v 0)).forceWrite (bits v 3 2)
  else if a = 0x40010008 then s.domReqWrite v
  else if a = 0x40010028 then (if bits v 3 0 = 1 then s.standbyCmd else s)
  else s.regStore a v
/-- RST (R427, R429). -/
def State.writeRst (s : State) (grange : Bool) (a v : Nat) : State :=
  if a = 0x40020000 then s.chipWrite grange v
  else if a = 0x40020008 then s.blockCmd (bits v 6 0) (bits v 13 8)
  else s.regStore a v
/-- `CLK.CMD`: XO_RESTORE finds out whether XO_IN has run clean for 1 s; a write of the register alone does not say: a free value does. -/
def State.clkCmd (s : State) (v : Nat) : State :=
  match bits v 3 0 with
  | 1 => s.align
  | 2 => let (f, s1) := s.takeFree; s1.xoRestore (decide (f % 2 = 1))
  | 3 => s.holdoverCmd
  | _ => s
/-- `CLK.REFn_CFG`: rank, port and edge are stored, EN enters or leaves monitoring (R254, R255). -/
def State.refCfgWrite (s : State) (n v : Nat) : State :=
  let s1 := ((s.setFld (R.CLK_REF_CFG_RANK n) (bits v 2 0)).setFld (R.CLK_REF_CFG_PORT n) (if n = 7 then bits v 11 8 else 0)).setFld
    (R.CLK_REF_CFG_EDGE n) (if n < 4 then bits v 4 4 else 0)
  s1.refEnable n (bitOf v 31)
/-- CLK (R262, R267–R273). In FREERUN the control word is FREERUN_WORD (R259). (DEDUCED, log 18, unsafe) -/
def State.writeClk (s : State) (a v : Nat) : State :=
  let n := (a - 0x40030100) / 0x20
  if a = 0x40030000 then (s.regStore a v).clkSelect
  else if a = 0x40030008 then s.clkCmd v
  else if a = 0x4003000C then (if (signedOf 32 v).natAbs ≤ 41666666 then s.regStore a v else s)
  else if a = 0x4003001C then
    (let s1 := s.regStore a v
     if s1.clkState = 0 then s1.setWord (s1.sfld R.CLK_FREERUN_WORD) else s1)
  else if a = 0x40030028 then (if bits v 15 8 < bits v 23 16 then s.regStore a v else s)
  else if a = 0x40030064 then s.hoKtWrite (v % 65536)
  else if a = 0x40030068 then s.hoAgeWrite (v % 65536)
  else if a = 0x40030088 then s.outAlignArm v
  else if 0x40030100 ≤ a ∧ n < 8 ∧ a % 0x20 = 0 then s.refCfgWrite n v
  else if 0x40030100 ≤ a ∧ n < 8 ∧ a % 0x20 = 4 ∧ 4 ≤ n then s
  else s.regStore a v
/-- TICK: RUN, the seed and the AT interrupt (R17, R18, R37, R38). TBASE of the same write is taken by RUN. -/
def State.writeTick (s : State) (a v : Nat) : State :=
  if a = 0x40040000 then
    (let s1 := s.setFld R.TICK_CTRL_TBASE (bits v 1 1)
     if bitOf v 0 then s1.runSet else s1.runClear)
  else if a = 0x40040010 ∨ a = 0x40040014 then (s.regStore a v).seedWritten
  else if a = 0x40040048 then s.irqAtArm v
  else s.regStore a v
/-- MARV: group switches, update copies, staged SLEW values (R154, R162, R163). (DEDUCED, log 18, unsafe) -/
def State.writeMarv (s : State) (a v : Nat) : State :=
  if a = 0x4006003C then
    (match bits v 3 0 with
     | 1 => s.updCopy
     | 2 => let (f, s1) := s.takeFree; s1.updAbort f
     | _ => s)
  else if a = 0x40060058 then (s.setFld R.MARV_GSW_AT_HI v).gswArm
  else if 0x40060100 ≤ a ∧ a < 0x40060140 then s.setFld (R.MARV_SLEW ((a - 0x40060100) / 4)) (v % 65536)
  else s.regStore a v
/-- `IMG.CMD`. -/
def State.imgCmd (s : State) (v : Nat) : State :=
  match bits v 3 0 with
  | 1 => s.imgLoad (bits v 8 8)
  | 2 => s.cancelSwitch
  | 3 => s.cancelPatch
  | 4 => s.imgDiscard
  | _ => s
/-- IMG (R109, R114, R118). -/
def State.writeImg (s : State) (a v : Nat) : State :=
  if a = 0x40070004 then s.imgCmd v
  else if a = 0x40070024 then s.switchArm v
  else if a = 0x4007004C then s.patchArm v
  else s.regStore a v
/-- `BIND.RT_CMD`. (DEDUCED, log 34, unsafe) -/
def State.rtCmd (s : State) (v : Nat) : State :=
  match bits v 3 0 with
  | 1 => s.rtWrite (bits v 9 8)
  | 2 => s.rtSetlen (bits v 9 8)
  | 3 => s.rtCancel
  | 4 => s.rtRevert (bits v 9 8)
  | _ => s.rtEdit id
/-- A write of `BIND.DRING` stages a length for the next boundary (R10, R137). (DEDUCED, log 18, unsafe; DEDUCED, log 35, unsafe) -/
def State.dringWrite (s : State) (v : Nat) : State :=
  let s1 := s.showRing (s.fld R.BIND_RING_SEL) (dringWord (bits v 23 0) (bitOf v 31))
  { s1 with bind := { s1.bind with stage := some (bits v 23 0, bitOf v 31) } }
/-- A write of `BIND.RING_STATUS` clears flags of the selected ring. -/
def State.ringStatusWrite (s : State) (v : Nat) : State :=
  let n := s.fld R.BIND_RING_SEL
  let r := s.ring n
  s.setRing n { r with refused := r.refused && !bitOf v 3, clamp := r.clamp && !bitOf v 2 }
/-- BIND (R132, R137, R144, R147). (DEDUCED, log 18, unsafe) -/
def State.writeBind (s : State) (a v : Nat) : State :=
  let n := (a - 0x40078400) / 0x10
  if a = 0x40078100 then s.rtCmd v
  else if a = 0x4007811C then s.rtAtArm v
  else if a = 0x40078204 then s.dringWrite v
  else if a = 0x40078214 then s.ringStatusWrite v
  else if 0x40078400 ≤ a ∧ n < 32 ∧ !s.hasAmp then s
  else if 0x40078400 ≤ a ∧ n < 32 ∧ a % 0x10 = 0 then (if bitOf v 0 then s.silEnSet n else s.silEnClear n)
  else s.regStore a v
/-- A write of PORT_CFG in STOPPED or FAULT (R182); a master's phase and measured clock read 0 (R174, R193). -/
def State.sapCfgWrite (s : State) (n a v : Nat) : State :=
  if s.sapState n = 0 ∨ s.sapState n = 3 then
    let s1 := s.regStore a v
    if s1.sapMaster n then
      ((s1.setFld (R.SAP_PORT_PHASE_TX n) 0).setFld (R.SAP_PORT_PHASE_RX n) 0).setFld (R.SAP_PORT_BCLK_MEAS n) 0
    else s1
  else s
/-- SAP: pin starts, tick starts, port commands; PORT_CFG only in STOPPED or FAULT (R182–R185). -/
def State.writeSap (s : State) (a v : Nat) : State :=
  let n := (a - 0x40081000) / 0x40
  if a = 0x40080000 then s.pinCtrlWrite v
  else if a = 0x4008000C then s.startAtArm v
  else if 0x40081000 ≤ a ∧ n < 16 ∧ a % 0x40 = 0 then s.sapCfgWrite n a v
  else if 0x40081000 ≤ a ∧ n < 16 ∧ a % 0x40 = 4 then
    (match bits v 3 0 with
     | 1 => s.sapArm n
     | 2 => s.sapStop n
     | _ => s)
  else s.regStore a v
/-- `HOP.Qn_CFG`: while EN = 1 only clearing EN is accepted (R355). -/
def State.hopCfgWrite (s : State) (n v : Nat) : State :=
  if s.hopEn n then (if bitOf v 31 then s else s.hopDisable n)
  else
    let s1 := (((s.setFld (R.HOP_Q_CFG_USE n) (bits v 30 29)).setFld (R.HOP_Q_CFG_CLK n) (bits v 28 28)).setFld
      (R.HOP_Q_CFG_MEM n) (bits v 27 27)).setFld (R.HOP_Q_CFG_DEPTH n) (bits v 16 0)
    if bitOf v 31 then s1.hopEnable n else s1
/-- HOP (R355, R356). -/
def State.writeHop (s : State) (a v : Nat) : State :=
  let n := (a - 0x40091000) / 0x20
  if 0x40091000 ≤ a ∧ n < 64 then
    (if a % 0x20 = 0 then s.hopCfgWrite n v
     else if a % 0x20 = 4 ∨ a % 0x20 = 8 then (if s.hopEn n then s else s.regStore a v)
     else if a % 0x20 = 0x14 then s.hopPushWrite n v
     else s.regStore a v)
  else s.regStore a v
/-- `NETn.CTRL` and `MGMT.CTRL`: a change of MODE restarts the PCS, EN bits have checks of their own (R196, R204, R205, R208). -/
def State.netCtrlWrite (s : State) (n v : Nat) : State :=
  let old := s.fld (R.NET_CTRL_MODE n)
  let rx := s.bit (R.NET_CTRL_RX_EN n)
  let tx := s.bit (R.NET_CTRL_TX_EN n)
  let a := 0x400A0000 + 0x10000 * n
  let plain := (regFieldsAt a).filter (fun f => decide (2 ≤ f.lo) && decide (f.lo ≠ 8) && (decide (f.lo ≠ 3) || decide (n = 0) || decide (n = 2)))
  let s1 := plain.foldl (fun t f => t.fieldWrite f v) s
  let s2 := if n < 4 ∧ bits v 9 8 ≠ old then s1.modeWrite n (bits v 9 8) else s1
  let s3 := if bitOf v 0 then (if rx then s2 else s2.rxEnWrite n) else s2.setFld (R.NET_CTRL_RX_EN n) 0
  if bitOf v 1 = tx then s3 else s3.txEnWrite n (bitOf v 1)
/-- `MAX_LEN`: within 1,518 to 9,216, while RX_EN = 0 and TX_EN = 0 (R197). -/
def State.maxLenWrite (s : State) (n v : Nat) : State :=
  if s.bit (R.NET_CTRL_RX_EN n) ∨ s.bit (R.NET_CTRL_TX_EN n) ∨ v % 16384 < 1518 ∨ 9216 < v % 16384 then s
  else s.setFld (R.NET_MAX_LEN n) (v % 16384)
/-- NETn and MGMT (R197, R208, R216, R217). -/
def State.writeNet (s : State) (a v : Nat) : State :=
  let n := a / 0x10000 % 0x10000 - 0x400A
  let o := a % 0x10000
  if o = 0 then s.netCtrlWrite n v
  else if o = 8 then s.maxLenWrite n v
  else if 0x18 ≤ o ∧ o < 0x40 then (if s.bit (R.NET_CTRL_TX_EN n) then s else s.regStore a v)
  else if o = 0x98 ∧ n = mgmt then s.mdioWrite v
  else if o = 0x300 then s.wakeCtrl n v
  else if o = 0x30C then s.setWakeData n v
  else s.regStore a v
/-- TIME: domain switches and counter commands (R243, R247). A write of SEL switches where it names another domain than the one in force, and
while a switch is in progress (Table 9-6). (DEDUCED, log 18, unsafe; DEDUCED, log 44, unsafe) -/
def State.writeTime (s : State) (a v : Nat) : State :=
  let cmd (i : Nat) : State := if bits v 1 0 = 1 then s.timeStep i else if bits v 1 0 = 2 then s.timeSet i else s
  if a = 0x40100000 then
    (let s1 := s.setFld R.TIME_CTRL_AUTO_SW (bits v 1 1)
     if s1.selCur = bits v 0 0 ∧ !s1.bit R.TIME_STATUS_SLEWING then s1.setFld R.TIME_CTRL_SEL (bits v 0 0) else s1.selWrite (bits v 0 0))
  else if a = 0x40100124 then cmd 0
  else if a = 0x401001A4 then cmd 1
  else s.regStore a v
/-- PAIR (R281, R287, R294, R300). (DEDUCED, log 18, unsafe) -/
def State.writePair (s : State) (a v : Nat) : State :=
  if a = 0x40110000 then
    (((((s.setFld R.PAIR_CTRL_START_WAIT (bits v 15 8)).setFld R.PAIR_CTRL_REVERT (bits v 3 3)).setFld R.PAIR_CTRL_AUTO_RESYNC
      (bits v 2 2)).setFld R.PAIR_CTRL_PREF (bits v 1 1)).pairEnWrite (bitOf v 0))
  else if a = 0x40110008 then
    (match bits v 3 0 with
     | 1 => s.resyncCmd
     | 2 => s.swapCmd
     | 3 => s.releaseCmd
     | _ => s)
  else s.regStore a v
/-- CHAIN: EN bits start and stop training; CHN0_MODE only while RUN = 0 (R305, R307). -/
def State.writeChain (s : State) (a v : Nat) : State :=
  if a = 0x40120000 then
    (let s1 := if s.bit R.TICK_CTRL_RUN then s else s.setFld R.CHAIN_CTRL_CHN0_MODE (bits v 8 8)
     (List.range 3).foldl (fun t p => if bitOf v p then t.chainEnable p else t.chainDisable p) s1)
  else s.regStore a v
/-- FAB: ROLE and ID only while EN = 0 (Table 12-9). -/
def State.writeFab (s : State) (a v : Nat) : State :=
  if a = 0x40130000 then
    (let s1 := s.setFld R.FAB_CTRL_RUN_FOLLOW (bits v 7 7)
     (if s1.fabEn then s1 else s1.setFld R.FAB_CTRL_ROLE (bits v 1 0)).fabEnWrite (bitOf v 4))
  else if a = 0x40130004 then (if s.fabEn then s else s.regStore a v)
  else if a = 0x4013004C then s.stopAtArm v
  else s.regStore a v
/-- AMP: commands; CFG, LOOP and SCALE only in OFF and LATCHED (R336). Without amplifier control the block ignores writes (R2). -/
def State.writeAmp (s : State) (a v : Nat) : State :=
  let n := (a - 0x40141000) / 0x40
  if !s.hasAmp then s
  else if a = 0x40140008 then (s.regStore a v).ampPins
  else if 0x40141000 ≤ a ∧ n < 32 ∧ a % 0x40 = 4 then
    (match bits v 3 0 with
     | 1 => s.ampStart n
     | 2 => s.ampStop n
     | 3 => s.ampClear n
     | _ => s)
  else if 0x40141000 ≤ a ∧ n < 32 ∧ (a % 0x40 = 0 ∨ a % 0x40 = 0xC ∨ a % 0x40 = 0x10) then
    (if s.ampState n = 0 ∨ s.ampState n = 6 then s.regStore a v else s)
  else s.regStore a v
/-- GRAN: each half's request by itself (R351). -/
def State.writeGran (s : State) (a v : Nat) : State :=
  if a = 0x40150000 then (s.halfRequest 0 (bits v 1 0)).halfRequest 1 (bits v 3 2) else s.regStore a v
/-- DDR: `DDR.CFG` takes one write until reset (LK). -/
def State.writeDdr (s : State) (a v : Nat) : State :=
  if a = 0x40170000 then
    (if s.mem14.ddrLocked then s
     else
      let s1 := ((s.setFld R.DDR_CFG_RATE (bits v 11 8)).setFld R.DDR_CFG_RANKS (bits v 4 4)).setFld R.DDR_CFG_SIZE (bits v 3 0)
      { s1 with mem14 := { s1.mem14 with ddrLocked := true } })
  else s.regStore a v
/-- SILO: recording, marks and replay commands; BASE and SIZE while REC = 0 (R138–R142). -/
def State.writeSilo (s : State) (a v : Nat) : State :=
  if a = 0x40180000 then
    (let s1 := s.setFld R.SILO_CTRL_TIMED (bits v 1 1)
     if bitOf v 0 then s1.recSet else s1.recClear)
  else if a = 0x40180004 ∨ a = 0x40180008 ∨ a = 0x4018000C then (if s.bit R.SILO_CTRL_REC then s else s.regStore a v)
  else if a = 0x40180030 then (if bitOf v 8 ∨ bitOf v 9 then s.siloCmd false v else s)
  else if a = 0x40180060 then (if 1 ≤ bits v 3 0 ∧ bits v 3 0 ≤ 5 then s.siloCmd true v else s)
  else s.regStore a v
/-- `FCU.REACT`: codes 5 to 7, FATAL kinds and unlisted pairs ignore writes; BLOCK_RESET of a block without a reset acts as IRQ (R384, R385). -/
def State.reactWrite (s : State) (code : Nat) : State :=
  let src := s.fld R.FCU_REACT_SEL_SOURCE
  let kind := s.fld R.FCU_REACT_SEL_KIND
  if 5 ≤ code ∨ 3 ≤ severityOf src kind then s
  else
    let c := if code = 2 ∧ !resets src then 1 else code
    { s with fcu := { s.fcu with react := FMap.set 0 s.fcu.react (src * 32 + kind) (c + 1) } }
/-- A word of the consequence set of the selected source (R389). -/
def State.conseqWrite (s : State) (k v : Nat) : State :=
  let src := s.fld R.FCU_SRC_SEL
  let old := s.conseqOf src
  let new := old - old / 0x100000000 ^ k % 0x100000000 * 0x100000000 ^ k + v * 0x100000000 ^ k
  { s with fcu := { s.fcu with conseq := FMap.set 0 s.fcu.conseq src new } }
/-- FCU (R384–R392). -/
def State.writeFcu (s : State) (a v : Nat) : State :=
  if a = 0x401A0008 then
    (match bits v 3 0 with
     | 1 => s.releaseHold
     | 2 => s.clearFirst
     | 3 => s.safeEnter
     | _ => s)
  else if a = 0x401A0054 then s.reactWrite (bits v 2 0)
  else if 0x401A0060 ≤ a ∧ a < 0x401A0070 then s.conseqWrite ((a - 0x401A0060) / 4) v
  else if a = 0x401A0080 then s.injectWrite v
  else s.regStore a v
/-- START of a copy; one that runs already goes on (R411). -/
def State.odmaRow (s : State) : State := if s.bit R.GRNG_ODMA_CTRL_START then s else s.odmaStart
/-- GRNG: the Grange alone writes it (R399–R401, R411). -/
def State.writeGrng (s : State) (a v : Nat) : State :=
  if a = 0x401B0000 then
    (let s1 := s.regStore a v
     if bitOf v 0 then s1.grangeRestart else s1)
  else if a = 0x401B0010 then s.wdogKick v
  else if a = 0x401B0034 then
    (let s1 := (s.fieldWrite R.GRNG_ODMA_CTRL_ERR v).fieldWrite R.GRNG_ODMA_CTRL_DONE v
     if bitOf v 0 then s1.odmaRow else s1)
  else s.regStore a v
/-- A write of `PCIE.DB_H2G_SET`; a package that the ROM waits for is taken at doorbell 0 (R370, R401). -/
def State.doorbellH2g (s : State) (v : Nat) : State :=
  let s1 := s.dbH2gRing v
  if bitOf v 0 ∧ s1.grng.waitHost then s1.hostPackage else s1
/-- PCIE: windows, doorbells, vectors (R367, R369, R370). -/
def State.writePcie (s : State) (a v : Nat) : State :=
  if a = 0x401C0008 then (if bits v 3 0 ≤ 12 then s.regStore a v else s)
  else if a = 0x401C0014 then s.doorbellH2g v
  else if a = 0x401C001C then s.dbG2hRing v
  else if 0x401C0160 ≤ a ∧ a < 0x401C0180 then s
  else s.regStore a v

/-- A write of the register word at `a`, by the Grange or (grange = false) by the host. Host writes of GRNG, LCS and SENS are ignored
(R399). -/
def State.regWrite (s : State) (grange : Bool) (a v : Nat) : State :=
  match a / 0x10000 with
  | 0x4000 => s.writeSys grange a v
  | 0x4001 => s.writePwr a v
  | 0x4002 => s.writeRst grange a v
  | 0x4003 => s.writeClk a v
  | 0x4004 => s.writeTick a v
  | 0x4006 => s.writeMarv a v
  | 0x4007 => if a % 0x10000 < 0x8000 then s.writeImg a v else s.writeBind a v
  | 0x4008 => s.writeSap a v
  | 0x4009 => s.writeHop a v
  | 0x400A => s.writeNet a v
  | 0x400B => s.writeNet a v
  | 0x400C => s.writeNet a v
  | 0x400D => s.writeNet a v
  | 0x400E => s.writeNet a v
  | 0x4010 => s.writeTime a v
  | 0x4011 => s.writePair a v
  | 0x4012 => s.writeChain a v
  | 0x4013 => s.writeFab a v
  | 0x4014 => s.writeAmp a v
  | 0x4015 => s.writeGran a v
  | 0x4017 => s.writeDdr a v
  | 0x4018 => s.writeSilo a v
  | 0x401A => s.writeFcu a v
  | 0x401B => if grange then s.writeGrng a v else s
  | 0x401C => s.writePcie a v
  | 0x401D => if grange then s.regStore a v else s
  | 0x401E => if grange then s.regStore a v else s
  | _ => s.regStore a v

/-! Host errors (R378) -/

/-- Is an amplifier channel of one of these groups not OFF? -/
def State.ampBusy (s : State) (groups : Nat) : Bool := (List.range 32).any (fun n => bitOf groups (n / 4) && decide (s.ampState n ≠ 0))
/-- Does the Binder serve the serial hopper's direction (R179, R180)? -/
def State.binderServes (s : State) (h : Nat) : Bool :=
  decide (h < 32) && decide (s.fld (R.HOP_Q_CFG_USE h) = 1) &&
  s.sapServed (h / 2) (h % 2 = 1)
/-- The hoppers that a port's receive side names, and those of its queues in use. -/
def State.rxHops (s : State) (n : Nat) : List Nat :=
  if s.bit (R.NET_CTRL_RX_EN n) then [s.fld (R.NET_RXQ_CFG_RX_HOP n), s.fld (R.NET_RXQ_CFG_FREE_HOP n)] else []
def State.txHops (s : State) (n : Nat) : List Nat := (List.range 8).filterMap (fun q => s.txHop n q)
/-- The hoppers of MGMT, which the Grange owns (R217). -/
def State.mgmtHops (s : State) : List Nat :=
  s.rxHops mgmt ++ s.txHops mgmt ++ (if s.bit (R.NET_TX_CPL_EN mgmt) then [s.fld (R.NET_TX_CPL_HOPPER mgmt)] else [])
/-- Does the storage of hopper n, as configured, overlap another enabled hopper's, or Granary data in use: a delay ring's, an image's ranges or its
patch buffer (R377)? (DEDUCED, log 8, safe) -/
def State.hopClash (s : State) (n : Nat) : Bool :=
  let mem (h : Nat) : Bool := s.bit (R.HOP_Q_CFG_MEM h)
  let base (h : Nat) : Nat := s.fld (R.HOP_Q_BASE h) * (if mem h then 8 else 4)
  let size (h : Nat) : Nat := 4 * s.hopWords h * s.fld (R.HOP_Q_CFG_DEPTH h)
  let meet (a k : Nat) : Bool := mem n && overlap (granBase + base n) (size n) a k
  (List.range 64).any (fun h => h != n && s.hopEn h && (mem h == mem n) && overlap (base n) (size n) (base h) (size h)) ||
  s.bind.rings.any (fun e => meet e.2.addr (4 * e.2.cap)) ||
  ([s.img.slotA, s.img.slotB].filterMap id).any (fun i =>
    i.ranges.any (fun r => meet (granBase + r.1) r.2) || meet (granBase + i.patchBase) i.patchSize)
/-- Hoppers that a network port fills. (DEDUCED, log 8, safe) -/
def State.portFills (s : State) : List Nat :=
  (List.range 5).flatMap (fun n => (if s.bit (R.NET_CTRL_RX_EN n) then [s.fld (R.NET_RXQ_CFG_RX_HOP n)] else []) ++
    (if s.bit (R.NET_TX_CPL_EN n) then [s.fld (R.NET_TX_CPL_HOPPER n)] else []))
/-- Hoppers that a network port empties. (DEDUCED, log 8, safe) -/
def State.portEmpties (s : State) : List Nat :=
  (List.range 5).flatMap (fun n => (if s.bit (R.NET_CTRL_RX_EN n) then [s.fld (R.NET_RXQ_CFG_FREE_HOP n)] else []) ++ s.txHops n)
def hasDup : List Nat → Bool
  | [] => false
  | h :: r => r.contains h || hasDup r
/-- Is port n's shaper set-up one that R223 forbids: both shapers on one queue, or CBS_LO above CBS_HI? (DEDUCED, log 8, safe) -/
def State.cbsBad (s : State) (n : Nat) : Bool :=
  let on (k : Nat) : Bool := s.bit (R.NET_CBS_CFG_EN n k)
  (on 0 && on 1 && decide (s.fld (R.NET_CBS_CFG_QUEUE n 0) = s.fld (R.NET_CBS_CFG_QUEUE n 1))) ||
  [0, 1].any (fun k => on k && decide (s.sfld (R.NET_CBS_HI n k) < s.sfld (R.NET_CBS_LO n k)))
/-- Would the word w, pushed into hopper h, post a receive buffer that overlaps one already posted (R223)? (DEDUCED, log 8, safe) -/
def State.postBad (s : State) (h w : Nat) : Bool :=
  let p := (s.hop h).pushBuf
  let entry := (p ++ [w]).foldr (fun v acc => v + 0x100000000 * acc) 0
  decide (p.length = 3) && decide (s.hopWords h = 4) &&
  (List.range 5).any (fun n => s.bit (R.NET_CTRL_RX_EN n) && decide (s.fld (R.NET_RXQ_CFG_FREE_HOP n) = h) &&
    (s.hop h).entries.any (fun d => overlap (descAddr entry) (s.fld (R.NET_RX_BUF_LEN n)) (descAddr d) (s.fld (R.NET_RX_BUF_LEN n))))
/-- Is hopper h one of R180's: a serial port's, of a direction whose mask is not 0? -/
def State.sapHopper (s : State) (h : Nat) : Bool :=
  let n := h / 2
  let e := s.sapEnt n
  decide (h < 32) && decide (s.fld (R.HOP_Q_CFG_USE h) = 1) &&
  (if h % 2 = 0 then decide (s.fld (R.SAP_PORT_RXMASK n) ≠ 0 ∨ e.rxMask ≠ 0)
   else decide (s.fld (R.SAP_PORT_TXMASK n) ≠ 0 ∨ e.txMask ≠ 0))
/-- Does one hopper serve two queues, a receive side and a queue, or a queue and a serial port (R223)? (DEDUCED, log 8, safe) -/
def State.queueClash (s : State) : Bool :=
  let q := (List.range 5).flatMap s.txHops
  hasDup (q ++ (List.range 5).flatMap s.rxHops) || q.any s.sapHopper
/-- The errors of R223 that a write to a network register makes, as the registers stand after it. (DEDUCED, log 8, safe) -/
def State.netUnsafe (s : State) (a v : Nat) : Bool :=
  let n := a / 0x10000 % 0x10000 - 0x400A
  let o := a % 0x10000
  let t := s.writeNet a v
  if 0x40 ≤ o ∧ o < 0x60 then t.cbsBad n
  else if o = 0 ∨ o = 0xC ∨ (0x20 ≤ o ∧ o < 0x40) then t.queueClash && !s.queueClash
  else false
/-- The rule that lists a register write among the errors that the engine does not check and whose results are unpredictable; none where
the write has its effect. (DEDUCED, log 8, safe) -/
def State.writeUnsafe (s : State) (grange : Bool) (a v : Nat) : Option Nat :=
  let hop := (a - 0x40091000) / 0x20
  let port := s.sapState (hop / 2)
  let st := s.clkState
  let ref := (a - 0x40030100) / 0x20
  let new : Bool := decide (v % 0x100000000 ≠ s.regWord a)
  let open' : Bool := s.fcu.windows.any (fun w => w.left != 0)
  if a = 0x40010008 ∧ !s.bit R.PWR_CTRL_AUTO ∧ s.domReqUnsafe v then some 437
  else if a = 0x40010020 ∧ new ∧ s.bit R.PWR_STATUS_PMB_BUSY then some 437
  else if 0x40030038 ≤ a ∧ a < 0x40030060 ∧ (st = 1 ∨ st = 2 ∨ st = 3) then some 277
  else if 0x40030100 ≤ a ∧ ref < 4 ∧ a % 0x20 = 4 ∧ s.bit (R.CLK_REF_CFG_EN ref) then some 277
  else if 0x40030100 ≤ a ∧ ref < 4 ∧ a % 0x20 = 0 ∧ s.bit (R.CLK_REF_CFG_EN ref) ∧ bits v 4 4 ≠ s.fld (R.CLK_REF_CFG_EDGE ref) then some 277
  else if 0x40060030 ≤ a ∧ a < 0x4006003C ∧ new ∧ s.marv.upd.isSome then some 170
  else if a = 0x40060050 ∧ new ∧ s.marv.gsw.isSome then some 170
  else if 0x40070010 ≤ a ∧ a < 0x4007001C ∧ new ∧ s.img.loading.isSome then some 124
  else if 0x40091000 ≤ a ∧ hop < 32 ∧ a % 0x20 < 0xC ∧ new ∧ (port = 1 ∨ port = 2) ∧ s.sapHopper hop then some 194
  else if 0x40091000 ≤ a ∧ hop < 32 ∧ a % 0x20 = 0x14 ∧ s.binderServes hop then some 194
  else if 0x40091000 ≤ a ∧ a < 0x40091800 ∧ !grange ∧ s.mgmtHops.contains hop then some 223
  else if 0x40091000 ≤ a ∧ a < 0x40091800 ∧ a % 0x20 = 0x14 ∧ s.postBad hop v then some 223
  else if 0x40091000 ≤ a ∧ a < 0x40091800 ∧ a % 0x20 = 0x14 ∧ s.portFills.contains hop then some 377
  else if 0x40091000 ≤ a ∧ a < 0x40091800 ∧ a % 0x20 = 0 ∧ !s.hopEn hop ∧ (s.hopCfgWrite hop v).hopEn hop ∧ (s.hopCfgWrite hop v).hopClash hop then some 377
  else if 0x400A0000 ≤ a ∧ a < 0x400F0000 ∧ s.netUnsafe a v then some 223
  else if 0x400E0000 ≤ a ∧ a < 0x400F0000 ∧ !grange then some 223
  else if a = 0x400E0098 ∧ s.bit R.MGMT_MDIO_CMD_BUSY then some 223
  else if 0x40110048 ≤ a ∧ a < 0x4011004C ∧ new ∧ (s.pair.transfer ∨ s.pair.resyncT ≠ 0) then some 304
  else if 0x4011005C ≤ a ∧ a < 0x40110068 ∧ new ∧ (s.pair.transfer ∨ s.pair.resyncT ≠ 0) then some 304
  else if a = 0x4013000C ∧ new ∧ !grange then some 328
  else if (a = 0x40140010 ∨ a = 0x40140014) ∧ s.ampBusy 0xFF then some 346
  else if a = 0x40140008 ∧ s.ampBusy ((v ^^^ s.regWord a) % 256 ||| (v ^^^ s.regWord a) / 256 % 256) then some 346
  else if (a = 0x401A0014 ∨ (0x401A0060 ≤ a ∧ a < 0x401A0070)) ∧ new ∧ open' then some 397
  else if a = 0x401C0008 ∧ new ∧ s.mem14.inflight.any (fun x => x.1 == 1) then some 377
  else if a = 0x401C0014 ∧ !grange ∧ bitOf v 0 ∧ bitOf (s.fld R.PCIE_DB_H2G) 0 then some 416
  else if 0x401C0400 ≤ a ∧ a < 0x401C0500 ∧ !grange ∧ bitOf (s.fld R.PCIE_DB_H2G) 0 then some 416
  else none

/-- The rule that lists a register read among those errors: a pop of a serial hopper that the Binder serves, or of a hopper that a network port
empties. (DEDUCED, log 8, safe) -/
def State.readUnsafe (s : State) (a : Nat) : Option Nat :=
  let hop := (a - 0x40091000) / 0x20
  if 0x40091000 ≤ a ∧ hop < 32 ∧ a % 0x20 = 0x18 ∧ s.binderServes hop then some 194
  else if 0x40091000 ≤ a ∧ hop < 64 ∧ a % 0x20 = 0x18 ∧ s.portEmpties.contains hop then some 377
  else none

/-! The answer of an access -/

/-- A row that is a register write: an error where the block's domain is off (R424), else what the row does. (DEDUCED, log 12, unsafe) -/
def State.viaReg (s : State) (a : Nat) (f : State → State) : State :=
  match s.domBlocks a with
  | some d => (s.respond .error 0).domFault d
  | none => (f s).respond .ok 0

end Sys2Proof.Machine
end

