-- ==== Sys2Proof/Machine/Bus.lean ====
section
/-!
DEFINITION. The bus matrix and the host port: paths and targets (R5, R6, R359–R363), reads and writes of every target with their checks,
host requests through the BARs (R367, R368), the bank ports of the Granary (R349), the LPDDR5 controller (R365), and the outbound DMA (R411).
-/

namespace Sys2Proof.Machine

/-! Targets -/

/-- What a bus address reaches (Table 0-5, Table 14-6). -/
inductive Target where
  | rom (offset : Nat)
  | sram (offset : Nat)
  | mram (offset : Nat)
  | gran (port : Nat)
  | core
  | marver
  | regs
  | ddr
  | default
  deriving DecidableEq, Repr

/-- Does a run of `n` bytes from `a` lie in a region? -/
def runIn (a n base size : Nat) : Bool := decide (base ≤ a) && decide (a + n ≤ base + size)
/-- Does a run lie in one mapped memory of one core (R5)? -/
def inCore (a n : Nat) : Bool :=
  runIn a n 0x20000000 0x2000000 &&
  (let o := a % 0x80000
   runIn o n 0 0x20000 || runIn o n 0x20000 0x20000 || runIn o n 0x40000 0x20000)
/-- The target of a run of `n` bytes at `a` for master m; the default target where nothing is mapped or no path exists (R6, R359). (DEDUCED, log 15, unsafe) -/
def State.target (s : State) (m a n : Nat) : Target :=
  let remap := s.bit R.SYS_REMAP
  if m = 0 ∧ runIn a n 0 0x40000 then (if remap then .sram a else if runIn a n 0 0x10000 then .rom a else .default)
  else if m = 0 ∧ runIn a n sramBase 0x40000 then
    (if !remap then .sram (a - sramBase) else if runIn a n sramBase 0x10000 then .rom (a - sramBase) else .default)
  else if m = 0 ∧ runIn a n mramBase 0x40000 then .mram (a - mramBase)
  else if runIn a n granBase 0x2000000 then .gran (granPortOf m)
  else if (m ≤ 2 ∨ m = 10) ∧ inCore a n then .core
  else if (m ≤ 2 ∨ m = 10) ∧ runIn a n marvBase 0x800000 then .marver
  else if m ≤ 1 ∧ runIn a n 0x40000000 0x1F0000 then .regs
  else if (m ≤ 2 ∨ 7 ≤ m) ∧ 0 < n ∧ s.inDdr a ∧ s.inDdr (a + n - 1) then .ddr
  else .default
/-- Numbers of the targets for parking (R361). -/
def Target.number : Target → Nat
  | .rom _ => 0
  | .sram _ => 1
  | .mram _ => 2
  | .gran p => 3 + p
  | .core => 11
  | .marver => 12
  | .regs => 13
  | .ddr => 14
  | .default => 15

/-! Checks of single targets -/

/-- The check of an SRAM or MRAM word: `code` 2 SRAM_UE with checker 6, or 3 MRAM_UE with checker 7 (R392, R398). (DESIGN CHOICE, log 19, safe) -/
def State.grangeCheck (s : State) (code checker a flip : Nat) : Bool × State :=
  if s.injArmed checker then (false, (s.fcuInj 50 code a true).injDone)
  else if 2 ≤ flip then (false, s.fcu' 50 code a)
  else (true, s)
/-- Is an MRAM offset in the secure area (Table 16-1)? -/
def inSecure (o : Nat) : Bool := decide (0x38000 ≤ o)
/-- Is a byte of the Marver window unused: the last 256 bytes of a history stride (Table 6-1)? -/
def marvUnused (a : Nat) : Bool := decide (a < marvBase + 0x200000) && decide (16128 ≤ (a - marvBase) % 0x4000)
/-- An uncorrectable Marver row: KIND 2 HIST_UE or 3 TILE_UE. -/
def State.marvUe (s : State) (a : Nat) (inj : Bool) : State :=
  (s.setIrq R.MARV_IRQ_STATUS 4).fcuInj 4 (if a < marvBase + 0x200000 then 2 else 3) a inj
/-- The check of a Marver row that a bus read reads (R167). An armed checker 2 or 3 waits for the command list of a running image. -/
def State.marvCheck (s : State) (row flip : Nat) : Bool × State :=
  let armed : Bool := (if row < marvBase + 0x200000 then s.injArmed 2 else s.injArmed 3) && s.marv.cmds.isEmpty
  if armed then (false, (s.marvUe row true).injDone)
  else if s.isBad row then (false, s.marvUe row false)
  else if 2 ≤ flip then (false, (s.markBad row).marvUe row false)
  else if flip = 1 then (true, ((s.count R.MARV_ECC_CNT 1).setIrq R.MARV_IRQ_STATUS 4).fcu' 4 1 row)
  else (true, s)
/-- The byte that a bus read of the Marver window sees. -/
def State.marvByte (s : State) (a : Nat) : Byte := if marvUnused a then 0 else s.byte a
/-- Is a byte of core memory part of a word: bits 31:24 of a data word and 63:48 of an instruction read as 0 (R5)? -/
def coreUsed (a : Nat) : Bool := if a % 0x80000 < 0x40000 then decide (a % 4 < 3) else decide (a % 8 < 6)

/-! Reads -/

/-- A read of `n` bytes at `a` by master m: how it completed, and its data as a little-endian number, 0 where it failed. (DESIGN CHOICE, log 19, safe) -/
def State.busRead (s : State) (m a n flip : Nat) : RespStatus × Nat × State :=
  match s.domBlocks a with
  | some d => if s.target m a n = .default then (.decode, 0, s.busError 0 m a false) else (.error, 0, s.domFault d)
  | none =>
    match s.target m a n with
    | .rom o => (.ok, leNat ((List.range n).map (fun i => Config.romByte (o + i))), s)
    | .sram o =>
      (match s.grangeCheck 2 6 (sramBase + o) flip with
       | (true, s1) => (.ok, s.le (sramBase + o) n, s1)
       | (false, s1) => (.error, 0, s1))
    | .mram o =>
      (match s.grangeCheck 3 7 (mramBase + o) flip with
       | (true, s1) => (.ok, leNat ((List.range n).map (fun i => if inSecure (o + i) then 0 else s.byte (mramBase + o + i))), s1)
       | (false, s1) => (.error, 0, s1))
    | .gran _ =>
      (match s.checkUnits (fun t u f => t.granCheck (bankPortOf m) u f) flip (unitsOf 8 a n) with
       | (true, s1) => (.ok, s.le a n, s1)
       | (false, s1) => (.error, 0, s1))
    | .core => (.ok, s.le a n, s)
    | .marver =>
      (match s.checkUnits (fun t u f => t.marvCheck u f) flip (marvRows a n) with
       | (true, s1) => (.ok, leNat ((List.range n).map (fun i => s.marvByte (a + i))), s1)
       | (false, s1) => (.error, 0, s1))
    | .regs => let (v, s1) := s.regRead a; (.ok, v, s1)
    | .ddr =>
      (match s.checkUnits (fun t u f => t.ddrCheck u f) flip (unitsOf 64 a n) with
       | (true, s1) => (.ok, s.le a n, s1)
       | (false, s1) => (.error, 0, s1))
    | .default => (.decode, 0, s.busError 0 m a false)

/-! Writes -/

/-- Put the enabled bytes of a run that the predicate lets through. -/
def State.putEnabled (s : State) (keep : Nat → Bool) (a : Nat) (l : List (Option Byte)) : State :=
  l.zipIdx.foldl (fun t p => match p.1 with
    | some b => if keep (a + p.2) then t.setByte (a + p.2) b else t
    | none => t) s
/-- Write the part of a run that lies in one checked unit: enabled whole, it is a plain write; narrower, a read-modify-write after the
check. -/
def State.writeUnit (s : State) (gran : Bool) (port a : Nat) (l : List (Option Byte)) (flip : Nat) : Bool × State :=
  if l.all (·.isNone) then (true, s)
  else if l.all (·.isSome) then (if gran then s.granWrite port a (l.filterMap id) flip else s.ddrWrite a (l.filterMap id) flip)
  else match (if gran then s.granCheck port a flip else s.ddrCheck a flip) with
    | (true, s1) => (true, s1.putEnabled (fun _ => true) a l)
    | (false, s1) => (false, s1)
/-- Write every unit of a run; the error `flip` is found in the first. -/
def State.writeUnits (s : State) (gran : Bool) (port flip : Nat) : List (Nat × List (Option Byte)) → Bool × State
  | [] => (true, s)
  | (a, l) :: r =>
    let (ok, s1) := s.writeUnit gran port a l flip
    let (ok2, s2) := s1.writeUnits gran port 0 r
    (ok && ok2, s2)
/-- Whole Marver rows that a run replaces are good again. -/
def State.marvRewritten (s : State) (a : Nat) (l : List (Option Byte)) : State :=
  let whole (row : Nat) : Bool := decide (a ≤ row) && decide (row + 9 ≤ a + l.length) && ((l.drop (row - a)).take 9).all (·.isSome)
  let inMarv (b : Nat) : Bool := decide (marvBase ≤ b) && decide (b < marvBase + 0x800000)
  { s with mem14 := { s.mem14 with bad := s.mem14.bad.filter (fun b => !(inMarv b && whole (marvRow b))) } }
/-- A write of a run of bytes with their enables at `a` by master m. -/
def State.busWrite (s : State) (m a : Nat) (l : List (Option Byte)) (flip : Nat) : RespStatus × State :=
  let n := l.length
  match s.domBlocks a with
  | some d => if s.target m a n = .default then (.decode, s.busError 0 m a true) else (.error, s.domFault d)
  | none =>
    match s.target m a n with
    | .rom _ => (.ok, s)
    | .sram o => (.ok, s.putEnabled (fun _ => true) (sramBase + o) l)
    | .mram o => (.ok, s.putEnabled (fun x => !inSecure (x - mramBase)) (mramBase + o) l)
    | .gran _ =>
      (match s.writeUnits true (bankPortOf m) flip (chunks 8 n a l) with
       | (true, s1) => (.ok, s1)
       | (false, s1) => (.error, s1))
    | .core => (.ok, s.putEnabled coreUsed a l)
    | .marver => (.ok, (s.putEnabled (fun x => !marvUnused x) a l).marvRewritten a l)
    | .regs => (.ok, s.regWrite (decide (m = 0)) a (leNat (l.map (fun b => b.getD 0))))
    | .ddr =>
      (match s.writeUnits false 0 flip (chunks 64 n a l) with
       | (true, s1) => (.ok, s1)
       | (false, s1) => (.error, s1))
    | .default => (.decode, s.busError 0 m a true)

/-! Accesses that the spec calls host errors (R378) -/

/-- Is a core's program in the running image, or in the image of an armed switch? (DEDUCED, log 17, safe) -/
def State.coreClaimed (s : State) (n : Nat) : Bool :=
  s.hasProgram n ||
  (match s.img.armed with
   | some (sl, _) => (match s.slotImage sl with | some i => i.has n | none => false)
   | none => false)
/-- Is a byte of a run in a transmit buffer of the host's whose descriptor is posted and not completed (R223)? (DEDUCED, log 8, safe) -/
def State.txPosted (s : State) (a n : Nat) : Bool :=
  (List.range 5).any (fun p =>
    let port := s.netPort p
    let hit (d : Nat) : Bool := decide (FMap.get [] port.bufs (descAddr d) = []) && overlap a n (descAddr d) (descLen d)
    (s.txHops p).any (fun h => (s.hop h).entries.any hit) ||
    (match port.flight with | some f => decide (f.queue < 8) && hit f.desc | none => false))
/-- The rule that lists a host write to Granary or LPDDR5 data in use: posted transmit buffers, image bytes during a load, an update list during a copy, the patch
buffer while a patch is armed, ranges of the images, delay rings, hopper storage, the Silo ring while it records. (DEDUCED, log 17, safe) -/
def State.hostDataUnsafe (s : State) (a n : Nat) : Option Nat :=
  let images := [s.img.slotA, s.img.slotB].filterMap id
  let patch : Bool := images.any (fun i => overlap a n (granBase + i.patchBase) i.patchSize)
  if (match s.img.loading with | some (_, x, k) => overlap a n x k | none => false) then some 124
  else if (match s.marv.upd with | some (x, k, _) => overlap a n x k | none => false) then some 170
  else if s.bind.rings.any (fun e => overlap a n e.2.addr (4 * e.2.cap)) then some 149
  else if s.siloOn && overlap a n s.siloBase (s.fld R.SILO_SIZE * 1024) then some 149
  else if patch then
    (match s.image with
     | some i => if s.img.patch.isSome ∧ overlap a n (granBase + i.patchBase) i.patchSize then some 124 else none
     | none => none)
  else if images.any (fun i => i.ranges.any (fun r => overlap a n (granBase + r.1) r.2)) then some 377
  else if (List.range 64).any (fun h => s.hopEn h && s.bit (R.HOP_Q_CFG_MEM h) &&
      overlap a n (granBase + 8 * s.fld (R.HOP_Q_BASE h)) (4 * s.hopWords h * s.fld (R.HOP_Q_CFG_DEPTH h))) then some 377
  else if s.txPosted a n then some 223
  else none
/-- The rule that lists an access by master m among the host errors: register accesses that are not aligned words (R8), accesses of
the host to core memory of other sizes or to memory in use, host writes to Marver memory. (DEDUCED, log 8, safe; DEDUCED, log 17, safe) -/
def State.accessUnsafe (s : State) (m a n : Nat) (data : Option (List (Option Byte))) : Option Nat :=
  let write := data.isSome
  let whole : Bool := match data with | some l => l.all (·.isSome) | none => true
  let word := leNat ((data.getD []).map (fun b => b.getD 0))
  if (s.domBlocks a).isSome then none
  else match s.target m a n with
    | .regs => if n ≠ 4 ∨ a % 4 ≠ 0 ∨ !whole then some 8 else if write then s.writeUnsafe (decide (m = 0)) a word else s.readUnsafe a
    | .core =>
      if m ≠ 1 then none
      else if a % 4 ≠ 0 ∨ n % 4 ≠ 0 ∨ !whole then some 74
      else if write ∧ s.coreClaimed (a / 0x80000 % 64) then some 74
      else none
    | .marver => if m = 1 ∧ write ∧ !marvUnused a then some 170 else none
    | .gran _ => if m = 1 ∧ write then s.hostDataUnsafe a n else none
    | .ddr => if m = 1 ∧ write then s.hostDataUnsafe a n else none
    | _ => none

/-! BUS_TRANSACTION, MATRIX_TIMEOUT -/

/-- The target that serves a transaction stays parked on its master (R361). (DEDUCED, log 15, unsafe) -/
def State.park (s : State) (t : Target) (m : Nat) : State :=
  { s with mem14 := { s.mem14 with parked := FMap.set 0 s.mem14.parked t.number (m + 1) } }
/-- Has a master, or the matrix, all the transactions in flight that it may have (R360)? (DEDUCED, log 15, unsafe) -/
def State.busFull (s : State) (m : Nat) : Bool :=
  decide (32 ≤ (s.mem14.inflight.filter (fun x => x.1 == m)).length) || decide (256 ≤ s.mem14.inflight.length)
/-- A transaction that completes: its effect and its answer. -/
def State.busDo (s : State) (m a len : Nat) (data : Option (List (Option Byte))) (flip : Nat) : State :=
  let s0 := s.park (s.target m a len) m
  match data with
  | none => let (st, v, s1) := s0.busRead m a len flip; s1.respond st v
  | some l => let (st, s1) := s0.busWrite m a l flip; s1.respond st 0
/-- A transaction is issued: it stalls, stays in flight, or completes; the default target completes it always (R6). (DEDUCED, log 15, unsafe; DESIGN CHOICE, log 68, unsafe) -/
def State.busIssue (s : State) (m : Nat) (r : BusReq) (flip : Nat) (completes : Bool) : State :=
  if s.busFull m then s.respond .stalled 0
  else if completes ∨ s.target m r.addr r.len = .default then s.busDo m r.addr r.len (r.data.map (fun l => l.map some)) flip
  else { s with mem14 := { s.mem14 with inflight := s.mem14.inflight ++ [(m, r.addr, r.data.isSome)] } }
/-- A transaction in flight is not completed within 10 µs: an error response, recorded as TIMEOUT (R362). -/
def State.busTimeout (s : State) (idx : Nat) : State :=
  match s.mem14.inflight[idx]? with
  | some (m, a, w) =>
    ({ s with mem14 := { s.mem14 with inflight := s.mem14.inflight.eraseIdx idx } }.busError 1 m a w).respond .error 0
  | none => s

/-! HOST_REQUEST (R367, R368) -/

/-- Where a BAR offset leads (Table 14-8). -/
inductive HostDest where
  | bus (addr : Nat)
  | msix (offset : Nat)
  | pba (offset : Nat)
  | unmapped
  deriving DecidableEq, Repr

/-- Where a host request leads: BAR, offset and length (Table 14-8). (DEDUCED, log 16, unsafe) -/
def State.hostDest (s : State) (bar o n : Nat) : HostDest :=
  if bar = 0 then
    (if runIn o n 0 0x1F0000 then .bus (0x40000000 + o)
     else if runIn o n 0x8000000 0x400 then .msix (o - 0x8000000)
     else if runIn o n 0x8001000 8 then .pba (o - 0x8001000)
     else .unmapped)
  else if bar = 2 then
    (if runIn o n 0 0x2000000 then .bus (granBase + o)
     else if runIn o n 0x2000000 0x2000000 then .bus (0x20000000 + (o - 0x2000000))
     else if runIn o n 0x4000000 0x1000000 then .bus (marvBase + (o - 0x4000000))
     else .unmapped)
  else if bar = 4 then (if runIn o n 0 0x100000000 then .bus (ddrBase + s.fld R.PCIE_BAR4_WIN * 0x40000000 + o) else .unmapped)
  else .unmapped
/-- The completion of a host read. -/
def State.hostAnswer (s : State) (st : RespStatus) (v : Nat) : State := { s with pcie := { s.pcie with resp := ⟨st, v⟩ } }
/-- A read answered with Unsupported Request; of a write, only the count remains. (DEDUCED, log 16, unsafe) -/
def State.hostUr (s : State) (read : Bool) : State :=
  let s1 := s.count R.PCIE_UR_CNT 1
  if read then s1.hostAnswer .unsupported 0 else s1
/-- Bytes of the MSI-X table or the pending-bit array. -/
def State.msixByte (s : State) (o : Nat) : Nat := s.msixWord (o / 4) / 256 ^ (o % 4) % 256
/-- A host write to the MSI-X table, word by word with byte enables. -/
def State.msixBytes (s : State) (o : Nat) (l : List (Option Byte)) : State :=
  ((List.range l.length).filterMap (fun i => if (o + i) % 4 = 0 ∨ i = 0 then some ((o + i) / 4) else none)).foldl (fun t w =>
    let old := t.msixWord w
    let byte (k : Nat) : Nat :=
      if o ≤ 4 * w + k then (match (l[4 * w + k - o]?).getD none with | some b => b.toNat | none => old / 256 ^ k % 256) else old / 256 ^ k % 256
    let new := byte 0 + byte 1 * 256 + byte 2 * 65536 + byte 3 * 16777216
    if new = old then t else t.msixWrite w new) s
/-- The completion status of a read that reached the matrix (R368). -/
def hostStatus : RespStatus → RespStatus
  | .decode => .unsupported
  | .error => .poisoned
  | st => st
/-- A host request through a BAR; `timeout`: the target does not complete it within 10 µs. (DEDUCED, log 16, unsafe) -/
def State.hostRun (s : State) (r : HostReq) (flip : Nat) (timeout : Bool) : State :=
  if !s.bit R.PCIE_LINK_UP then s
  else match s.hostDest r.bar r.offset r.len with
    | .unmapped => s.hostUr r.data.isNone
    | .msix o =>
      (match r.data with
       | none => s.hostAnswer .ok (leNat ((List.range r.len).map (fun i => BitVec.ofNat 8 (s.msixByte (o + i)))))
       | some l => s.msixBytes o l)
    | .pba o =>
      (match r.data with
       | none => s.hostAnswer .ok (s.pcie.pba / 256 ^ o % 256 ^ r.len)
       | some _ => s)
    | .bus a =>
      if s.busFull 1 then s.respond .stalled 0
      else if timeout ∧ s.target 1 a r.len ≠ .default then
        (let s1 := s.busError 1 1 a r.data.isSome
         if r.data.isNone then s1.hostAnswer .abort 0 else s1)
      else
        match r.data with
        | none =>
          let (st, v, s1) := (s.park (s.target 1 a r.len) 1).busRead 1 a r.len flip
          let s2 := if st = .decode then s1.count R.PCIE_UR_CNT 1 else s1
          s2.hostAnswer (hostStatus st) (if st = .ok then v else 0)
        | some l => ((s.park (s.target 1 a r.len) 1).busWrite 1 a l flip).2
/-- The rule that lists a host request among the host errors. (DEDUCED, log 8, safe) -/
def State.hostUnsafe (s : State) (r : HostReq) : Option Nat :=
  if !s.bit R.PCIE_LINK_UP then none
  else match s.hostDest r.bar r.offset r.len with
    | .bus a => s.accessUnsafe 1 a r.len r.data
    | _ => none

/-! GRANARY_ACCESS (R349, Table 14-2) -/

/-- One bank port's operation. A read answers from `old`, the word before the cycle; an atomic answers the value before itself. (DEDUCED, log 20, unsafe) -/
def State.granOp (s old : State) (port : Nat) (o : GranOp) (flip : Nat) : Resp × State :=
  if !inGran o.addr then (⟨.decode, 0⟩, s)
  else match o.act with
    | .read =>
      (match s.granCheck port o.addr flip with
       | (true, s1) => (⟨.ok, old.le o.addr 4⟩, s1)
       | (false, s1) => (⟨.error, 0⟩, s1))
    | .write bs =>
      (match s.granWrite port o.addr bs flip with
       | (true, s1) => (⟨.ok, 0⟩, s1)
       | (false, s1) => (⟨.error, 0⟩, s1))
    | .add v =>
      (match s.granCheck port o.addr flip with
       | (true, s1) => (⟨.ok, s.le o.addr 4⟩, s1.setLe o.addr 4 ((s.le o.addr 4 + v.toNat) % 0x100000000))
       | (false, s1) => (⟨.error, 0⟩, s1))
    | .swap v =>
      (match s.granCheck port o.addr flip with
       | (true, s1) => (⟨.ok, s.le o.addr 4⟩, s1.setLe o.addr 4 v.toNat)
       | (false, s1) => (⟨.error, 0⟩, s1))
/-- Both ports of a bank in one cycle: port A's modification before port B's. (DEDUCED, log 20, unsafe) -/
def State.granAccess (s : State) (a b : Option GranOp) (flip : Nat) : State :=
  let s1 := match a with
    | some o => let (r, t) := s.granOp s 0 o flip; { t with mem14 := { t.mem14 with respA := r } }
    | none => s
  match b with
  | some o => let (r, t) := s1.granOp s 1 o (if a.isNone then flip else 0); { t with mem14 := { t.mem14 with respB := r } }
  | none => s1

/-! Hoppers in one cycle (R357, R358) -/

/-- HOPPER_PUSH, and with `withPop` a pop in the same cycle (Tables 14-3 and 14-4); the popped entry is the answer. (DEDUCED, log 22, unsafe) -/
def State.hopPushPop (s : State) (n entry lag : Nat) (withPop : Bool) : State :=
  if !withPop then s.hopPush n entry lag
  else
    let d := (s.hop n).entries.length
    if s.bit (R.HOP_Q_CFG_CLK n) ∨ !s.hopEn n then
      let s1 := s.hopPush n entry lag
      let (v, s2) := s1.hopPop n ((s1.hop n).entries.length - d)
      s2.respond .ok v
    else
      let (v, s1) := s.hopPop n 0
      let s2 := (s1.setHop n { s1.hop n with entries := (s1.hop n).entries ++ [entry] }).hopStore n entry
      (s2.hopLevel n d (s2.hop n).entries.length).respond .ok v
/-- HOPPER_POP: the entry is the answer. -/
def State.hopPopCmd (s : State) (n lag : Nat) : State := let (v, s1) := s.hopPop n lag; s1.respond .ok v
/-- HOP_POP_READ. -/
def State.hopPopReadCmd (s : State) (n : Nat) : State := let (v, s1) := s.hopPopRead n; s1.respond .ok v

/-! Granary halves (R351) -/

/-- A half wakes from retention; one that was OFF goes on to be zeroed. (DEDUCED, log 21, unsafe) -/
def State.halfWake (s : State) (h : Nat) : State :=
  if s.halfState h = 3 then s.setHalfState h (if bitOf s.mem14.lost h then 4 else 0) else s
/-- A half that was OFF is zeroed and ON. (DEDUCED, log 21, unsafe) -/
def State.halfWiped (s : State) (h : Nat) : State :=
  if bitOf s.mem14.lost h ∧ (s.halfState h = 3 ∨ s.halfState h = 4) then
    { s with mem14 := { s.mem14 with lost := putBit s.mem14.lost h false } }.setHalfState h 0
  else s

/-! LPDDR5 (R365, R375) -/

/-- LPDDR5_ACCESS: the controller serves a read or a write; its answer. (DEDUCED, log 20, unsafe) -/
def State.ddrAccess (s : State) (r : BusReq) (flip : Nat) : State :=
  let put (t : State) (x : Resp) : State := { t with mem14 := { t.mem14 with respDdr := x } }
  if !(s.inDdr r.addr && s.inDdr (r.addr + r.len - 1)) then put s ⟨.decode, 0⟩
  else match r.data with
    | none =>
      (match s.checkUnits (fun t u f => t.ddrCheck u f) flip (unitsOf 64 r.addr r.len) with
       | (true, s1) => put s1 ⟨.ok, s.le r.addr r.len⟩
       | (false, s1) => put s1 ⟨.error, 0⟩)
    | some l =>
      (match s.writeUnits false 0 flip (chunks 64 l.length r.addr (l.map some)) with
       | (true, s1) => put s1 ⟨.ok, 0⟩
       | (false, s1) => put s1 ⟨.error, 0⟩)
/-- REFRESH_RATE_CHANGE: the devices report a new code in MR4. -/
def State.refreshRate (s : State) (code : Nat) : State :=
  if s.fld R.DDR_STATUS_REFRATE = code then s else (s.setFld R.DDR_STATUS_REFRATE code).setIrq R.DDR_IRQ_STATUS 2

/-! Outbound DMA (R411) -/

/-- ODMA_DONE: the copy has ended; `ok`: the host completed its writes. (DEDUCED, log 23, unsafe) -/
def State.odmaDone (s : State) (ok : Bool) : State :=
  if s.bit R.GRNG_ODMA_CTRL_START then
    let src := s.fld R.GRNG_ODMA_SRC_LO + s.fld R.GRNG_ODMA_SRC_HI * 0x100000000
    let dst := s.reg64 R.GRNG_ODMA_DST_LO R.GRNG_ODMA_DST_HI
    let n := s.fld R.GRNG_ODMA_LEN
    let s0 := s.setFld R.GRNG_ODMA_CTRL_START 0
    if ok then
      match s0.busRead 0 src n 0 with
      | (.ok, v, s1) => { s1 with grng := { s1.grng with hostOut := s1.grng.hostOut ++ [(dst, leBytes n v)] } }.setFld R.GRNG_ODMA_CTRL_DONE 1
      | (_, _, s1) => s1.setFld R.GRNG_ODMA_CTRL_ERR 1
    else (s0.setFld R.GRNG_ODMA_CTRL_ERR 1).fcu' 49 2 src
  else s

/-! Accesses as rows: what is a host error is refused with its rule, all else has its effect -/

/-- What a command did to s, unless a host error stops it. (DEDUCED, log 8, safe) -/
def unlessBad (bad : Option Nat) (s u : State) : Host.Outcome State Fault Refusal :=
  match bad with
  | some r => .refused (.unpredictable r)
  | none => finish s u
/-- REGISTER_WRITE (a value) or READ_CLEAR: an access of one word by the Grange or the host. -/
def State.wordAccess (s : State) (grange : Bool) (a : Nat) (v : Option Nat) : Host.Outcome State Fault Refusal :=
  let m := if grange then 0 else 1
  let data := v.map (fun x => (leBytes 4 x).map some)
  unlessBad (s.accessUnsafe m a 4 data) s (s.busDo m a 4 data 0)
/-- BUS_TRANSACTION. -/
def State.busCmd (s : State) (m : Nat) (r : BusReq) (flip : Nat) (completes : Bool) : Host.Outcome State Fault Refusal :=
  unlessBad (if completes && !s.busFull m then s.accessUnsafe m r.addr r.len (r.data.map (fun l => l.map some)) else none)
    s (s.busIssue m r flip completes)
/-- HOST_REQUEST. -/
def State.hostCmd (s : State) (r : HostReq) (flip : Nat) (timeout : Bool) : Host.Outcome State Fault Refusal :=
  unlessBad (if !timeout && !s.busFull 1 then s.hostUnsafe r else none) s (s.hostRun r flip timeout)
/-- A row that is a write of `v` to a register with host errors of its own. -/
def State.viaRegChecked (s : State) (grange : Bool) (a v : Nat) (f : State → State) : Host.Outcome State Fault Refusal :=
  unlessBad (if (s.domBlocks a).isSome then none else s.writeUnsafe grange a v) s (s.viaReg a f)
/-- Does a run of memory overlap an image, a delay ring, the Silo, the replay buffer or a patch buffer in use (R416)? (DEDUCED, log 55, unsafe) -/
def State.packageClash (s : State) (a n : Nat) : Bool :=
  (s.hostDataUnsafe a n).isSome ||
  (s.bit R.PAIR_CTRL_EN && overlap a n s.rbufBase (s.fld R.PAIR_RBUF_SIZE * 1024))
/-- The rule that lists a LIB_LOAD or an UPD_STAGE among the host errors: its address overlaps memory in use. `len` is the length of the run
that it accesses, 0 where the command is refused before. (DEDUCED, log 8, safe; DEDUCED, log 55, unsafe) -/
def State.packageUnsafe (s : State) (via : Mbx) (code : Nat) (words at' : Nat) (len : List Nat → Nat) : Option Nat :=
  let ws := s.mbxWords via
  let w0 := arg ws 0
  let a := (ws.drop 1).take (w0 % 65536)
  if s.mbxOpen via ∧ w0 / 0x1000000 = code ∧ a.length = words ∧ s.fld R.LCS_STATE_STATE ≠ 4 ∧
      s.packageClash (arg a at' + arg a (at' + 1) * 0x100000000) (len a) then some 416 else none
/-- UPD_STAGE. -/
def State.stageRow (s : State) (via : Mbx) : Host.Outcome State Fault Refusal :=
  unlessBad (s.packageUnsafe via 0x10 4 1 (fun a => if (s.stageBad a).isSome then 0 else arg a 3)) s (s.mbxTake via 0x10 (fun t a g => t.mbxStage a g (mgmtOf via)))
/-- LIB_LOAD. -/
def State.libRow (s : State) (via : Mbx) : Host.Outcome State Fault Refusal :=
  unlessBad (s.packageUnsafe via 0x13 3 1 (fun a => (s.libImage a).2.length)) s (s.mbxTake via 0x13 (fun t a _ => t.mbxLibLoad a))
/-- HOP_POP_READ. -/
def State.hopReadRow (s : State) (n : Nat) : Host.Outcome State Fault Refusal := unlessBad (s.readUnsafe (0x40091018 + 0x20 * n)) s (s.hopPopReadCmd n)

end Sys2Proof.Machine
end

