-- ==== Sys2Proof/Machine/RowsAmp.lean ====
section
/-! DEFINITION. The meanings of the amplifier commands (R333–R345). -/

namespace Sys2Proof.Machine

/-- `PHASE_WORD_RECEIVE` (R339). -/
def execPhaseWordReceive (word : Nat) (s : State) : Host.Outcome State Fault Refusal := finish s (s.phaseWord word)
/-- `AMP_START` (R336). -/
def execAmpStart (ch : Fin 32) (s : State) : Host.Outcome State Fault Refusal :=
  finish s (s.viaReg (R.AMP_CH_STATE_STATE ch.val).addr (fun t => t.ampStart ch.val))
/-- `AMP_STOP` (R336). -/
def execAmpStop (ch : Fin 32) (s : State) : Host.Outcome State Fault Refusal :=
  finish s (s.viaReg (R.AMP_CH_STATE_STATE ch.val).addr (fun t => t.ampStop ch.val))
/-- `AMP_CLEAR` (R345). -/
def execAmpClear (ch : Fin 32) (s : State) : Host.Outcome State Fault Refusal :=
  finish s (s.viaReg (R.AMP_CH_STATE_STATE ch.val).addr (fun t => t.ampClear ch.val))
/-- `IN_STEP_RELEASE` (R337). -/
def execInStepRelease (ch : Fin 32) (s : State) : Host.Outcome State Fault Refusal := finish s (s.inStepRelease ch.val)
/-- `SHORT` (R341). -/
def execShort (ch : Fin 32) (s : State) : Host.Outcome State Fault Refusal := finish s (s.ampShort ch.val)
/-- `RETRY` (R341). -/
def execRetry (ch : Fin 32) (s : State) : Host.Outcome State Fault Refusal := finish s (s.ampRetry ch.val)
/-- `RETRIES_CLEAR` (R341). -/
def execRetriesClear (ch : Fin 32) (s : State) : Host.Outcome State Fault Refusal := finish s (s.retriesClear ch.val)
/-- `OVER_TEMPERATURE` (R342). -/
def execOverTemperature (g : Fin 8) (shorted : Nat) (s : State) : Host.Outcome State Fault Refusal := finish s (s.overTemperature g.val shorted)
/-- `OT_RESTART` (R342). -/
def execOtRestart (g : Fin 8) (s : State) : Host.Outcome State Fault Refusal := finish s (s.otRestart g.val)
/-- `SENSE_LOSS` (R343). -/
def execSenseLoss (kind : Fin 3) (idx : Fin 32) (s : State) : Host.Outcome State Fault Refusal := finish s (s.senseLoss kind.val idx.val)
/-- `IDLE_FREQUENCY_MEASURE` (R333). -/
def execIdleFrequencyMeasure (ch : Fin 32) (freq : Nat) (s : State) : Host.Outcome State Fault Refusal := finish s (s.idleFrequency ch.val freq)

end Sys2Proof.Machine
end

