-- ==== Sys2Proof/Machine/RowsBind.lean ====
section
/-! DEFINITION. The meanings of the Binder's commands: gather and scatter, ring fill, route tables, silence detectors (R128–R147). -/

namespace Sys2Proof.Machine

/-- `GATHER` (R128). -/
def execGather (flip : Nat) (s : State) : Host.Outcome State Fault Refusal := finish s (s.gatherRun flip)
/-- `SCATTER` (R128). -/
def execScatter (flip : Nat) (s : State) : Host.Outcome State Fault Refusal := finish s (s.scatterRun flip)
/-- `RING_FILL` (R137). -/
def execRingFill (ddr : Bool) (count : Nat) (s : State) : Host.Outcome State Fault Refusal := finish s (s.ringFill ddr count)
/-- `RT_WRITE` (R147). -/
def execRtWrite (table : Fin 4) (s : State) : Host.Outcome State Fault Refusal :=
  finish s (s.viaReg R.BIND_RT_STATUS_CODE.addr (fun t => t.rtWrite table.val))
/-- `RT_SETLEN` (R132). -/
def execRtSetlen (table : Fin 4) (s : State) : Host.Outcome State Fault Refusal :=
  finish s (s.viaReg R.BIND_RT_STATUS_CODE.addr (fun t => t.rtSetlen table.val))
/-- `RT_CANCEL` (R147). -/
def execRtCancel (s : State) : Host.Outcome State Fault Refusal := finish s (s.viaReg R.BIND_RT_STATUS_CODE.addr State.rtCancel)
/-- `RT_REVERT` (R147). -/
def execRtRevert (table : Fin 4) (s : State) : Host.Outcome State Fault Refusal :=
  finish s (s.viaReg R.BIND_RT_STATUS_CODE.addr (fun t => t.rtRevert table.val))
/-- `RT_AT_ARM` (R132). -/
def execRtAtArm (hi : Word) (s : State) : Host.Outcome State Fault Refusal := finish s (s.viaReg R.BIND_RT_AT_HI.addr (fun t => t.rtAtArm hi.toNat))
/-- `ROUTE_CHECK_DONE` (R132). -/
def execRouteCheckDone (s : State) : Host.Outcome State Fault Refusal := finish s s.routeChecked
/-- `SHADOW_SYNC_DONE` (R131). -/
def execShadowSyncDone (s : State) : Host.Outcome State Fault Refusal := finish s s.shadowSynced
/-- `SIL_EN_SET` (R144). -/
def execSilEnSet (ch : Fin 32) (s : State) : Host.Outcome State Fault Refusal :=
  finish s (s.viaReg (R.BIND_SIL_CTRL_EN ch.val).addr (fun t => t.silEnSet ch.val))
/-- `SIL_EN_CLEAR` (R144). -/
def execSilEnClear (ch : Fin 32) (s : State) : Host.Outcome State Fault Refusal :=
  finish s (s.viaReg (R.BIND_SIL_CTRL_EN ch.val).addr (fun t => t.silEnClear ch.val))
/-- `HOLD_EXPIRY` (R144). -/
def execHoldExpiry (ch : Fin 32) (s : State) : Host.Outcome State Fault Refusal := finish s (s.silHold ch.val)
/-- `HALF_TICKS_EXPIRY` (R144). -/
def execHalfTicksExpiry (ch : Fin 32) (s : State) : Host.Outcome State Fault Refusal := finish s (s.silHalf ch.val)
/-- `WAKING_COMPLETE` (R144). -/
def execWakingComplete (ch : Fin 32) (s : State) : Host.Outcome State Fault Refusal := finish s (s.silWoken ch.val)

end Sys2Proof.Machine
end

