-- ==== Sys2Proof/Machine/RowsChain.lean ====
section
/-! DEFINITION. The meanings of the chain ports' and the fabric's commands (R307–R324). -/

namespace Sys2Proof.Machine

/-- `CHAIN_ENABLE` (R307). -/
def execChainEnable (p : Fin 3) (s : State) : Host.Outcome State Fault Refusal :=
  finish s (s.viaReg R.CHAIN_STATUS.addr (fun t => t.chainEnable p.val))
/-- `LANE_LOCK` (R307). -/
def execLaneLock (p : Fin 3) (s : State) : Host.Outcome State Fault Refusal := finish s (s.laneLock p.val)
/-- `LANE_ALIGN` (R307). -/
def execLaneAlign (p : Fin 3) (skew : Nat) (s : State) : Host.Outcome State Fault Refusal := finish s (s.laneAlign p.val skew)
/-- `LINK_BLOCK_RECEIVE` (R307). -/
def execLinkBlockReceive (p : Fin 3) (bytes : List Byte) (s : State) : Host.Outcome State Fault Refusal := finish s (s.linkReceive p.val bytes)
/-- `TRAINING_TIMEOUT` (R307). -/
def execTrainingTimeout (p : Fin 3) (s : State) : Host.Outcome State Fault Refusal := finish s (s.trainTimeout p.val)
/-- `MARK_RECEIVE` (R310). -/
def execMarkReceive (p : Fin 3) (bytes : List Byte) (rt : Int) (period : Nat) (err : Int) (up : Bool) (s : State) :
    Host.Outcome State Fault Refusal := finish s (s.markReceive p.val bytes rt period err up)
/-- `CHAIN_MARK_LOST` (R308). -/
def execChainMarkLost (p : Fin 3) (s : State) : Host.Outcome State Fault Refusal := finish s (s.markLost p.val)
/-- `LOCK_LOST` (R308). -/
def execLockLost (p : Fin 3) (s : State) : Host.Outcome State Fault Refusal := finish s (s.lockLost p.val)
/-- `RUN_SEND` (R312). -/
def execRunSend (p : Fin 3) (forwarded : Bool) (s : State) : Host.Outcome State Fault Refusal := finish s (s.runSend p.val forwarded)
/-- `TRAILER_SEND` (R312). -/
def execTrailerSend (p : Fin 3) (s : State) : Host.Outcome State Fault Refusal := finish s (s.trailerSend p.val)
/-- `SEND_CUTOFF` (R312). -/
def execSendCutoff (p : Fin 3) (s : State) : Host.Outcome State Fault Refusal := finish s (s.sendCutoff p.val)
/-- `BALE_HEADER_RECEIVE` (R313). -/
def execBaleHeaderReceive (p : Fin 3) (bytes : List Byte) (s : State) : Host.Outcome State Fault Refusal := finish s (s.baleHeader p.val bytes)
/-- `RUN_RECEIVE` (R313). -/
def execRunReceive (p : Fin 3) (bytes : List Byte) (late : Bool) (s : State) : Host.Outcome State Fault Refusal :=
  finish s (s.runReceive p.val bytes late)
/-- `TRAILER_RECEIVE` (R313). -/
def execTrailerReceive (p : Fin 3) (bytes : List Byte) (s : State) : Host.Outcome State Fault Refusal := finish s (s.trailerReceive p.val bytes)
/-- `RECEIVE_CUTOFF` (R313). -/
def execReceiveCutoff (p : Fin 3) (s : State) : Host.Outcome State Fault Refusal := finish s (s.receiveCutoff p.val)
/-- `BALE_LOST` (R313). -/
def execBaleLost (p : Fin 3) (s : State) : Host.Outcome State Fault Refusal := finish s (s.baleLost p.val)
/-- `BEACON_RECEIVE` (R320). -/
def execBeaconReceive (p : Fin 3) (bytes : List Byte) (arrival : Int) (residence : Int) (s : State) : Host.Outcome State Fault Refusal :=
  finish s (s.beaconReceive p.val bytes arrival residence)
/-- `DEPUTY_TAKEOVER` (R321). -/
def execDeputyTakeover (s : State) : Host.Outcome State Fault Refusal := finish s s.deputyTakeover
/-- `NO_BEACON` (R321). -/
def execNoBeacon (s : State) : Host.Outcome State Fault Refusal := finish s s.noBeacon
/-- `STOP_AT_ARM` (R324). -/
def execStopAtArm (hi : Word) (s : State) : Host.Outcome State Fault Refusal := finish s (s.viaReg R.FAB_CTRL_EN.addr (fun t => t.stopAtArm hi.toNat))

end Sys2Proof.Machine
end

