-- ==== Sys2Proof/Machine/RowsClk.lean ====
section
/-! DEFINITION. The meanings of the clock unit's commands (R255–R274). -/

namespace Sys2Proof.Machine

/-- `REFERENCE_EDGE` (R258). -/
def execReferenceEdge (n : Fin 8) (falling : Bool) (period : Nat) (err : Int) (s : State) : Host.Outcome State Fault Refusal :=
  finish s (s.refEdge n.val falling period err)
/-- `ACTIVITY_FAIL` (R255). -/
def execActivityFail (n : Fin 8) (s : State) : Host.Outcome State Fault Refusal := finish s (s.activityFail n.val)
/-- `FREQUENCY_MEASURE` (R255). -/
def execFrequencyMeasure (n : Fin 8) (ofs : Int) (s : State) : Host.Outcome State Fault Refusal := finish s (s.freqMeasure n.val ofs)
/-- `SOURCE_CONDITION_FAIL` (R256). -/
def execSourceConditionFail (n : Fin 8) (s : State) : Host.Outcome State Fault Refusal := finish s (s.sourceFail n.val)
/-- `STAGE_ADVANCE` (R260). -/
def execStageAdvance (s : State) : Host.Outcome State Fault Refusal := finish s s.stageAdvance
/-- `WAIT_TO_RESTORE_EXPIRY` (R264). -/
def execWaitToRestoreExpiry (n : Fin 8) (s : State) : Host.Outcome State Fault Refusal := finish s (s.wtrExpire n.val)
/-- `HOLDOVER_UPDATE` (R271). -/
def execHoldoverUpdate (up : Bool) (s : State) : Host.Outcome State Fault Refusal := finish s (s.holdoverUpdate up)
/-- `KT_UPDATE` (R272). -/
def execKtUpdate (wordUp tempUp : Bool) (s : State) : Host.Outcome State Fault Refusal := finish s (s.ktUpdate wordUp tempUp)
/-- `AGE_UPDATE` (R272). -/
def execAgeUpdate (s : State) : Host.Outcome State Fault Refusal := finish s s.ageUpdate
/-- `HO_KT_WRITE` (R272). -/
def execHoKtWrite (value : Word) (s : State) : Host.Outcome State Fault Refusal :=
  finish s (s.viaReg R.CLK_STATUS_STATE.addr (fun t => t.hoKtWrite (value.toNat % 65536)))
/-- `HO_AGE_WRITE` (R272). -/
def execHoAgeWrite (value : Word) (s : State) : Host.Outcome State Fault Refusal :=
  finish s (s.viaReg R.CLK_STATUS_STATE.addr (fun t => t.hoAgeWrite (value.toNat % 65536)))
/-- `XO_FAIL` (R273). -/
def execXoFail (s : State) : Host.Outcome State Fault Refusal := finish s s.xoFail
/-- `XO_RESTORE` (R273). -/
def execXoRestore (clean : Bool) (s : State) : Host.Outcome State Fault Refusal :=
  finish s (s.viaReg R.CLK_STATUS_STATE.addr (fun t => t.xoRestore clean))
/-- `ALIGN` (R268). -/
def execAlign (s : State) : Host.Outcome State Fault Refusal := finish s (s.viaReg R.CLK_STATUS_STATE.addr State.align)
/-- `ALIGN_COMPLETE` (R268). -/
def execAlignComplete (s : State) : Host.Outcome State Fault Refusal := finish s s.alignDone
/-- `HOLDOVER_COMMAND` (R259). -/
def execHoldoverCommand (s : State) : Host.Outcome State Fault Refusal := finish s (s.viaReg R.CLK_STATUS_STATE.addr State.holdoverCmd)
/-- `OUT_ALIGN_ARM` (R270). -/
def execOutAlignArm (hi : Word) (s : State) : Host.Outcome State Fault Refusal :=
  finish s (s.viaReg R.CLK_STATUS_STATE.addr (fun t => t.outAlignArm hi.toNat))
/-- `PLL_LOSS` (R274). -/
def execPllLoss (pll : Fin 8) (s : State) : Host.Outcome State Fault Refusal := finish s (s.pllLoss pll.val)

end Sys2Proof.Machine
end

