-- ==== Sys2Proof/Machine/RowsFcu.lean ====
section
/-! DEFINITION. The meanings of the fault collector's commands (R381–R393). -/

namespace Sys2Proof.Machine

/-- `FAULT_MESSAGE` (R381). -/
def execFaultMessage (src : Fin 128) (kind : Fin 32) (addr : Nat) (s : State) : Host.Outcome State Fault Refusal :=
  finish s (s.fcu' src.val kind.val addr)
/-- `ERR_PULSE_END` (R391). -/
def execErrPulseEnd (s : State) : Host.Outcome State Fault Refusal := finish s s.pulseEnd
/-- `SHADOW_WINDOW_CLOSE` (R389). -/
def execShadowWindowClose (s : State) : Host.Outcome State Fault Refusal := finish s s.windowsClose
/-- `RELEASE_HOLD` (R386). -/
def execReleaseHold (s : State) : Host.Outcome State Fault Refusal := finish s (s.viaReg 0x401A0008 State.releaseHold)
/-- `CLEAR_FIRST` (R383). -/
def execClearFirst (s : State) : Host.Outcome State Fault Refusal := finish s (s.viaReg 0x401A0008 State.clearFirst)
/-- `ENTER_SAFE` (R387). -/
def execEnterSafe (s : State) : Host.Outcome State Fault Refusal := finish s (s.viaReg 0x401A0008 State.safeEnter)
/-- `INJECT_ARM` (R392). -/
def execInjectArm (value : Word) (s : State) : Host.Outcome State Fault Refusal := finish s (s.viaReg 0x401A0080 (fun t => t.injectWrite value.toNat))
/-- `SELF_FAULT` (R393). -/
def execSelfFault (dual : Bool) (s : State) : Host.Outcome State Fault Refusal := finish s (s.selfFault dual false)

end Sys2Proof.Machine
end

