-- ==== Sys2Proof/Machine/Sens.lean ====
section
/-!
DEFINITION. The sensor unit (R402): the median of the last five samples, the plausibility check, the limits, and what each reports.
-/

namespace Sys2Proof.Machine

def State.sensor (s : State) (n : Nat) : SensSt := FMap.get SensSt.zero s.sens n
def State.setSensor (s : State) (n : Nat) (x : SensSt) : State := { s with sens := FMap.set SensSt.zero s.sens n x }
/-- The 12-bit ADC's full scale in mA for feed n (R402). -/
def State.sensFull (s : State) (n : Nat) : Int := ((4095 * s.fld (R.SENS_I_SCALE n) / 1000 : Nat) : Int)
/-- Plausibility window and step of a sensor in its unit: lowest, highest, largest change (Table 16-2). -/
def State.sensWindow (s : State) (n : Nat) : Int × Int × Int :=
  if n < 8 then (-6000, 16000, 500)
  else if n = 20 ∨ n = 21 then (0, 4000, 300)
  else if n = 22 ∨ n = 23 then (0, 1800, 100)
  else if n = 26 ∨ n = 31 then (0, 2700, 200)
  else if n = 29 ∨ n = 30 then (0, 1800, 500)
  else if n = 32 ∨ n = 33 then (0, s.sensFull (n - 32), s.sensFull (n - 32))
  else (0, 1200, 100)
/-- Insert into a rising list. -/
def insertInt (x : Int) : List Int → List Int
  | [] => [x]
  | y :: r => if x ≤ y then x :: y :: r else y :: insertInt x r
/-- The median of a list: the middle of its rising order. (DEDUCED, log 58, unsafe) -/
def medianInt (l : List Int) : Int :=
  let o := l.foldr insertInt []
  (o[o.length / 2]?).getD 0
/-- The nominal value that a supply sensor's reset window lies about; 0 when it has no limit: the point's supply for a cluster that is on, the
half's state for a Granary half. -/
def State.sensNow (s : State) (n : Nat) : Nat :=
  if 8 ≤ n ∧ n ≤ 11 then (if bitOf (s.fld R.PWR_DOM_STATUS_ON) (n - 6) then opSupply (s.fld R.IMG_OP_CUR) else 0)
  else if n = 13 ∨ n = 14 then
    (let h := if n = 13 then s.fld R.GRAN_PWR_STATUS_A_STATE else s.fld R.GRAN_PWR_STATUS_B_STATE
     if h = 0 then 750 else if h = 1 then 550 else 0)
  else sensNominal n
/-- The limit window in force, lower and upper; a lower limit of 0 and an upper of 0xFFFF are none. Sensors 8–11, 13 and 14 follow the
operating point and the half while their register holds its reset value. (DEDUCED, log 58, unsafe) -/
def State.sensLim (s : State) (n : Nat) : Nat × Nat :=
  let lo := s.fld (R.SENS_S_LIM_LO n)
  let hi := s.fld (R.SENS_S_LIM_HI n)
  if (8 ≤ n ∧ n ≤ 11 ∨ n = 13 ∨ n = 14) ∧ lo = sensLimLo n ∧ hi = sensLimHi n then
    (let v := s.sensNow n
     if v = 0 then (0, 0xFFFF) else ((v * 95 + 99) / 100, v * 105 / 100))
  else (lo, hi)
/-- A report of sensor n: the fault message and its SENSOR log record. -/
def State.sensReport (s : State) (n kind : Nat) (r : Int) : State :=
  (s.fcu' 52 kind n).logOffer 5 (leBytes 1 n ++ leBytes 4 (unsignedOf 32 r) ++ leBytes 1 kind)
/-- A limit condition: its status bit, and on entry the LIMIT bit and the report. `ends` is whether the condition's end is reached. -/
def State.sensCond (s : State) (n : Nat) (f : Fld) (kind : Nat) (r : Int) (enters ends : Bool) : State :=
  if s.bit f then (if ends then s.setFld f 0 else s)
  else if enters then ((s.setFld f 1).setIrq R.SENS_IRQ_STATUS 0).sensReport n kind r
  else s
/-- An accepted reading is compared with the limits. -/
def State.sensLimits (s : State) (n : Nat) (r : Int) : State :=
  if n < 8 then
    let h : Int := s.fld R.SENS_T_LIM_HIGH
    let c : Int := s.fld R.SENS_T_LIM_CRIT
    (s.sensCond n (R.SENS_S_STATUS_HIGH n) 1 r (decide (h ≤ r)) (decide (r ≤ h - 200))).sensCond n (R.SENS_S_STATUS_LOW n) 2 r
      (decide (c ≤ r)) (decide (r ≤ c - 200))
  else
    let (lo, hi) := s.sensLim n
    let above : Bool := decide (hi ≠ 0xFFFF) && decide ((hi : Int) < r)
    let below : Bool := decide (lo ≠ 0) && decide (r < (lo : Int))
    let was := s.bit (R.SENS_S_STATUS_HIGH n) || s.bit (R.SENS_S_STATUS_LOW n)
    let s1 := (s.setBit (R.SENS_S_STATUS_HIGH n) above).setBit (R.SENS_S_STATUS_LOW n) below
    if (above || below) && !was then (s1.setIrq R.SENS_IRQ_STATUS 0).sensReport n 3 r else s1
/-- A reading is rejected: counted and reported; ten in a row fail the sensor. (DEDUCED, log 58, unsafe) -/
def State.sensReject (s : State) (n : Nat) (x : SensSt) (r : Int) : State :=
  let s1 := (((s.setSensor n { x with rejects := x.rejects + 1, goods := 0 }).count (R.SENS_S_STATUS_REJ_CNT n) 1).setIrq
    R.SENS_IRQ_STATUS 1).sensReport n 4 r
  if x.rejects + 1 = 10 then
    ((s1.setFld (R.SENS_S_STATUS_FAILED n) 1).setFld (R.SENS_S_STATUS_VALID n) 0).setIrq R.SENS_IRQ_STATUS 2
  else s1
/-- A reading is accepted: it is the value, and the limits apply. (DEDUCED, log 58, unsafe) -/
def State.sensAccept (s : State) (n : Nat) (x : SensSt) (r : Int) : State :=
  ((((s.setSensor n { x with had := true }).setSFld (R.SENS_S_VALUE n) r).setFld (R.SENS_S_STATUS_FAILED n) 0).setFld
    (R.SENS_S_STATUS_VALID n) 1).sensLimits n r
/-- SENSOR_SAMPLE: a sample in the sensor's unit, or in ADC steps for a current. (DEDUCED, log 11, safe) -/
def State.sensorSample (s : State) (n : Nat) (sample : Int) : State :=
  let v : Int := if 32 ≤ n then sample * (s.fld (R.SENS_I_SCALE (n - 32)) : Nat) / 1000 else sample
  let x := { s.sensor n with samples := (v :: (s.sensor n).samples).take 5 }
  let r := medianInt x.samples
  let (lo, hi, stp) := s.sensWindow n
  let last := s.sfld (R.SENS_S_VALUE n)
  let good : Bool := decide (lo ≤ r) && decide (r ≤ hi) && (!x.had || (decide (r - last ≤ stp) && decide (last - r ≤ stp)))
  if good then
    let x1 := { x with rejects := 0, goods := Nat.min (x.goods + 1) 10 }
    if s.bit (R.SENS_S_STATUS_FAILED n) ∧ x1.goods < 10 then s.setSensor n x1 else s.sensAccept n x1 r
  else s.sensReject n x r

end Sys2Proof.Machine
end

