-- ==== Sys2Proof/Machine/RowsGrange.lean ====
section
/-! DEFINITION. The meanings of the Grange's commands: watchdog, sensors, log, mailbox, updates, life cycle (R400–R410). -/

namespace Sys2Proof.Machine

/-- `WATCHDOG_EXPIRY` (R400). -/
def execWatchdogExpiry (s : State) : Host.Outcome State Fault Refusal := finish s s.watchdogExpiry
/-- `WDOG_KICK` (R400). -/
def execWdogKick (value : Word) (s : State) : Host.Outcome State Fault Refusal := finish s (s.viaReg 0x401B0010 (fun t => t.wdogKick value.toNat))
/-- `GRANGE_RESTART` (R401). -/
def execGrangeRestart (s : State) : Host.Outcome State Fault Refusal := finish s s.grangeRestart
/-- `SENSOR_SAMPLE` (R402). -/
def execSensorSample (n : Fin 34) (sample : Int) (s : State) : Host.Outcome State Fault Refusal := finish s (s.sensorSample n.val sample)
/-- `LOG_RECORD_WRITE` (R403). -/
def execLogRecordWrite (s : State) : Host.Outcome State Fault Refusal := finish s s.logWrite
/-- `INFO` (R406). -/
def execInfo (via : Mbx) (s : State) : Host.Outcome State Fault Refusal := finish s (s.mbxTake via 1 (fun t _ _ => t.mbxInfo))
/-- `LOG_READ` (R406). -/
def execLogRead (via : Mbx) (s : State) : Host.Outcome State Fault Refusal := finish s (s.mbxTake via 2 (fun t a _ => t.mbxLogRead a))
/-- `LOG_DUMP` (R406). -/
def execLogDump (via : Mbx) (ok : Bool) (s : State) : Host.Outcome State Fault Refusal := finish s (s.mbxTake via 3 (fun t a _ => t.mbxLogDump a ok))
/-- `LOG_WRITE` (R406). -/
def execLogWrite (via : Mbx) (s : State) : Host.Outcome State Fault Refusal := finish s (s.mbxTake via 4 (fun t a _ => t.mbxLogWrite a))
/-- `CFG_READ` (R406). -/
def execCfgRead (via : Mbx) (s : State) : Host.Outcome State Fault Refusal := finish s (s.mbxTake via 5 (fun t a _ => t.mbxCfgRead a))
/-- `CFG_WRITE` (R406). -/
def execCfgWrite (via : Mbx) (s : State) : Host.Outcome State Fault Refusal := finish s (s.mbxTake via 6 (fun t a _ => t.mbxCfgWrite a))
/-- `CFG_COMMIT` (R405). -/
def execCfgCommit (via : Mbx) (s : State) : Host.Outcome State Fault Refusal := finish s (s.mbxTake via 7 (fun t _ _ => t.mbxCfgCommit))
/-- `SENS_READ` (R406). -/
def execSensRead (via : Mbx) (s : State) : Host.Outcome State Fault Refusal := finish s (s.mbxTake via 8 (fun t a _ => t.mbxSensRead a))
/-- `UPD_STAGE` (R408). -/
def execUpdStage (via : Mbx) (s : State) : Host.Outcome State Fault Refusal := s.stageRow via
/-- `UPD_STAGE_COMPLETE` (R408). -/
def execUpdStageComplete (ok : Bool) (s : State) : Host.Outcome State Fault Refusal := finish s (s.stageDone ok)
/-- `UPD_ACTIVATE` (R408). -/
def execUpdActivate (via : Mbx) (s : State) : Host.Outcome State Fault Refusal := finish s (s.mbxTake via 0x11 (fun t _ g => t.mbxActivate via g))
/-- `UPD_CONFIRM` (R408). -/
def execUpdConfirm (via : Mbx) (s : State) : Host.Outcome State Fault Refusal := finish s (s.mbxTake via 0x12 (fun t _ _ => t.mbxConfirm))
/-- `TRIAL_TIMEOUT` (R408). -/
def execTrialTimeout (s : State) : Host.Outcome State Fault Refusal := finish s s.trialTimeout
/-- `LIB_LOAD` (R406). -/
def execLibLoad (via : Mbx) (s : State) : Host.Outcome State Fault Refusal := s.libRow via
/-- `SNAP_SAVE` (R406). -/
def execSnapSave (via : Mbx) (s : State) : Host.Outcome State Fault Refusal := finish s (s.mbxTake via 0x14 (fun t a _ => t.mbxSnapSave a))
/-- `SNAP_LOAD` (R406). -/
def execSnapLoad (via : Mbx) (s : State) : Host.Outcome State Fault Refusal := finish s (s.mbxTake via 0x15 (fun t a _ => t.mbxSnapLoad a))
/-- `LC_REQUEST` (R410). -/
def execLcRequest (via : Mbx) (s : State) : Host.Outcome State Fault Refusal := finish s (s.mbxTake via 0x20 (fun t a _ => t.mbxLcRequest via a))
/-- `KEY_WRITE` (R406). -/
def execKeyWrite (via : Mbx) (s : State) : Host.Outcome State Fault Refusal := finish s (s.mbxTake via 0x21 (fun t a _ => t.mbxKeyWrite via a))
/-- `CNT_INC` (R406). -/
def execCntInc (via : Mbx) (s : State) : Host.Outcome State Fault Refusal := finish s (s.mbxTake via 0x22 (fun t a _ => t.mbxCntInc a))
/-- `WIPE_CFG` (R406). -/
def execWipeCfg (via : Mbx) (s : State) : Host.Outcome State Fault Refusal := finish s (s.mbxTake via 0x23 (fun t a _ => t.mbxWipeCfg via a))
/-- `RESTART` (R406). -/
def execRestart (via : Mbx) (s : State) : Host.Outcome State Fault Refusal :=
  finish s (s.mbxTake via 0x30 (fun t _ g => t.mbxThen via 0x30 g (0, []) State.grangeRestart))
/-- `CHIP_RESET` (R406). -/
def execChipReset (via : Mbx) (s : State) : Host.Outcome State Fault Refusal :=
  finish s (s.mbxTake via 0x31 (fun t _ g => t.mbxThen via 0x31 g (0, []) (fun u => u.warmReset 5)))

end Sys2Proof.Machine
end

