-- ==== Sys2Proof/Machine/RowsHost.lean ====
section
/-! DEFINITION. The meanings of the host port's commands (R366–R370, R411, R432). -/

namespace Sys2Proof.Machine

/-- `HOST_REQUEST` (R368). -/
def execHostRequest (req : HostReq) (flip : Nat) (timeout : Bool) (s : State) : Host.Outcome State Fault Refusal := s.hostCmd req flip timeout
/-- `DB_H2G_SET_WRITE` (R370). -/
def execDbH2gSetWrite (value : Word) (s : State) : Host.Outcome State Fault Refusal :=
  s.viaRegChecked false 0x401C0014 value.toNat (fun t => t.doorbellH2g value.toNat)
/-- `DB_G2H_SET_WRITE` (R370). -/
def execDbG2hSetWrite (value : Word) (s : State) : Host.Outcome State Fault Refusal :=
  finish s (s.viaReg 0x401C001C (fun t => t.dbG2hRing value.toNat))
/-- `FUNCTION_LEVEL_RESET` (R366). -/
def execFunctionLevelReset (s : State) : Host.Outcome State Fault Refusal := finish s s.pcieFlr
/-- `PCIE_LINK_DOWN` (R366). -/
def execPcieLinkDown (s : State) : Host.Outcome State Fault Refusal := finish s s.pcieDown
/-- `PCIE_LINK_UP` (R432). -/
def execPcieLinkUp (width : Nat) (speed : Nat) (s : State) : Host.Outcome State Fault Refusal := finish s (s.pcieUp width speed)
/-- `ODMA_START` (R411). -/
def execOdmaStart (s : State) : Host.Outcome State Fault Refusal := finish s (s.viaReg 0x401B0034 State.odmaRow)
/-- `ODMA_DONE` (R411). -/
def execOdmaDone (ok : Bool) (s : State) : Host.Outcome State Fault Refusal := finish s (s.odmaDone ok)

end Sys2Proof.Machine
end

