-- ==== Sys2Proof/Machine/RowsIator.lean ====
section
/-! DEFINITION. The meanings of the Iator instructions as they reach a core (R83–R96), and of the completions of long operations and of TEND (R61, R66). -/

namespace Sys2Proof.Machine

/-- `NOP` (R86). -/
def execNop (core : Fin 64) (wait : Nat) (s : State) : Host.Outcome State Fault Refusal :=
  finish s (s.iatorRow core.val wait (fun | .nop _ _ => true | _ => false))
/-- `TEND` (R61). -/
def execTend (core : Fin 64) (wait : Nat) (s : State) : Host.Outcome State Fault Refusal :=
  finish s (s.iatorRow core.val wait (fun | .tend _ _ => true | _ => false))
/-- `TEND_COMPLETE` (R61). -/
def execTendComplete (core : Fin 64) (s : State) : Host.Outcome State Fault Refusal := finish s (s.tendDone core.val)
/-- `RTS` (R92). -/
def execRts (core : Fin 64) (wait : Nat) (s : State) : Host.Outcome State Fault Refusal :=
  finish s (s.iatorRow core.val wait (fun | .rts _ _ => true | _ => false))
/-- `DO` (R88). -/
def execDoLoop (core : Fin 64) (wait : Nat) (s : State) : Host.Outcome State Fault Refusal :=
  finish s (s.iatorRow core.val wait (fun | .doI _ _ => true | _ => false))
/-- `DOR` (R88). -/
def execDor (core : Fin 64) (wait : Nat) (s : State) : Host.Outcome State Fault Refusal :=
  finish s (s.iatorRow core.val wait (fun | .dor _ _ _ => true | _ => false))
/-- `BRA` (R91). -/
def execBra (core : Fin 64) (wait : Nat) (s : State) : Host.Outcome State Fault Refusal :=
  finish s (s.iatorRow core.val wait (fun | .bra _ => true | _ => false))
/-- `BCC` (R90). -/
def execBcc (core : Fin 64) (wait : Nat) (s : State) : Host.Outcome State Fault Refusal :=
  finish s (s.iatorRow core.val wait (fun | .bcc _ _ _ => true | _ => false))
/-- `JSR` (R92). -/
def execJsr (core : Fin 64) (wait : Nat) (s : State) : Host.Outcome State Fault Refusal :=
  finish s (s.iatorRow core.val wait (fun | .jsr _ => true | _ => false))
/-- `LDI` (R93). -/
def execLdi (core : Fin 64) (wait : Nat) (s : State) : Host.Outcome State Fault Refusal :=
  finish s (s.iatorRow core.val wait (fun | .ldi _ _ => true | _ => false))
/-- `MPY` (R83). -/
def execMpy (core : Fin 64) (wait : Nat) (s : State) : Host.Outcome State Fault Refusal :=
  finish s (s.iatorRow core.val wait (fun | .mul m _ _ _ _ _ _ _ => !m | _ => false))
/-- `MAC` (R83). -/
def execMac (core : Fin 64) (wait : Nat) (s : State) : Host.Outcome State Fault Refusal :=
  finish s (s.iatorRow core.val wait (fun | .mul m _ _ _ _ _ _ _ => m | _ => false))
/-- `ADD` (R84). -/
def execAdd (core : Fin 64) (wait : Nat) (s : State) : Host.Outcome State Fault Refusal :=
  finish s (s.iatorRow core.val wait (fun | .two .add _ _ _ _ => true | _ => false))
/-- `SUB` (R84). -/
def execSub (core : Fin 64) (wait : Nat) (s : State) : Host.Outcome State Fault Refusal :=
  finish s (s.iatorRow core.val wait (fun | .two .sub _ _ _ _ => true | _ => false))
/-- `TFR` (R84). -/
def execTfr (core : Fin 64) (wait : Nat) (s : State) : Host.Outcome State Fault Refusal :=
  finish s (s.iatorRow core.val wait (fun | .two .tfr _ _ _ _ => true | _ => false))
/-- `CMP` (R84). -/
def execCmp (core : Fin 64) (wait : Nat) (s : State) : Host.Outcome State Fault Refusal :=
  finish s (s.iatorRow core.val wait (fun | .two .cmp _ _ _ _ => true | _ => false))
/-- `MAX` (R84). -/
def execMaxA (core : Fin 64) (wait : Nat) (s : State) : Host.Outcome State Fault Refusal :=
  finish s (s.iatorRow core.val wait (fun | .two .max _ _ _ _ => true | _ => false))
/-- `MIN` (R84). -/
def execMinA (core : Fin 64) (wait : Nat) (s : State) : Host.Outcome State Fault Refusal :=
  finish s (s.iatorRow core.val wait (fun | .two .min _ _ _ _ => true | _ => false))
/-- `MAXA` (R85). -/
def execMaxa (core : Fin 64) (wait : Nat) (s : State) : Host.Outcome State Fault Refusal :=
  finish s (s.iatorRow core.val wait (fun | .two .maxa _ _ _ _ => true | _ => false))
/-- `CLR` (R84). -/
def execClr (core : Fin 64) (wait : Nat) (s : State) : Host.Outcome State Fault Refusal :=
  finish s (s.iatorRow core.val wait (fun | .one .clr _ _ _ _ => true | _ => false))
/-- `RND` (R49). -/
def execRnd (core : Fin 64) (wait : Nat) (s : State) : Host.Outcome State Fault Refusal :=
  finish s (s.iatorRow core.val wait (fun | .one .rnd _ _ _ _ => true | _ => false))
/-- `NEG` (R84). -/
def execNeg (core : Fin 64) (wait : Nat) (s : State) : Host.Outcome State Fault Refusal :=
  finish s (s.iatorRow core.val wait (fun | .one .neg _ _ _ _ => true | _ => false))
/-- `ABS` (R84). -/
def execAbsA (core : Fin 64) (wait : Nat) (s : State) : Host.Outcome State Fault Refusal :=
  finish s (s.iatorRow core.val wait (fun | .one .abs _ _ _ _ => true | _ => false))
/-- `ASL` (R85). -/
def execAsl (core : Fin 64) (wait : Nat) (s : State) : Host.Outcome State Fault Refusal :=
  finish s (s.iatorRow core.val wait (fun | .one .asl _ _ _ _ => true | _ => false))
/-- `ASR` (R84). -/
def execAsr (core : Fin 64) (wait : Nat) (s : State) : Host.Outcome State Fault Refusal :=
  finish s (s.iatorRow core.val wait (fun | .one .asr _ _ _ _ => true | _ => false))
/-- `FOLD` (R84). -/
def execFold (core : Fin 64) (wait : Nat) (s : State) : Host.Outcome State Fault Refusal :=
  finish s (s.iatorRow core.val wait (fun | .one .fold _ _ _ _ => true | _ => false))
/-- `SAT` (R84). -/
def execSat (core : Fin 64) (wait : Nat) (s : State) : Host.Outcome State Fault Refusal :=
  finish s (s.iatorRow core.val wait (fun | .one .sat _ _ _ _ => true | _ => false))
/-- `GLD` (R63). -/
def execGld (core : Fin 64) (wait : Nat) (s : State) : Host.Outcome State Fault Refusal :=
  finish s (s.iatorRow core.val wait (fun | .gran .gld _ _ _ _ _ _ _ => true | _ => false))
/-- `GST` (R63). -/
def execGst (core : Fin 64) (wait : Nat) (s : State) : Host.Outcome State Fault Refusal :=
  finish s (s.iatorRow core.val wait (fun | .gran .gst _ _ _ _ _ _ _ => true | _ => false))
/-- `GADD` (R94). -/
def execGadd (core : Fin 64) (wait : Nat) (s : State) : Host.Outcome State Fault Refusal :=
  finish s (s.iatorRow core.val wait (fun | .gran .gadd _ _ _ _ _ _ _ => true | _ => false))
/-- `GSWP` (R94). -/
def execGswp (core : Fin 64) (wait : Nat) (s : State) : Host.Outcome State Fault Refusal :=
  finish s (s.iatorRow core.val wait (fun | .gran .gswp _ _ _ _ _ _ _ => true | _ => false))
/-- `HPUSH` (R95). -/
def execHpush (core : Fin 64) (wait : Nat) (s : State) : Host.Outcome State Fault Refusal :=
  finish s (s.iatorRow core.val wait (fun | .hop p _ _ _ _ _ _ => !p | _ => false))
/-- `HPOP` (R95). -/
def execHpop (core : Fin 64) (wait : Nat) (s : State) : Host.Outcome State Fault Refusal :=
  finish s (s.iatorRow core.val wait (fun | .hop p _ _ _ _ _ _ => p | _ => false))
/-- `LONG_OP_COMPLETE` (R66). -/
def execLongOpComplete (core : Fin 64) (idx : Nat) (flip : Nat) (s : State) : Host.Outcome State Fault Refusal :=
  finish s (s.longComplete core.val idx flip)

end Sys2Proof.Machine
end

