-- ==== Sys2Proof/Machine/RowsImg.lean ====
section
/-! DEFINITION. The meanings of the image commands: load, switch, patch (R109–R122). -/

namespace Sys2Proof.Machine

/-- `IMG_LOAD` (R109). -/
def execImgLoad (slot : Fin 2) (s : State) : Host.Outcome State Fault Refusal :=
  finish s (s.viaReg R.IMG_STATUS_CODE.addr (fun t => t.imgLoad slot.val))
/-- `LOAD_COMPLETE` (R109). -/
def execLoadComplete (s : State) : Host.Outcome State Fault Refusal := finish s s.loadComplete
/-- `CANCEL_SWITCH` (R114). -/
def execCancelSwitch (s : State) : Host.Outcome State Fault Refusal := finish s (s.viaReg R.IMG_STATUS_CODE.addr State.cancelSwitch)
/-- `CANCEL_PATCH` (R122). -/
def execCancelPatch (s : State) : Host.Outcome State Fault Refusal := finish s (s.viaReg R.IMG_STATUS_CODE.addr State.cancelPatch)
/-- `DISCARD` (R122). -/
def execDiscard (s : State) : Host.Outcome State Fault Refusal := finish s (s.viaReg R.IMG_STATUS_CODE.addr State.imgDiscard)
/-- `SWITCH_ARM` (R114). -/
def execSwitchArm (hi : Word) (s : State) : Host.Outcome State Fault Refusal :=
  finish s (s.viaReg R.IMG_SWITCH_AT_HI.addr (fun t => t.switchArm hi.toNat))
/-- `PATCH_ARM` (R118). -/
def execPatchArm (hi : Word) (s : State) : Host.Outcome State Fault Refusal :=
  finish s (s.viaReg R.IMG_PATCH_AT_HI.addr (fun t => t.patchArm hi.toNat))
/-- `PATCH_CHECK_DONE` (R119). -/
def execPatchCheckDone (s : State) : Host.Outcome State Fault Refusal := finish s s.patchChecked

end Sys2Proof.Machine
end

