-- ==== Sys2Proof/Machine/RowsMarv.lean ====
section
/-! DEFINITION. The meanings of Marver's commands: its command list, group switches, update copies (R159–R168). -/

namespace Sys2Proof.Machine

/-- `MARV_LOAD` (R159). -/
def execMarvLoad (s : State) : Host.Outcome State Fault Refusal := finish s s.marvLoad
/-- `MARV_CLEAR` (R159). -/
def execMarvClear (s : State) : Host.Outcome State Fault Refusal := finish s s.marvClear
/-- `SWEEP` (R159). -/
def execSweep (errs : List RowErr) (s : State) : Host.Outcome State Fault Refusal := finish s (s.marvSweep errs)
/-- `SUM` (R159). -/
def execSumPartial (s : State) : Host.Outcome State Fault Refusal := finish s s.marvSum
/-- `EMIT` (R159). -/
def execEmit (s : State) : Host.Outcome State Fault Refusal := finish s s.marvEmit
/-- `END` (R161). -/
def execEndList (s : State) : Host.Outcome State Fault Refusal := finish s s.marvEnd
/-- `GSW_ARM` (R162). -/
def execGswArm (hi : Word) (s : State) : Host.Outcome State Fault Refusal :=
  finish s (s.viaReg R.MARV_GSW_AT_HI.addr (fun t => (t.setFld R.MARV_GSW_AT_HI hi.toNat).gswArm))
/-- `BANK_SYNC_DONE` (R162). -/
def execBankSyncDone (s : State) : Host.Outcome State Fault Refusal := finish s s.bankSynced
/-- `UPD_COPY` (R163). -/
def execUpdCopy (s : State) : Host.Outcome State Fault Refusal := finish s (s.viaReg R.MARV_UPD_STATUS_CODE.addr State.updCopy)
/-- `UPD_ABORT` (R168). -/
def execUpdAbort (count : Nat) (s : State) : Host.Outcome State Fault Refusal :=
  finish s (s.viaReg R.MARV_UPD_STATUS_CODE.addr (fun t => t.updAbort count))
/-- `UPD_COPY_DONE` (R163). -/
def execUpdCopyDone (s : State) : Host.Outcome State Fault Refusal := finish s s.updDone

end Sys2Proof.Machine
end

