-- ==== Sys2Proof/Machine/RowsMem.lean ====
section
/-! DEFINITION. The meanings of the memory commands: Granary, Gleaner, hoppers, LPDDR5 (R349–R357, R365, R375). -/

namespace Sys2Proof.Machine

/-- `GRANARY_ACCESS` (R349). -/
def execGranaryAccess (a : Option GranOp) (b : Option GranOp) (flip : Nat) (s : State) : Host.Outcome State Fault Refusal :=
  finish s (s.granAccess a b flip)
/-- `GRAN_PWR_WRITE` (R351). -/
def execGranPwrWrite (value : Word) (s : State) : Host.Outcome State Fault Refusal :=
  finish s (s.viaReg 0x40150000 (fun t => (t.halfRequest 0 (bits value.toNat 1 0)).halfRequest 1 (bits value.toNat 3 2)))
/-- `HALF_WAKE_COMPLETE` (R351). -/
def execHalfWakeComplete (half : Fin 2) (s : State) : Host.Outcome State Fault Refusal := finish s (s.halfWake half.val)
/-- `HALF_WIPE_COMPLETE` (R351). -/
def execHalfWipeComplete (half : Fin 2) (s : State) : Host.Outcome State Fault Refusal := finish s (s.halfWiped half.val)
/-- `SCRUB_READ` (R352). -/
def execScrubRead (flip : Nat) (s : State) : Host.Outcome State Fault Refusal := finish s (s.scrubRead flip)
/-- `DDR_SCRUB_READ` (R352). -/
def execDdrScrubRead (flip : Nat) (s : State) : Host.Outcome State Fault Refusal := finish s (s.ddrScrub flip)
/-- `MARCH_SEGMENT` (R353). -/
def execMarchSegment (pass : Bool) (s : State) : Host.Outcome State Fault Refusal := finish s (s.marchSegment pass)
/-- `HOPPER_ENABLE` (R355). -/
def execHopperEnable (n : Fin 64) (s : State) : Host.Outcome State Fault Refusal :=
  s.viaRegChecked true (R.HOP_Q_CFG_EN n.val).addr (s.hopEnWord n.val) (fun t => t.hopperEnable n.val)
/-- `HOPPER_DISABLE` (R355). -/
def execHopperDisable (n : Fin 64) (s : State) : Host.Outcome State Fault Refusal :=
  s.viaRegChecked true (R.HOP_Q_CFG_EN n.val).addr 0 (fun t => t.hopDisable n.val)
/-- `HOPPER_PUSH` (R356). -/
def execHopperPush (n : Fin 64) (entry : Nat) (lag : Nat) (withPop : Bool) (s : State) : Host.Outcome State Fault Refusal :=
  finish s (s.hopPushPop n.val entry lag withPop)
/-- `HOPPER_POP` (R356). -/
def execHopperPop (n : Fin 64) (lag : Nat) (s : State) : Host.Outcome State Fault Refusal := finish s (s.hopPopCmd n.val lag)
/-- `HOP_PUSH_WRITE` (R356). -/
def execHopPushWrite (n : Fin 64) (value : Word) (s : State) : Host.Outcome State Fault Refusal :=
  s.viaRegChecked true (0x40091014 + 0x20 * n.val) value.toNat (fun t => t.hopPushWrite n.val value.toNat)
/-- `HOP_POP_READ` (R356). -/
def execHopPopRead (n : Fin 64) (s : State) : Host.Outcome State Fault Refusal := s.hopReadRow n.val
/-- `LPDDR5_ACCESS` (R365). -/
def execLpddr5Access (req : BusReq) (flip : Nat) (s : State) : Host.Outcome State Fault Refusal := finish s (s.ddrAccess req flip)
/-- `REFRESH_RATE_CHANGE` (R375). -/
def execRefreshRateChange (code : Fin 32) (s : State) : Host.Outcome State Fault Refusal := finish s (s.refreshRate code.val)

end Sys2Proof.Machine
end

