-- ==== Sys2Proof/Machine/RowsNet.lean ====
section
/-! DEFINITION. The meanings of the network ports' commands (R196–R218). -/

namespace Sys2Proof.Machine

/-- `MODE_WRITE` (R196). -/
def execModeWrite (port : Fin 4) (mode : Fin 4) (s : State) : Host.Outcome State Fault Refusal :=
  finish s (s.viaReg (R.NET_CTRL_MODE port.val).addr (fun t => t.modeWrite port.val mode.val))
/-- `RX_EN_WRITE` (R204). -/
def execRxEnWrite (port : Fin 5) (s : State) : Host.Outcome State Fault Refusal :=
  s.viaRegChecked true (R.NET_CTRL_RX_EN port.val).addr (s.regWord (R.NET_CTRL_RX_EN port.val).addr ||| 1) (fun t => t.rxEnWrite port.val)
/-- `TRAIN_FAIL` (R196). -/
def execTrainFail (port : Fin 4) (s : State) : Host.Outcome State Fault Refusal := finish s (s.trainFail port.val)
/-- `NET_LINK_UP` (R196). -/
def execNetLinkUp (port : Fin 5) (partner : Nat) (eq : Nat) (s : State) : Host.Outcome State Fault Refusal :=
  finish s (s.netLinkUp port.val partner eq)
/-- `NET_LINK_DOWN` (R196). -/
def execNetLinkDown (port : Fin 5) (localFault : Bool) (remoteFault : Bool) (s : State) : Host.Outcome State Fault Refusal :=
  finish s (s.netLinkDown port.val localFault remoteFault)
/-- `RECEIVE_FRAME` (R198). -/
def execReceiveFrame (port : Fin 5) (bytes : List Byte) (pcsErr : Bool) (dt : Nat) (s : State) : Host.Outcome State Fault Refusal :=
  finish s ((s.elapse dt).frameIn port.val bytes pcsErr)
/-- `PAUSE_EXPIRY` (R215). -/
def execPauseExpiry (port : Fin 5) (s : State) : Host.Outcome State Fault Refusal := finish s (s.pauseExpire port.val)
/-- `LAUNCH_TIME` (R212). -/
def execLaunchTime (port : Fin 5) (queue : Fin 8) (dt : Nat) (s : State) : Host.Outcome State Fault Refusal :=
  finish s ((s.elapse dt).launchReached port.val queue.val)
/-- `FRAME_START` (R210). -/
def execFrameStart (port : Fin 5) (w0 w1 dt : Nat) (s : State) : Host.Outcome State Fault Refusal := finish s ((s.elapse dt).netStart port.val w0 w1)
/-- `FRAME_COMPLETE` (R208). -/
def execFrameComplete (port : Fin 5) (dt : Nat) (s : State) : Host.Outcome State Fault Refusal := finish s ((s.elapse dt).netComplete port.val)
/-- `WAKE_PATTERN_ENABLE` (R216). -/
def execWakePatternEnable (port : Fin 5) (value : Word) (s : State) : Host.Outcome State Fault Refusal :=
  finish s (s.viaReg (0x400A0300 + 0x10000 * port.val) (fun t => t.wakeCtrl port.val value.toNat))
/-- `MDIO_COMMAND` (R217). -/
def execMdioCommand (value : Word) (s : State) : Host.Outcome State Fault Refusal :=
  s.viaRegChecked true 0x400E0098 value.toNat (fun t => t.mdioWrite value.toNat)
/-- `MDIO_DONE` (R217). -/
def execMdioDone (data : Nat) (s : State) : Host.Outcome State Fault Refusal := finish s (s.mdioDone data)
/-- `OCTET_LO_READ` (R218). -/
def execOctetLoRead (port : Fin 5) (tx : Bool) (s : State) : Host.Outcome State Fault Refusal :=
  finish s (s.regReadCmd (0x400A0404 + 0x10000 * port.val + (if tx then 0x2C else 0)))

end Sys2Proof.Machine
end

