-- ==== Sys2Proof/Machine/RowsPair.lean ====
section
/-! DEFINITION. The meanings of the pair unit's commands (R279–R300). -/

namespace Sys2Proof.Machine

/-- `PAIR_EN_WRITE` (R281). -/
def execPairEnWrite (on : Bool) (s : State) : Host.Outcome State Fault Refusal := finish s (s.viaReg R.PAIR_CTRL_EN.addr (fun t => t.pairEnWrite on))
/-- `HEARTBEAT_RECEIVE` (R284). -/
def execHeartbeatReceive (twin : Option (List Byte)) (s : State) : Host.Outcome State Fault Refusal := finish s (s.heartbeat twin)
/-- `PATH_LOST` (R284). -/
def execPathLost (pathB : Bool) (s : State) : Host.Outcome State Fault Refusal := finish s (s.pathLost pathB)
/-- `CLAIM_SAMPLE` (R279). -/
def execClaimSample (low : Bool) (s : State) : Host.Outcome State Fault Refusal := finish s (s.claimSample low)
/-- `RESYNC` (R294). -/
def execResync (s : State) : Host.Outcome State Fault Refusal := finish s (s.viaReg R.PAIR_CMD_STATUS.addr State.resyncCmd)
/-- `SWAP` (R300). -/
def execSwap (s : State) : Host.Outcome State Fault Refusal := finish s (s.viaReg R.PAIR_CMD_STATUS.addr State.swapCmd)
/-- `RELEASE` (R287). -/
def execRelease (s : State) : Host.Outcome State Fault Refusal := finish s (s.viaReg R.PAIR_CMD_STATUS.addr State.releaseCmd)
/-- `SHADOW_SEGMENT_RECEIVE` (R294). -/
def execShadowSegmentReceive (seg : ShadowSeg) (s : State) : Host.Outcome State Fault Refusal := finish s (s.shadowReceive seg)
/-- `REPLAY_TICK` (R297). -/
def execReplayTick (s : State) : Host.Outcome State Fault Refusal := finish s s.replayOne
/-- `SETTLE_END` (R296). -/
def execSettleEnd (s : State) : Host.Outcome State Fault Refusal := finish s s.settleEnd
/-- `RESYNC_RETRY` (R294). -/
def execResyncRetry (s : State) : Host.Outcome State Fault Refusal := finish s s.resyncRetry
/-- `HANDOVER_RELEASE` (R298). -/
def execHandoverRelease (s : State) : Host.Outcome State Fault Refusal := finish s s.handRelease
/-- `PAIR_WTR_EXPIRY` (R299). -/
def execPairWtrExpiry (s : State) : Host.Outcome State Fault Refusal := finish s s.wtrExpiry

end Sys2Proof.Machine
end

