-- ==== Sys2Proof/Machine/RowsPower.lean ====
section
/-! DEFINITION. The meanings of the commands of supplies, domains, resets, boot and the TAP (R419–R432, R447). -/

namespace Sys2Proof.Machine

/-- `FEED_COMPARATOR_CHANGE` (R419). -/
def execFeedComparatorChange (backup : Bool) (mv : Nat) (s : State) : Host.Outcome State Fault Refusal := finish s (s.feedCompare backup mv)
/-- `SWITCH_DELAY_EXPIRY` (R420). -/
def execSwitchDelayExpiry (s : State) : Host.Outcome State Fault Refusal := finish s s.switchDelay
/-- `RETURN_DELAY_EXPIRY` (R420). -/
def execReturnDelayExpiry (s : State) : Host.Outcome State Fault Refusal := finish s s.returnDelay
/-- `FEED_PIN_CHANGE` (R420). -/
def execFeedPinChange (s : State) : Host.Outcome State Fault Refusal := finish s s.feedPin
/-- `FEED_FORCE_WRITE` (R420). -/
def execFeedForceWrite (force : Fin 4) (s : State) : Host.Outcome State Fault Refusal :=
  finish s (s.viaReg 0x40010000 (fun t => t.forceWrite force.val))
/-- `AON_SWITCH` (R422). -/
def execAonSwitch (back : Bool) (s : State) : Host.Outcome State Fault Refusal := finish s (s.aonSwitch back)
/-- `DOM_REQ_WRITE` (R424). -/
def execDomReqWrite (value : Word) (s : State) : Host.Outcome State Fault Refusal :=
  s.viaRegChecked true 0x40010008 value.toNat (fun t => t.domReqWrite value.toNat)
/-- `DOMAIN_POWER_UP_COMPLETE` (R424). -/
def execDomainPowerUpComplete (d : Fin 12) (s : State) : Host.Outcome State Fault Refusal := finish s (s.domComplete d.val)
/-- `PMBUS_VOUT_CHANGE` (R425). -/
def execPmbusVoutChange (s : State) : Host.Outcome State Fault Refusal := finish s s.voutChange
/-- `PMBUS_CONFIRM` (R425). -/
def execPmbusConfirm (mv : Nat) (s : State) : Host.Outcome State Fault Refusal := finish s (s.voutConfirm mv)
/-- `PMB_ALERT` (R425). -/
def execPmbAlert (low : Bool) (s : State) : Host.Outcome State Fault Refusal := finish s (s.pmbAlert low)
/-- `STANDBY` (R426). -/
def execStandby (s : State) : Host.Outcome State Fault Refusal := finish s (s.viaReg 0x40010028 State.standbyCmd)
/-- `WAKE_EVENT` (R426). -/
def execWakeEvent (k : Fin 6) (s : State) : Host.Outcome State Fault Refusal := finish s (s.wake k.val)
/-- `WAKE_TIMER_EXPIRY` (R426). -/
def execWakeTimerExpiry (s : State) : Host.Outcome State Fault Refusal := finish s s.wakeTimer
/-- `POWER_ON_RESET` (R427). -/
def execPowerOnReset (s : State) : Host.Outcome State Fault Refusal := finish s s.powerReset
/-- `PIN_RESET` (R427). -/
def execPinReset (s : State) : Host.Outcome State Fault Refusal := finish s (s.warmReset 1)
/-- `HOST_RESET` (R427). -/
def execHostReset (grange : Bool) (value : Word) (s : State) : Host.Outcome State Fault Refusal :=
  finish s (s.viaReg 0x40020000 (fun t => t.chipWrite grange value.toNat))
/-- `PERST` (R427). -/
def execPerst (s : State) : Host.Outcome State Fault Refusal := finish s s.perstLow
/-- `BLOCK_RESET` (R429). -/
def execBlockReset (src : Fin 128) (hopper : Fin 64) (s : State) : Host.Outcome State Fault Refusal :=
  finish s (s.viaReg 0x40020008 (fun t => t.blockCmd src.val hopper.val))
/-- `BOOT` (R432). -/
def execBoot (env : BootEnv) (s : State) : Host.Outcome State Fault Refusal := finish s (s.boot env)
/-- `TAP_INSTRUCTION` (R447). -/
def execTapInstruction (ir : TapInstr) (s : State) : Host.Outcome State Fault Refusal := finish s (s.tapLoad ir)
/-- `TAP_RESET` (R447). -/
def execTapReset (s : State) : Host.Outcome State Fault Refusal := finish s s.tapInit
/-- `LINK_BLOCK_SEND` (R309). -/
def execLinkBlockSend (p : Fin 3) (s : State) : Host.Outcome State Fault Refusal := finish s (s.linkSend p.val)
/-- `IDLE_BEACON_SEND` (R320). -/
def execIdleBeaconSend (s : State) : Host.Outcome State Fault Refusal := finish s s.idleBeacon

end Sys2Proof.Machine
end

