-- ==== Sys2Proof/Machine/RowsReg.lean ====
section
/-! DEFINITION. The meanings of the register and bus commands (R10, R11, R360–R362). -/

namespace Sys2Proof.Machine

/-- `REGISTER_WRITE` (R10). -/
def execRegisterWrite (grange : Bool) (addr : Nat) (value : Word) (s : State) : Host.Outcome State Fault Refusal :=
  s.wordAccess grange addr (some value.toNat)
/-- `READ_CLEAR` (R11). -/
def execReadClear (grange : Bool) (addr : Nat) (s : State) : Host.Outcome State Fault Refusal := s.wordAccess grange addr none
/-- `BUS_TRANSACTION` (R360). -/
def execBusTransaction (master : Fin 11) (req : BusReq) (flip : Nat) (completes : Bool) (s : State) : Host.Outcome State Fault Refusal :=
  s.busCmd master.val req flip completes
/-- `MATRIX_TIMEOUT` (R362). -/
def execMatrixTimeout (idx : Nat) (s : State) : Host.Outcome State Fault Refusal := finish s (s.busTimeout idx)

end Sys2Proof.Machine
end

