-- ==== Sys2Proof/Machine/RowsSap.lean ====
section
/-! DEFINITION. The meanings of the serial audio ports' commands (R182–R189). -/

namespace Sys2Proof.Machine

/-- `SAP_ARM` (R183). -/
def execSapArm (port : Fin 16) (s : State) : Host.Outcome State Fault Refusal :=
  finish s (s.viaReg (R.SAP_PORT_STATUS_STATE port.val).addr (fun t => t.sapArm port.val))
/-- `SAP_STOP` (R182). -/
def execSapStop (port : Fin 16) (s : State) : Host.Outcome State Fault Refusal :=
  finish s (s.viaReg (R.SAP_PORT_STATUS_STATE port.val).addr (fun t => t.sapStop port.val))
/-- `START_AT_ARM` (R185). -/
def execStartAtArm (hi : Word) (s : State) : Host.Outcome State Fault Refusal :=
  finish s (s.viaReg R.SAP_START_AT_HI.addr (fun t => t.startAtArm hi.toNat))
/-- `PIN_START_ARM` (R185). -/
def execPinStartArm (value : Word) (s : State) : Host.Outcome State Fault Refusal :=
  finish s (s.viaReg R.SAP_GRP_STATE.addr (fun t => t.pinCtrlWrite value.toNat))
/-- `SAP_START_EDGE` (R185). -/
def execSapStartEdge (falling : Bool) (near : Bool) (s : State) : Host.Outcome State Fault Refusal := finish s (s.sapEdge falling near)
/-- `SAP_RECEIVE_FRAME` (R186). -/
def execSapReceiveFrame (port : Fin 16) (slots : List Word) (start : Int) (bclk : Nat) (lag : Nat) (s : State) : Host.Outcome State Fault Refusal :=
  finish s (s.sapReceive port.val slots start bclk lag)
/-- `SAP_TRANSMIT_FRAME` (R186). -/
def execSapTransmitFrame (port : Fin 16) (start : Int) (lag : Nat) (abandoned : Bool) (s : State) : Host.Outcome State Fault Refusal :=
  finish s (s.sapTransmit port.val start lag abandoned)
/-- `BCLK_LOSS` (R188). -/
def execBclkLoss (port : Fin 16) (s : State) : Host.Outcome State Fault Refusal := finish s (s.sapClockFault port.val 1)
/-- `BCLK_GLITCH` (R188). -/
def execBclkGlitch (port : Fin 16) (s : State) : Host.Outcome State Fault Refusal := finish s (s.sapClockFault port.val 2)
/-- `FRAME_ERROR` (R189). -/
def execFrameError (port : Fin 16) (lag : Nat) (s : State) : Host.Outcome State Fault Refusal := finish s (s.sapFrameError port.val lag)

end Sys2Proof.Machine
end

