-- ==== Sys2Proof/Machine/RowsSilo.lean ====
section
/-! DEFINITION. The meanings of the Silo's commands: recording, marks, replay (R138–R142). -/

namespace Sys2Proof.Machine

/-- `REC_SET` (R139). -/
def execRecSet (s : State) : Host.Outcome State Fault Refusal := finish s (s.viaReg R.SILO_CTRL_REC.addr State.recSet)
/-- `REC_CLEAR` (R139). -/
def execRecClear (s : State) : Host.Outcome State Fault Refusal := finish s (s.viaReg R.SILO_CTRL_REC.addr State.recClear)
/-- `SILO_RECORD` (R139). -/
def execSiloRecord (accepted : Bool) (s : State) : Host.Outcome State Fault Refusal := finish s (s.siloRecord accepted)
/-- `SILO_LATE_WRITE` (R139). -/
def execSiloLateWrite (s : State) : Host.Outcome State Fault Refusal := finish s s.siloLate
/-- `MARK_SET` (R140). -/
def execMarkSet (m : Fin 4) (s : State) : Host.Outcome State Fault Refusal :=
  finish s (s.viaReg R.SILO_MARK_STATE.addr (fun t => t.siloCmd false (256 + m.val)))
/-- `MARK_CLEAR` (R140). -/
def execMarkClear (m : Fin 4) (s : State) : Host.Outcome State Fault Refusal :=
  finish s (s.viaReg R.SILO_MARK_STATE.addr (fun t => t.siloCmd false (512 + m.val)))
/-- `START_MARK` (R141). -/
def execStartMark (m : Fin 4) (s : State) : Host.Outcome State Fault Refusal :=
  finish s (s.viaReg R.SILO_RP_STATUS_STATE.addr (fun t => t.siloCmd true (1 + 16 * m.val)))
/-- `START_INDEX` (R141). -/
def execStartIndex (s : State) : Host.Outcome State Fault Refusal := finish s (s.viaReg R.SILO_RP_STATUS_STATE.addr (fun t => t.siloCmd true 2))
/-- `REPLAY_PAUSE` (R141). -/
def execReplayPause (s : State) : Host.Outcome State Fault Refusal := finish s (s.viaReg R.SILO_RP_STATUS_STATE.addr (fun t => t.siloCmd true 3))
/-- `REPLAY_RESUME` (R141). -/
def execReplayResume (s : State) : Host.Outcome State Fault Refusal := finish s (s.viaReg R.SILO_RP_STATUS_STATE.addr (fun t => t.siloCmd true 4))
/-- `REPLAY_ABORT` (R141). -/
def execReplayAbort (s : State) : Host.Outcome State Fault Refusal := finish s (s.viaReg R.SILO_RP_STATUS_STATE.addr (fun t => t.siloCmd true 5))
/-- `REPLAY_READ` (R141). -/
def execReplayRead (s : State) : Host.Outcome State Fault Refusal := finish s s.rpRead

end Sys2Proof.Machine
end

