-- ==== Sys2Proof/Machine/RowsStrm.lean ====
section
/-! DEFINITION. The meanings of the stream engine's and the timebase's commands (R232–R248). -/

namespace Sys2Proof.Machine

/-- `STREAM_FRAME_BUILD` (R233). -/
def execStreamFrameBuild (stream : Fin 128) (s : State) : Host.Outcome State Fault Refusal := finish s (s.strmBuild stream.val)
/-- `STREAM_QUEUE_CUTOFF` (R233). -/
def execStreamQueueCutoff (s : State) : Host.Outcome State Fault Refusal := finish s s.strmCutoff
/-- `STREAM_FRAME_RECEIVE` (R234). -/
def execStreamFrameReceive (late : Bool) (s : State) : Host.Outcome State Fault Refusal := finish s (s.strmReceive late)
/-- `STREAM_LOST` (R237). -/
def execStreamLost (stream : Fin 128) (s : State) : Host.Outcome State Fault Refusal := finish s (s.strmLost stream.val)
/-- `RECOVERY_RESET` (R240). -/
def execRecoveryReset (stream : Fin 128) (s : State) : Host.Outcome State Fault Refusal := finish s (s.recoveryReset stream.val)
/-- `PTP_MESSAGE_RECEIVE` (R244). -/
def execPtpMessageReceive (s : State) : Host.Outcome State Fault Refusal := finish s s.ptpReceive
/-- `GM_LOST` (R242). -/
def execGmLost (i : Fin 2) (s : State) : Host.Outcome State Fault Refusal := finish s (s.gmLost i.val)
/-- `TIME_STEP` (R243). -/
def execTimeStep (i : Fin 2) (dt : Nat) (s : State) : Host.Outcome State Fault Refusal :=
  finish s ((s.elapse dt).viaReg (0x40100124 + 0x80 * i.val) (fun t => t.timeStep i.val))
/-- `TIME_SET` (R243). -/
def execTimeSet (i : Fin 2) (dt : Nat) (s : State) : Host.Outcome State Fault Refusal :=
  finish s ((s.elapse dt).viaReg (0x40100124 + 0x80 * i.val) (fun t => t.timeSet i.val))
/-- `TIME_NS_READ` (R243). -/
def execTimeNsRead (i : Fin 2) (dt : Nat) (s : State) : Host.Outcome State Fault Refusal :=
  finish s ((s.elapse dt).regReadCmd (0x40100108 + 0x80 * i.val))
/-- `SEL_WRITE` (R247). -/
def execSelWrite (i : Fin 2) (s : State) : Host.Outcome State Fault Refusal := finish s (s.viaReg R.TIME_CTRL_SEL.addr (fun t => t.selWrite i.val))
/-- `SLEW_DONE` (R248). -/
def execSlewDone (s : State) : Host.Outcome State Fault Refusal := finish s s.slewEnd

end Sys2Proof.Machine
end

