-- ==== Sys2Proof/Machine/RowsTick.lean ====
section
/-! DEFINITION. The meanings of the tick sequencer's commands (R16–R38, R108). -/

namespace Sys2Proof.Machine

/-- `RUN_SET` (R17). -/
def execRunSet (s : State) : Host.Outcome State Fault Refusal := finish s (s.viaReg R.TICK_CTRL_RUN.addr State.runSet)
/-- `FIRST_BOUNDARY` (R17). -/
def execFirstBoundary (env : BoundaryEnv) (s : State) : Host.Outcome State Fault Refusal := finish s (s.firstBoundary env)
/-- `RUN_CLEAR` (R38). -/
def execRunClear (s : State) : Host.Outcome State Fault Refusal := finish s (s.viaReg R.TICK_CTRL_RUN.addr State.runClear)
/-- `RUN_STOP` (R38). -/
def execRunStop (dt : Nat) (s : State) : Host.Outcome State Fault Refusal := finish s (s.runStopAt dt)
/-- `TICK_BOUNDARY` (R22). -/
def execTickBoundary (env : BoundaryEnv) (s : State) : Host.Outcome State Fault Refusal := finish s (s.tickBoundary env)
/-- `IRQ_AT_ARM` (R37). -/
def execIrqAtArm (hi : Word) (s : State) : Host.Outcome State Fault Refusal :=
  finish s (s.viaReg R.TICK_IRQ_AT_HI.addr (fun t => t.irqAtArm hi.toNat))
/-- `NUM_LO_READ` (R37). -/
def execNumLoRead (s : State) : Host.Outcome State Fault Refusal := finish s s.numLoRead
/-- `WINDOW_START` (R22). -/
def execWindowStart (s : State) : Host.Outcome State Fault Refusal := finish s s.windowStart
/-- `WINDOW_END` (R25). -/
def execWindowEnd (spent : Nat) (s : State) : Host.Outcome State Fault Refusal := finish s (s.windowEnd spent)
/-- `CLAIM_WATCHDOG_EXPIRY` (R36). -/
def execClaimWatchdogExpiry (s : State) : Host.Outcome State Fault Refusal := finish s s.claimWatchdog
/-- `DIGEST_CLOSE` (R108). -/
def execDigestClose (s : State) : Host.Outcome State Fault Refusal := finish s s.digestClose

end Sys2Proof.Machine
end

