-- ==== Sys2Proof/Machine/Dispatch.lean ====
section
/-! DEFINITION. The commands: one arm per constructor, each one call of its meaning. -/

namespace Sys2Proof.Machine

def exec (i : Instr) (s : State) : Host.Outcome State Fault Refusal :=
  match i with
  | .registerWrite grange addr value => Sys2Proof.Machine.execRegisterWrite grange addr value s
  | .readClear grange addr => Sys2Proof.Machine.execReadClear grange addr s
  | .busTransaction master req flip completes => Sys2Proof.Machine.execBusTransaction master req flip completes s
  | .matrixTimeout idx => Sys2Proof.Machine.execMatrixTimeout idx s
  | .runSet => Sys2Proof.Machine.execRunSet s
  | .firstBoundary env => Sys2Proof.Machine.execFirstBoundary env s
  | .runClear => Sys2Proof.Machine.execRunClear s
  | .runStop dt => Sys2Proof.Machine.execRunStop dt s
  | .tickBoundary env => Sys2Proof.Machine.execTickBoundary env s
  | .irqAtArm hi => Sys2Proof.Machine.execIrqAtArm hi s
  | .numLoRead => Sys2Proof.Machine.execNumLoRead s
  | .windowStart => Sys2Proof.Machine.execWindowStart s
  | .windowEnd spent => Sys2Proof.Machine.execWindowEnd spent s
  | .claimWatchdogExpiry => Sys2Proof.Machine.execClaimWatchdogExpiry s
  | .digestClose => Sys2Proof.Machine.execDigestClose s
  | .nop core wait => Sys2Proof.Machine.execNop core wait s
  | .tend core wait => Sys2Proof.Machine.execTend core wait s
  | .tendComplete core => Sys2Proof.Machine.execTendComplete core s
  | .rts core wait => Sys2Proof.Machine.execRts core wait s
  | .doLoop core wait => Sys2Proof.Machine.execDoLoop core wait s
  | .dor core wait => Sys2Proof.Machine.execDor core wait s
  | .bra core wait => Sys2Proof.Machine.execBra core wait s
  | .bcc core wait => Sys2Proof.Machine.execBcc core wait s
  | .jsr core wait => Sys2Proof.Machine.execJsr core wait s
  | .ldi core wait => Sys2Proof.Machine.execLdi core wait s
  | .mpy core wait => Sys2Proof.Machine.execMpy core wait s
  | .mac core wait => Sys2Proof.Machine.execMac core wait s
  | .add core wait => Sys2Proof.Machine.execAdd core wait s
  | .sub core wait => Sys2Proof.Machine.execSub core wait s
  | .tfr core wait => Sys2Proof.Machine.execTfr core wait s
  | .cmp core wait => Sys2Proof.Machine.execCmp core wait s
  | .maxA core wait => Sys2Proof.Machine.execMaxA core wait s
  | .minA core wait => Sys2Proof.Machine.execMinA core wait s
  | .maxa core wait => Sys2Proof.Machine.execMaxa core wait s
  | .clr core wait => Sys2Proof.Machine.execClr core wait s
  | .rnd core wait => Sys2Proof.Machine.execRnd core wait s
  | .neg core wait => Sys2Proof.Machine.execNeg core wait s
  | .absA core wait => Sys2Proof.Machine.execAbsA core wait s
  | .asl core wait => Sys2Proof.Machine.execAsl core wait s
  | .asr core wait => Sys2Proof.Machine.execAsr core wait s
  | .fold core wait => Sys2Proof.Machine.execFold core wait s
  | .sat core wait => Sys2Proof.Machine.execSat core wait s
  | .gld core wait => Sys2Proof.Machine.execGld core wait s
  | .gst core wait => Sys2Proof.Machine.execGst core wait s
  | .gadd core wait => Sys2Proof.Machine.execGadd core wait s
  | .gswp core wait => Sys2Proof.Machine.execGswp core wait s
  | .hpush core wait => Sys2Proof.Machine.execHpush core wait s
  | .hpop core wait => Sys2Proof.Machine.execHpop core wait s
  | .longOpComplete core idx flip => Sys2Proof.Machine.execLongOpComplete core idx flip s
  | .gather flip => Sys2Proof.Machine.execGather flip s
  | .scatter flip => Sys2Proof.Machine.execScatter flip s
  | .ringFill ddr count => Sys2Proof.Machine.execRingFill ddr count s
  | .rtWrite table => Sys2Proof.Machine.execRtWrite table s
  | .rtSetlen table => Sys2Proof.Machine.execRtSetlen table s
  | .rtCancel => Sys2Proof.Machine.execRtCancel s
  | .rtRevert table => Sys2Proof.Machine.execRtRevert table s
  | .rtAtArm hi => Sys2Proof.Machine.execRtAtArm hi s
  | .routeCheckDone => Sys2Proof.Machine.execRouteCheckDone s
  | .shadowSyncDone => Sys2Proof.Machine.execShadowSyncDone s
  | .silEnSet ch => Sys2Proof.Machine.execSilEnSet ch s
  | .silEnClear ch => Sys2Proof.Machine.execSilEnClear ch s
  | .holdExpiry ch => Sys2Proof.Machine.execHoldExpiry ch s
  | .halfTicksExpiry ch => Sys2Proof.Machine.execHalfTicksExpiry ch s
  | .wakingComplete ch => Sys2Proof.Machine.execWakingComplete ch s
  | .recSet => Sys2Proof.Machine.execRecSet s
  | .recClear => Sys2Proof.Machine.execRecClear s
  | .siloRecord accepted => Sys2Proof.Machine.execSiloRecord accepted s
  | .siloLateWrite => Sys2Proof.Machine.execSiloLateWrite s
  | .markSet m => Sys2Proof.Machine.execMarkSet m s
  | .markClear m => Sys2Proof.Machine.execMarkClear m s
  | .startMark m => Sys2Proof.Machine.execStartMark m s
  | .startIndex => Sys2Proof.Machine.execStartIndex s
  | .replayPause => Sys2Proof.Machine.execReplayPause s
  | .replayResume => Sys2Proof.Machine.execReplayResume s
  | .replayAbort => Sys2Proof.Machine.execReplayAbort s
  | .replayRead => Sys2Proof.Machine.execReplayRead s
  | .imgLoad slot => Sys2Proof.Machine.execImgLoad slot s
  | .loadComplete => Sys2Proof.Machine.execLoadComplete s
  | .cancelSwitch => Sys2Proof.Machine.execCancelSwitch s
  | .cancelPatch => Sys2Proof.Machine.execCancelPatch s
  | .discard => Sys2Proof.Machine.execDiscard s
  | .switchArm hi => Sys2Proof.Machine.execSwitchArm hi s
  | .patchArm hi => Sys2Proof.Machine.execPatchArm hi s
  | .patchCheckDone => Sys2Proof.Machine.execPatchCheckDone s
  | .marvLoad => Sys2Proof.Machine.execMarvLoad s
  | .marvClear => Sys2Proof.Machine.execMarvClear s
  | .sweep errs => Sys2Proof.Machine.execSweep errs s
  | .sumPartial => Sys2Proof.Machine.execSumPartial s
  | .emit => Sys2Proof.Machine.execEmit s
  | .endList => Sys2Proof.Machine.execEndList s
  | .gswArm hi => Sys2Proof.Machine.execGswArm hi s
  | .bankSyncDone => Sys2Proof.Machine.execBankSyncDone s
  | .updCopy => Sys2Proof.Machine.execUpdCopy s
  | .updAbort count => Sys2Proof.Machine.execUpdAbort count s
  | .updCopyDone => Sys2Proof.Machine.execUpdCopyDone s
  | .sapArm port => Sys2Proof.Machine.execSapArm port s
  | .sapStop port => Sys2Proof.Machine.execSapStop port s
  | .startAtArm hi => Sys2Proof.Machine.execStartAtArm hi s
  | .pinStartArm value => Sys2Proof.Machine.execPinStartArm value s
  | .sapStartEdge falling near => Sys2Proof.Machine.execSapStartEdge falling near s
  | .sapReceiveFrame port slots start bclk lag => Sys2Proof.Machine.execSapReceiveFrame port slots start bclk lag s
  | .sapTransmitFrame port start lag abandoned => Sys2Proof.Machine.execSapTransmitFrame port start lag abandoned s
  | .bclkLoss port => Sys2Proof.Machine.execBclkLoss port s
  | .bclkGlitch port => Sys2Proof.Machine.execBclkGlitch port s
  | .frameError port lag => Sys2Proof.Machine.execFrameError port lag s
  | .modeWrite port mode => Sys2Proof.Machine.execModeWrite port mode s
  | .rxEnWrite port => Sys2Proof.Machine.execRxEnWrite port s
  | .trainFail port => Sys2Proof.Machine.execTrainFail port s
  | .netLinkUp port partner eq => Sys2Proof.Machine.execNetLinkUp port partner eq s
  | .netLinkDown port localFault remoteFault => Sys2Proof.Machine.execNetLinkDown port localFault remoteFault s
  | .receiveFrame port bytes pcsErr dt => Sys2Proof.Machine.execReceiveFrame port bytes pcsErr dt s
  | .pauseExpiry port => Sys2Proof.Machine.execPauseExpiry port s
  | .launchTime port queue dt => Sys2Proof.Machine.execLaunchTime port queue dt s
  | .frameStart port w0 w1 dt => Sys2Proof.Machine.execFrameStart port w0 w1 dt s
  | .frameComplete port dt => Sys2Proof.Machine.execFrameComplete port dt s
  | .wakePatternEnable port value => Sys2Proof.Machine.execWakePatternEnable port value s
  | .mdioCommand value => Sys2Proof.Machine.execMdioCommand value s
  | .mdioDone data => Sys2Proof.Machine.execMdioDone data s
  | .octetLoRead port tx => Sys2Proof.Machine.execOctetLoRead port tx s
  | .streamFrameBuild stream => Sys2Proof.Machine.execStreamFrameBuild stream s
  | .streamQueueCutoff => Sys2Proof.Machine.execStreamQueueCutoff s
  | .streamFrameReceive late => Sys2Proof.Machine.execStreamFrameReceive late s
  | .streamLost stream => Sys2Proof.Machine.execStreamLost stream s
  | .recoveryReset stream => Sys2Proof.Machine.execRecoveryReset stream s
  | .ptpMessageReceive => Sys2Proof.Machine.execPtpMessageReceive s
  | .gmLost inst => Sys2Proof.Machine.execGmLost inst s
  | .timeStep inst dt => Sys2Proof.Machine.execTimeStep inst dt s
  | .timeSet inst dt => Sys2Proof.Machine.execTimeSet inst dt s
  | .timeNsRead inst dt => Sys2Proof.Machine.execTimeNsRead inst dt s
  | .selWrite inst => Sys2Proof.Machine.execSelWrite inst s
  | .slewDone => Sys2Proof.Machine.execSlewDone s
  | .referenceEdge n falling period err => Sys2Proof.Machine.execReferenceEdge n falling period err s
  | .activityFail n => Sys2Proof.Machine.execActivityFail n s
  | .frequencyMeasure n ofs => Sys2Proof.Machine.execFrequencyMeasure n ofs s
  | .sourceConditionFail n => Sys2Proof.Machine.execSourceConditionFail n s
  | .stageAdvance => Sys2Proof.Machine.execStageAdvance s
  | .waitToRestoreExpiry n => Sys2Proof.Machine.execWaitToRestoreExpiry n s
  | .holdoverUpdate up => Sys2Proof.Machine.execHoldoverUpdate up s
  | .ktUpdate wordUp tempUp => Sys2Proof.Machine.execKtUpdate wordUp tempUp s
  | .ageUpdate => Sys2Proof.Machine.execAgeUpdate s
  | .hoKtWrite value => Sys2Proof.Machine.execHoKtWrite value s
  | .hoAgeWrite value => Sys2Proof.Machine.execHoAgeWrite value s
  | .xoFail => Sys2Proof.Machine.execXoFail s
  | .xoRestore clean => Sys2Proof.Machine.execXoRestore clean s
  | .align => Sys2Proof.Machine.execAlign s
  | .alignComplete => Sys2Proof.Machine.execAlignComplete s
  | .holdoverCommand => Sys2Proof.Machine.execHoldoverCommand s
  | .outAlignArm hi => Sys2Proof.Machine.execOutAlignArm hi s
  | .pllLoss pll => Sys2Proof.Machine.execPllLoss pll s
  | .pairEnWrite on => Sys2Proof.Machine.execPairEnWrite on s
  | .heartbeatReceive twin => Sys2Proof.Machine.execHeartbeatReceive twin s
  | .pathLost pathB => Sys2Proof.Machine.execPathLost pathB s
  | .claimSample low => Sys2Proof.Machine.execClaimSample low s
  | .resync => Sys2Proof.Machine.execResync s
  | .swap => Sys2Proof.Machine.execSwap s
  | .release => Sys2Proof.Machine.execRelease s
  | .shadowSegmentReceive seg => Sys2Proof.Machine.execShadowSegmentReceive seg s
  | .replayTick => Sys2Proof.Machine.execReplayTick s
  | .settleEnd => Sys2Proof.Machine.execSettleEnd s
  | .resyncRetry => Sys2Proof.Machine.execResyncRetry s
  | .handoverRelease => Sys2Proof.Machine.execHandoverRelease s
  | .pairWtrExpiry => Sys2Proof.Machine.execPairWtrExpiry s
  | .chainEnable p => Sys2Proof.Machine.execChainEnable p s
  | .laneLock p => Sys2Proof.Machine.execLaneLock p s
  | .laneAlign p skew => Sys2Proof.Machine.execLaneAlign p skew s
  | .linkBlockReceive p bytes => Sys2Proof.Machine.execLinkBlockReceive p bytes s
  | .trainingTimeout p => Sys2Proof.Machine.execTrainingTimeout p s
  | .markReceive p bytes rt period err up => Sys2Proof.Machine.execMarkReceive p bytes rt period err up s
  | .chainMarkLost p => Sys2Proof.Machine.execChainMarkLost p s
  | .lockLost p => Sys2Proof.Machine.execLockLost p s
  | .runSend p forwarded => Sys2Proof.Machine.execRunSend p forwarded s
  | .trailerSend p => Sys2Proof.Machine.execTrailerSend p s
  | .sendCutoff p => Sys2Proof.Machine.execSendCutoff p s
  | .baleHeaderReceive p bytes => Sys2Proof.Machine.execBaleHeaderReceive p bytes s
  | .runReceive p bytes late => Sys2Proof.Machine.execRunReceive p bytes late s
  | .trailerReceive p bytes => Sys2Proof.Machine.execTrailerReceive p bytes s
  | .receiveCutoff p => Sys2Proof.Machine.execReceiveCutoff p s
  | .baleLost p => Sys2Proof.Machine.execBaleLost p s
  | .beaconReceive p bytes arrival residence => Sys2Proof.Machine.execBeaconReceive p bytes arrival residence s
  | .deputyTakeover => Sys2Proof.Machine.execDeputyTakeover s
  | .noBeacon => Sys2Proof.Machine.execNoBeacon s
  | .stopAtArm hi => Sys2Proof.Machine.execStopAtArm hi s
  | .phaseWordReceive word => Sys2Proof.Machine.execPhaseWordReceive word s
  | .ampStart ch => Sys2Proof.Machine.execAmpStart ch s
  | .ampStop ch => Sys2Proof.Machine.execAmpStop ch s
  | .ampClear ch => Sys2Proof.Machine.execAmpClear ch s
  | .inStepRelease ch => Sys2Proof.Machine.execInStepRelease ch s
  | .short ch => Sys2Proof.Machine.execShort ch s
  | .retry ch => Sys2Proof.Machine.execRetry ch s
  | .retriesClear ch => Sys2Proof.Machine.execRetriesClear ch s
  | .overTemperature g shorted => Sys2Proof.Machine.execOverTemperature g shorted s
  | .otRestart g => Sys2Proof.Machine.execOtRestart g s
  | .senseLoss kind idx => Sys2Proof.Machine.execSenseLoss kind idx s
  | .idleFrequencyMeasure ch freq => Sys2Proof.Machine.execIdleFrequencyMeasure ch freq s
  | .granaryAccess a b flip => Sys2Proof.Machine.execGranaryAccess a b flip s
  | .granPwrWrite value => Sys2Proof.Machine.execGranPwrWrite value s
  | .halfWakeComplete half => Sys2Proof.Machine.execHalfWakeComplete half s
  | .halfWipeComplete half => Sys2Proof.Machine.execHalfWipeComplete half s
  | .scrubRead flip => Sys2Proof.Machine.execScrubRead flip s
  | .ddrScrubRead flip => Sys2Proof.Machine.execDdrScrubRead flip s
  | .marchSegment pass => Sys2Proof.Machine.execMarchSegment pass s
  | .hopperEnable n => Sys2Proof.Machine.execHopperEnable n s
  | .hopperDisable n => Sys2Proof.Machine.execHopperDisable n s
  | .hopperPush n entry lag withPop => Sys2Proof.Machine.execHopperPush n entry lag withPop s
  | .hopperPop n lag => Sys2Proof.Machine.execHopperPop n lag s
  | .hopPushWrite n value => Sys2Proof.Machine.execHopPushWrite n value s
  | .hopPopRead n => Sys2Proof.Machine.execHopPopRead n s
  | .lpddr5Access req flip => Sys2Proof.Machine.execLpddr5Access req flip s
  | .hostRequest req flip timeout => Sys2Proof.Machine.execHostRequest req flip timeout s
  | .dbH2gSetWrite value => Sys2Proof.Machine.execDbH2gSetWrite value s
  | .dbG2hSetWrite value => Sys2Proof.Machine.execDbG2hSetWrite value s
  | .functionLevelReset => Sys2Proof.Machine.execFunctionLevelReset s
  | .faultMessage src kind addr => Sys2Proof.Machine.execFaultMessage src kind addr s
  | .errPulseEnd => Sys2Proof.Machine.execErrPulseEnd s
  | .shadowWindowClose => Sys2Proof.Machine.execShadowWindowClose s
  | .releaseHold => Sys2Proof.Machine.execReleaseHold s
  | .clearFirst => Sys2Proof.Machine.execClearFirst s
  | .enterSafe => Sys2Proof.Machine.execEnterSafe s
  | .injectArm value => Sys2Proof.Machine.execInjectArm value s
  | .selfFault dual => Sys2Proof.Machine.execSelfFault dual s
  | .watchdogExpiry => Sys2Proof.Machine.execWatchdogExpiry s
  | .wdogKick value => Sys2Proof.Machine.execWdogKick value s
  | .grangeRestart => Sys2Proof.Machine.execGrangeRestart s
  | .sensorSample n sample => Sys2Proof.Machine.execSensorSample n sample s
  | .logRecordWrite => Sys2Proof.Machine.execLogRecordWrite s
  | .info via => Sys2Proof.Machine.execInfo via s
  | .logRead via => Sys2Proof.Machine.execLogRead via s
  | .logDump via ok => Sys2Proof.Machine.execLogDump via ok s
  | .logWrite via => Sys2Proof.Machine.execLogWrite via s
  | .cfgRead via => Sys2Proof.Machine.execCfgRead via s
  | .cfgWrite via => Sys2Proof.Machine.execCfgWrite via s
  | .cfgCommit via => Sys2Proof.Machine.execCfgCommit via s
  | .sensRead via => Sys2Proof.Machine.execSensRead via s
  | .updStage via => Sys2Proof.Machine.execUpdStage via s
  | .updStageComplete ok => Sys2Proof.Machine.execUpdStageComplete ok s
  | .updActivate via => Sys2Proof.Machine.execUpdActivate via s
  | .updConfirm via => Sys2Proof.Machine.execUpdConfirm via s
  | .trialTimeout => Sys2Proof.Machine.execTrialTimeout s
  | .libLoad via => Sys2Proof.Machine.execLibLoad via s
  | .snapSave via => Sys2Proof.Machine.execSnapSave via s
  | .snapLoad via => Sys2Proof.Machine.execSnapLoad via s
  | .lcRequest via => Sys2Proof.Machine.execLcRequest via s
  | .keyWrite via => Sys2Proof.Machine.execKeyWrite via s
  | .cntInc via => Sys2Proof.Machine.execCntInc via s
  | .wipeCfg via => Sys2Proof.Machine.execWipeCfg via s
  | .restart via => Sys2Proof.Machine.execRestart via s
  | .chipReset via => Sys2Proof.Machine.execChipReset via s
  | .odmaStart => Sys2Proof.Machine.execOdmaStart s
  | .odmaDone ok => Sys2Proof.Machine.execOdmaDone ok s
  | .feedComparatorChange backup mv => Sys2Proof.Machine.execFeedComparatorChange backup mv s
  | .switchDelayExpiry => Sys2Proof.Machine.execSwitchDelayExpiry s
  | .returnDelayExpiry => Sys2Proof.Machine.execReturnDelayExpiry s
  | .feedPinChange => Sys2Proof.Machine.execFeedPinChange s
  | .feedForceWrite force => Sys2Proof.Machine.execFeedForceWrite force s
  | .aonSwitch back => Sys2Proof.Machine.execAonSwitch back s
  | .domReqWrite value => Sys2Proof.Machine.execDomReqWrite value s
  | .domainPowerUpComplete d => Sys2Proof.Machine.execDomainPowerUpComplete d s
  | .pmbusVoutChange => Sys2Proof.Machine.execPmbusVoutChange s
  | .pmbusConfirm mv => Sys2Proof.Machine.execPmbusConfirm mv s
  | .pmbAlert low => Sys2Proof.Machine.execPmbAlert low s
  | .standby => Sys2Proof.Machine.execStandby s
  | .wakeEvent k => Sys2Proof.Machine.execWakeEvent k s
  | .wakeTimerExpiry => Sys2Proof.Machine.execWakeTimerExpiry s
  | .powerOnReset => Sys2Proof.Machine.execPowerOnReset s
  | .pinReset => Sys2Proof.Machine.execPinReset s
  | .hostReset grange value => Sys2Proof.Machine.execHostReset grange value s
  | .perst => Sys2Proof.Machine.execPerst s
  | .blockReset src hopper => Sys2Proof.Machine.execBlockReset src hopper s
  | .boot env => Sys2Proof.Machine.execBoot env s
  | .tapInstruction ir => Sys2Proof.Machine.execTapInstruction ir s
  | .tapReset => Sys2Proof.Machine.execTapReset s
  | .linkBlockSend p => Sys2Proof.Machine.execLinkBlockSend p s
  | .idleBeaconSend => Sys2Proof.Machine.execIdleBeaconSend s
  | .pcieLinkDown => Sys2Proof.Machine.execPcieLinkDown s
  | .pcieLinkUp width speed => Sys2Proof.Machine.execPcieLinkUp width speed s
  | .refreshRateChange code => Sys2Proof.Machine.execRefreshRateChange code s

end Sys2Proof.Machine
end

