-- ==== Sys2Proof/Machine/Step.lean ====
section
/-!
DEFINITION. One step: the command at the front of the queue, with the queue's rest; an empty queue idles.
-/

namespace Sys2Proof.Machine

/-- Take the command at the front of the queue and run it. (DESIGN CHOICE, log 1, safe; DESIGN CHOICE, log 3, safe; DESIGN CHOICE, log 4, unsafe) -/
def step (s : State) : Host.Outcome State Fault Refusal :=
  match s.pending with
  | [] => .next s
  | c :: rest => exec c { s with pending := rest }

/-- The state with the command that a word spells at the front of its queue; unchanged where the word spells none. (DESIGN CHOICE, log 1, safe) -/
def State.withFetchWord (s : State) (nbits w : Nat) : State :=
  match decodeTableWord nbits w with
  | some c => { s with pending := c :: s.pending }
  | none => s

end Sys2Proof.Machine
end

