-- ==== Sys2Proof/Safety.lean ====
section
/-!
DEFINITION. What counts as a safe run (no step of it ends in a fault or a refusal), and the terms in which the statements speak of one
command: that it has its effect, which registers it keeps, and what fault messages may touch beside it.
-/

namespace Sys2Proof

open Machine

/-- A step goes on. -/
def goesOn (s : State) : Prop := ∃ t, step s = .next t
/-- A state from which k steps go on. -/
def safeFor : Nat → State → Prop
  | 0, _ => True
  | k + 1, s => ∃ t, step s = .next t ∧ safeFor k t

/-- Command c runs in s: it answers a next state, which is the state u that its own effect leaves, settled (the reactions of the fault
messages that it reported, and the MSI-X messages, R384–R389, R369); and P holds of u. -/
def Runs (c : Instr) (s : State) (P : State → Prop) : Prop := ∃ u, Machine.exec c s = .next (settled s u) ∧ P u

/-- u keeps every register field of s but those listed. -/
def Kept (s u : State) (fs : List Fld) : Prop := ∀ f : Fld, f.key ∉ fs.map Fld.key → u.fld f = s.fld f

/-- A register that a fault message may change: one of the collector's block, or the log's drop counter. -/
def Fld.ofFault (f : Fld) : Bool := decide (f.key / 0x200000 = 0x401A) || decide (f.key = R.GRNG_LOG_DROP.key)

/-- u keeps every register field of s but those listed and those that a fault message may change. -/
def KeptF (s u : State) (fs : List Fld) : Prop := ∀ f : Fld, Fld.ofFault f = false → f.key ∉ fs.map Fld.key → u.fld f = s.fld f

/-- u differs from s at most as fault messages make it differ (R379–R394): registers of the collector and the log's drop counter, the
collector's state, the log buffer, and the free values taken. -/
structure FaultStep (s u : State) : Prop where
  rest : u = { s with regs := u.regs, fcu := u.fcu, grng := u.grng, free := u.free }
  keep : ∀ f : Fld, Fld.ofFault f = false → u.fld f = s.fld f

/-- A Granary word that a port's check passes: its half is ON, no injection waits for the check, and no uncorrectable error is in it (R348, R392). -/
def Machine.State.granGood (s : State) (port a : Nat) : Prop :=
  s.halfState (granHalf a) = 0 ∧ s.injArmed port = false ∧ (s.inSpare a && s.injArmed 5) = false ∧ s.isBad (granAlign a) = false
/-- An LPDDR5 line that the check passes (R365, R392). -/
def Machine.State.ddrGood (s : State) (a : Nat) : Prop := s.injArmed 4 = false ∧ s.isBad (a / 64 * 64) = false

/-- The mailbox, or the datagram on MGMT, holds command `cmd` with a tag and the arguments a, and the Grange takes it (R406). -/
def Machine.State.mbxHas (s : State) (via : Mbx) (cmd tag : Nat) (a : List Nat) : Prop :=
  s.mbxOpen via = true ∧ s.fld R.LCS_STATE_STATE ≠ 4 ∧ tag < 256 ∧ a.length ≤ 63 ∧ arg (s.mbxWords via) 0 = cmd * 0x1000000 + tag * 0x10000 + a.length ∧
  ((s.mbxWords via).drop 1).take a.length = a

/-- Serial port n is in FAULT with a reason, which the FCU hears of; both owed counts are 0, and memory, hoppers and other registers are as they were
(R188). -/
def SapFaulted (s : State) (n reason : Nat) (u : State) : Prop :=
  u.sapState n = 3 ∧ u.fld (R.SAP_PORT_STATUS_REASON n) = reason ∧ u.fld (R.SAP_PORT_OWED_TX n) = 0 ∧ u.fld (R.SAP_PORT_OWED_RX n) = 0 ∧
  u.fld (R.SAP_PORT_IRQ_STATUS n) / 2 % 2 = 1 ∧ u.hops = s.hops ∧ u.mem = s.mem ∧
  KeptF s u [R.SAP_PORT_STATUS_STATE n, R.SAP_PORT_STATUS_REASON n, R.SAP_PORT_OWED_TX n, R.SAP_PORT_OWED_RX n, R.SAP_PORT_IRQ_STATUS n] ∧
  ∃ v : State, u = v.fcu' (6 + n) reason 0
/-- Instruction i stands at core n's program counter and issues: the core executes, no register of i is pending, a long operation has a place, and no
unbound window is touched (R64, R66, R70). -/
def Machine.State.iatorReady (s : State) (n : Nat) (i : Iop) : Prop :=
  s.coreRuns n = true ∧ s.fetchIop n = some i ∧ (s.core n).waits i = false ∧ (i.isLong = true → (s.core n).long.length < 2) ∧
  s.touchesUnbound n (s.core n) i (Config.freeNat s.free) (Config.freeNat (s.free + 1)) = false
/-- The words of X (space 0) or Y memory that a move field stores to. -/
def Machine.Move.stores (k : Core) (base fv : Nat) : Move → List (Nat × Nat)
  | .write f p m r => k.touched base (.write f p m r) fv
  | _ => []
/-- Bus addresses of the words that an instruction of core n stores to, three bytes each. -/
def Machine.State.iatorStores (s : State) (n : Nat) (i : Iop) : List Nat :=
  (i.moves.1.stores (s.core n) 0 (Config.freeNat s.free) ++ i.moves.2.stores (s.core n) 4 (Config.freeNat (s.free + 1))).map
    (fun a => if a.1 = 0 then xAddr n a.2 else yAddr n a.2)
/-- What an instruction of core n leaves of the rest (R44): its own core, its state code, the words that its moves store to, and the free values taken
apart, everything stays. -/
structure IatorStep (s : State) (n : Nat) (i : Iop) (u : State) : Prop where
  rest   : u = { s with cores := u.cores, mem := u.mem, regs := u.regs, free := u.free }
  regs   : Kept s u [R.IATC_CORE_STAT_STATE n]
  shown  : u.fld (R.IATC_CORE_STAT_STATE n) = 2
  others : ∀ m, m ≠ n → u.core m = s.core m
  mem    : ∀ a, (∀ w ∈ s.iatorStores n i, a < w ∨ w + 3 ≤ a) → u.byte a = s.byte a
/-- N, Z, V and E of lane l in CSR are those of a result (R51, R85). -/
def Machine.Core.shows (k : Core) (l : Nat) (a : Acc) (v : Bool) : Prop :=
  bitOf k.csr.toNat (4 * l + 3) = a.msb ∧ bitOf k.csr.toNat (4 * l + 2) = decide (a = 0) ∧ bitOf k.csr.toNat (4 * l + 1) = v ∧
  bitOf k.csr.toNat (4 * l) = !fits24 a
/-- A one-cycle instruction without moves outside any loop: the program counter advances, the cycles and the `wait` stall cycles are counted, and of the
rest only the lanes and CSR may differ. -/
def CoreStep (k : Core) (wait : Nat) (u : Core) : Prop :=
  u = { k with
    lane0 := u.lane0, lane1 := u.lane1, csr := u.csr, pc := k.pc + 1, wrote := [], cycles := k.cycles + 1 + wait, stalls := k.stalls + wait, freed := [],
    stalled := false }
/-- The instruction writes accumulator d of both lanes with exact results r, wrapped to 56 bits, with their conditions; every other register of the lanes
and the limit bits stay (R48, R51, R85). -/
def CoreWrites (k : Core) (d : Nat) (r : Nat → Int) (u : Core) : Prop :=
  ∀ l, l < 2 → u.acc l d = BitVec.ofInt 56 (r l) ∧ u.shows l (BitVec.ofInt 56 (r l)) (wraps56 (r l)) ∧ (∀ e, e ≠ d → u.acc l e = k.acc l e) ∧
    (∀ e, u.f l e = k.f l e) ∧ bitOf u.csr.toNat (8 + l) = bitOf k.csr.toNat (8 + l)

end Sys2Proof
end

