-- ==== Sys2Proof/Certificates/Slice0/Obligations.lean ====
section
/-!
DEFINITION. The statements for the provers, one `Obligations.<Name>` each, in the order of OBLIGATIONS.json. `Runs c s P` of Safety says that the command
c answers a next state, and what holds of it before the reactions of fault messages follow; `Kept` and `KeptF` are the frames of the registers.
-/

open Sys2Proof Machine

/-- From R17, R38, R39: setting RUN starts the sequencer on the base then chosen; clearing it makes the current tick the last; at the instant of the
next boundary the sequencer stops. In RETIRED the datapath is held in reset (R409), and a RUN that is set already is no start. It rests on the model's
choices of log 25. -/
def Obligations.SequencerStartsAndStops : Prop :=
  (∀ s : State, s.bit R.TICK_CTRL_RUN = false → s.fld R.LCS_STATE_STATE ≠ 4 →
    Runs .runSet s (fun u => u.fld R.TICK_CTRL_RUN = 1 ∧
      u.tick = { s.tick with starting := true, localBase := s.bit R.TICK_CTRL_TBASE, seedLate := s.seedInTick.1 } ∧
      u.fab.stopAt = none ∧ u.mem = s.mem ∧ u.cores = s.cores ∧ u.img = s.img ∧ u.bind = s.bind ∧ u.hops = s.hops)) ∧
  (∀ s : State, s.bit R.TICK_CTRL_RUN = true ∨ s.fld R.LCS_STATE_STATE = 4 →
    Runs .runSet s (fun u => u = { s with mem14 := u.mem14 })) ∧
  (∀ s : State, s.bit R.TICK_CTRL_RUN = true →
    Runs .runClear s (fun u => u.fld R.TICK_CTRL_RUN = 0 ∧ u.tick.starting = false ∧
      u.tick.stopping = s.bit R.TICK_STATUS_RUNNING ∧ u.tick.num = s.tick.num ∧ u.mem = s.mem ∧ u.cores = s.cores ∧ u.bind = s.bind)) ∧
  (∀ s : State, s.bit R.TICK_CTRL_RUN = false → Runs .runClear s (fun u => u = { s with mem14 := u.mem14 })) ∧
  (∀ (s : State) (dt : Nat), s.tick.stopping = true →
    Runs (.runStop dt) s (fun u => u.fld R.TICK_STATUS_RUNNING = 0 ∧ u.fld R.TICK_STATUS_LOCAL = 0 ∧ u.tick.stopping = false ∧
      u.tick.inWindow = false)) ∧
  (∀ (s : State) (dt : Nat), s.tick.stopping = false → Runs (.runStop dt) s (fun u => u = s))

/-- From R16–R18, R22: a boundary takes the number of its grid instant or the seed when it is the first, else one more than the last unless the fabric
realigns it; it opens the lists of the Binder and a fresh digest. It rests on the model's choices of log 24. -/
def Obligations.BoundaryOpensTheTick : Prop :=
  (∀ (s : State) (env : BoundaryEnv), s.tick.starting = true → s.bit R.TICK_STATUS_RUNNING = false →
    Runs (.firstBoundary env) s (fun u =>
      u = (s.elapse env.dt).firstNumber.2.sequencerOn.boundary (s.elapse env.dt).firstNumber.1 false env ∧
      u.tick.num = (s.elapse env.dt).firstNumber.1 % 2 ^ 64 ∧ u.bit R.TICK_STATUS_RUNNING = true ∧ u.tick.inWindow = false ∧ u.tick.ended = false ∧
      u.bind.gatherAt = 0 ∧ u.bind.scatterAt = 0 ∧ u.bind.bound = [] ∧ u.tick.closed = false ∧ u.tick.crc = 0xFFFFFFFF)) ∧
  (∀ (s : State) (env : BoundaryEnv), s.tick.starting = false ∨ s.bit R.TICK_STATUS_RUNNING = true →
    Runs (.firstBoundary env) s (fun u => u = s)) ∧
  (∀ (s t : State) (env : BoundaryEnv), s.bit R.TICK_STATUS_RUNNING = true → t = (s.elapse env.dt).beaconTurn → t.tick.stopping = false →
    Runs (.tickBoundary env) s (fun u =>
      u = t.tickClose.nextNumber.2.boundary t.tickClose.nextNumber.1 true env ∧
      u.tick.num = t.tickClose.nextNumber.1 % 2 ^ 64 ∧ u.bit R.TICK_STATUS_RUNNING = true ∧ u.tick.inWindow = false ∧ u.tick.ended = false ∧
      u.bind.gatherAt = 0 ∧ u.bind.scatterAt = 0 ∧ u.bind.bound = [] ∧ u.tick.closed = false ∧ u.tick.crc = 0xFFFFFFFF)) ∧
  (∀ (s : State) (env : BoundaryEnv), s.bit R.TICK_STATUS_RUNNING = true → ((s.elapse env.dt).beaconTurn).tick.stopping = true →
    Runs (.tickBoundary env) s (fun u => u.fld R.TICK_STATUS_RUNNING = 0 ∧ u.tick.stopping = false ∧ u.tick.inWindow = false)) ∧
  (∀ (s : State) (env : BoundaryEnv), s.bit R.TICK_STATUS_RUNNING = false → Runs (.tickBoundary env) s (fun u => u = s)) ∧
  (∀ s : State, s.fab.realign = none → s.nextNumber = (s.tick.num + 1, s)) ∧
  (∀ (s : State) (n : Nat), s.fab.realign = some n → s.nextNumber.1 = n ∧ s.nextNumber.2.fab.realign = none) ∧
  (∀ (s : State) (t : Nat), (s.setNumber t).tick.num = t % 2 ^ 64 ∧ (s.setNumber t).tick.inWindow = false ∧
    (t % 2 ^ 64 % Nat.max 1 (s.fld R.TICK_IRQ_DIV) = 0 → (s.setNumber t).fld R.TICK_IRQ_STATUS % 2 = 1)) ∧
  (∀ s : State, s.tick.localBase = true → s.tick.seedLate = false → s.firstNumber.1 = s.reg64 R.TICK_SEED_LO R.TICK_SEED_HI)

/-- From R37: a write of `TICK.IRQ_AT_HI` arms the AT interrupt for the 64-bit number; when a boundary with that number or a later one falls, AT is
pending and the arming is over. A read of `TICK.NUM_LO` answers the low half and latches the high half. -/
def Obligations.TickNumberAndAtInterrupt : Prop :=
  (∀ (s : State) (hi : Word), Runs (.irqAtArm hi) s (fun u => u.fld R.TICK_IRQ_AT_HI = hi.toNat ∧
    u.tick = { s.tick with atArmed := some (s.fld R.TICK_IRQ_AT_LO + hi.toNat * 0x100000000) } ∧
    Kept s u [R.TICK_IRQ_AT_HI] ∧ u = { s with regs := u.regs, tick := u.tick, mem14 := u.mem14 })) ∧
  (∀ (s : State) (t a : Nat), s.tick.atArmed = some a → a ≤ t % 2 ^ 64 →
    (s.setNumber t).tick.atArmed = none ∧ (s.setNumber t).fld R.TICK_IRQ_STATUS / 2 % 2 = 1) ∧
  (∀ (s : State) (t a : Nat), s.tick.atArmed = some a → t % 2 ^ 64 < a → (s.setNumber t).tick.atArmed = some a) ∧
  (∀ s : State, Runs .numLoRead s (fun u => u = { s with tick := { s.tick with hiLatch := s.tick.num / 0x100000000 }, mem14 := u.mem14 } ∧
    u.mem14.respBus = ⟨.ok, s.tick.num % 0x100000000⟩))

/-- From R22, R25, R43, R161: at the usable-window start of a computed tick every core that has a program begins at its entry address with every
register 0, no other core changes, and Marver's list starts at its first command; a tick that is not computed here only opens its window. At the
window end a core whose TEND can complete is done, every other core still at work is stopped, its operations discarded, and its bit, the interrupt and
CYC_LAST say so, and a command list that has not ended stops. It rests on the model's choices of log 26, 71. -/
def Obligations.WindowRunsTheCores : Prop :=
  (∀ s : State, s.bit R.TICK_STATUS_RUNNING = true → s.pair.recording = false → s.tick.inWindow = false →
    Runs .windowStart s (fun u => u.tick = { s.tick with inWindow := true } ∧ u.mem = s.mem ∧ u.hops = s.hops ∧
      (s.marv.cmds = [] → u.marv.pos = none ∧ u.marv.ended = true) ∧
      (s.marv.cmds ≠ [] → u.marv.pos = some 0 ∧ u.marv.ended = false ∧ u.marv.cycles = 0 ∧ u.marv.feeds = [] ∧ u.fld R.MARV_STATUS_BUSY = 1) ∧
      ∀ n, n < 64 → (s.hasProgram n = true → u.core n = { Core.zero with pc := BitVec.ofNat 14 (s.fld (R.IATC_ENTRY n)) } ∧
          u.fld (R.IATC_CORE_STAT_STATE n) = 2) ∧
        (s.hasProgram n = false → u.core n = s.core n ∧ u.fld (R.IATC_CORE_STAT_STATE n) = s.fld (R.IATC_CORE_STAT_STATE n)))) ∧
  (∀ s : State, s.bit R.TICK_STATUS_RUNNING = true → s.pair.recording = true → s.tick.inWindow = false →
    Runs .windowStart s (fun u => u = { s with tick := { s.tick with inWindow := true } })) ∧
  (∀ s : State, s.bit R.TICK_STATUS_RUNNING = false ∨ s.tick.inWindow = true → Runs .windowStart s (fun u => u = s)) ∧
  (∀ (s : State) (spent : Nat), s.tick.inWindow = true → s.tick.ended = false → s.computes = true →
    Runs (.windowEnd spent) s (fun u => u.tick.ended = true ∧ u.tick.num = s.tick.num ∧
      (∀ n, n < 64 → (s.core n).tend = true → (s.core n).done = false → (s.core n).long = [] →
        (u.core n).done = true ∧ u.fld (R.IATC_CORE_STAT_STATE n) = 1) ∧
      (∀ n, n < 64 → s.hasProgram n = true → s.coreBusy n = true → (s.core n).tend = false ∨ (s.core n).done = true ∨ (s.core n).long ≠ [] →
        u.fld (R.IATC_CORE_STAT_STATE n) = 4 ∧ u.fld (R.IATC_CYC_LAST n) = 0x1FFFF ∧ (u.core n).long = [] ∧
        u.fld R.TICK_IRQ_STATUS / 4 % 2 = 1 ∧ bitOf (u.fld (if n < 32 then R.TICK_OVERRUN_LO else R.TICK_OVERRUN_HI)) (n % 32) = true) ∧
      (∀ n, n < 64 → s.coreBusy n = false → (s.core n).tend = false → u.core n = s.core n) ∧
      (s.marv.pos ≠ none → u.marv.pos = none ∧ u.marv.ended = true ∧ u.marv.feeds = [] ∧ u.fld R.MARV_CYC_LAST = 0x1FFFF ∧
        u.fld R.MARV_STATUS_BUSY = 0))) ∧
  (∀ (s : State) (spent : Nat), s.tick.inWindow = true → s.tick.ended = false → s.computes = false →
    Runs (.windowEnd spent) s (fun u => u = { s with tick := { s.tick with ended := true } })) ∧
  (∀ (s : State) (spent : Nat), s.tick.inWindow = true → s.tick.ended = false →
    (∀ n, n < 64 → s.coreBusy n = false ∧ ((s.core n).tend = true → (s.core n).done = true)) → s.marv.pos = none →
    Runs (.windowEnd spent) s (fun u => u = { s with tick := { s.tick with ended := true } })) ∧
  (∀ (s : State) (spent : Nat), s.tick.inWindow = false ∨ s.tick.ended = true → Runs (.windowEnd spent) s (fun u => u = s)) ∧
  (∀ (s : State) (n : Nat), n < 64 → s.hasProgram n = true → s.coreBusy n = true → (s.core n).tend = false →
    (s.coreWindowEnd n).fld (R.IATC_CORE_STAT_STATE n) = 4 ∧ (s.coreWindowEnd n).fld (R.IATC_CYC_LAST n) = 0x1FFFF ∧
    (s.coreWindowEnd n).fld R.TICK_IRQ_STATUS / 4 % 2 = 1 ∧ ((s.coreWindowEnd n).core n).long = [])

/-- From R36, R108: the claim watchdog releases a held claim at once, latches FIRED and interrupts, and does nothing without a claim; the digest
closes once, over what the tick scattered, when the scatter list has been run. -/
def Obligations.ClaimWatchdogAndDigest : Prop :=
  (∀ s : State, s.bit R.PAIR_STATUS_CLAIM_HELD = true →
    Runs .claimWatchdogExpiry s (fun u => u.fld R.TICK_CLAIM_WD_FIRED = 1 ∧ u.pins.claimDrive = false ∧ u.pins.pairOwn = false ∧
      u.fld R.PAIR_STATUS_CLAIM_HELD = 0 ∧ u.fld R.TICK_IRQ_STATUS / 16 % 2 = 1 ∧ u.mem = s.mem ∧ u.cores = s.cores ∧ u.tick = s.tick)) ∧
  (∀ s : State, s.bit R.PAIR_STATUS_CLAIM_HELD = false → Runs .claimWatchdogExpiry s (fun u => u = s)) ∧
  (∀ s : State, s.computes = true → s.tick.closed = false → s.bind.scatter.length ≤ s.bind.scatterAt →
    Runs .digestClose s (fun u => u = { s with tick := { s.tick with closed := true, past :=
      ((s.tick.num, crc32cOut s.tick.crc, decide (s.fld R.PAIR_SETTLE_LEFT = 0)) :: s.tick.past).take 4 } })) ∧
  (∀ s : State, s.computes = false ∨ s.tick.closed = true ∨ s.bind.scatterAt < s.bind.scatter.length →
    Runs .digestClose s (fun u => u = s))

/-- From R128, R69: GATHER runs the next descriptor of the gather list: its blocks go into the windows of its cores, the LAST one binds its sheaves,
and a core that stalls on a sheaf goes on when it is bound; SCATTER runs the next descriptor of the scatter list, waits for a core or a command list
that has not ended, and passes over one that is lost. While a tick is recorded, or with no tick, neither runs. It rests on the model's choices of log
34. -/
def Obligations.BinderRunsItsLists : Prop :=
  (∀ (s : State) (flip : Nat) (d : Desc), s.computes = true → s.bind.gather[s.bind.gatherAt]? = some d →
    Runs (.gather flip) s (fun u => u = (s.sourceBlocks d flip).2.gatherDesc d (s.sourceBlocks d flip).1 ∧
      u.bind.gatherAt = (s.sourceBlocks d flip).2.bind.gatherAt + 1 ∧ u.bit R.BIND_STATUS_BUSY = !u.binderIdle)) ∧
  (∀ (s : State) (flip : Nat), s.computes = false ∨ s.bind.gather[s.bind.gatherAt]? = none → Runs (.gather flip) s (fun u => u = s)) ∧
  (∀ (s : State) (n k : Nat), (s.bindSheaf (n, k)).bind.bound = sheafKey n k :: s.bind.bound ∧
    (s.fld (R.IATC_CORE_STAT_STATE n) = 3 → (s.bindSheaf (n, k)).fld (R.IATC_CORE_STAT_STATE n) = 2) ∧
    (s.fld (R.IATC_CORE_STAT_STATE n) ≠ 3 → s.bindSheaf (n, k) = { s with bind := { s.bind with bound := sheafKey n k :: s.bind.bound } })) ∧
  (∀ (s : State) (flip : Nat) (d : Desc), s.computes = true → s.bind.scatter[s.bind.scatterAt]? = some d →
    s.scatterLost d = false → s.scatterReady d = true →
    Runs (.scatter flip) s (fun u => u.bit R.BIND_STATUS_BUSY = (!u.binderIdle) ∧
      u.bind.scatterAt = ((List.range d.count).foldl (fun st c => st.scatterChan d flip c) s).bind.scatterAt + 1)) ∧
  (∀ (s : State) (flip : Nat) (d : Desc), s.computes = true → s.bind.scatter[s.bind.scatterAt]? = some d → s.scatterLost d = true →
    Runs (.scatter flip) s (fun u => u.bind = { s.bind with scatterAt := s.bind.scatterAt + 1 } ∧
      u = { s with bind := u.bind, regs := u.regs } ∧ Kept s u [R.BIND_STATUS_BUSY])) ∧
  (∀ (s : State) (flip : Nat) (d : Desc), s.computes = true → s.bind.scatter[s.bind.scatterAt]? = some d → s.scatterLost d = false →
    s.scatterReady d = false → Runs (.scatter flip) s (fun u => u = s)) ∧
  (∀ (s : State) (flip : Nat), s.computes = false ∨ s.bind.scatter[s.bind.scatterAt]? = none → Runs (.scatter flip) s (fun u => u = s))

/-- From R135, R137: a position that the background fill or a write passes raises the watermark of its ring; at the ring's end the fill is over and
FILL_DONE is pending. The fill touches nothing where no ring of its memory is filling. It rests on the model's choices of log 35. -/
def Obligations.RingFillRaisesTheWatermark : Prop :=
  (∀ (s : State) (ddr : Bool) (n k : Nat), (s.ringNums.find? (fun n => (s.ring n).fill && decide ((s.ring n).inDdr = ddr))) = some n →
    Runs (.ringFill ddr (k + 1)) s (fun u => u = ((s.ringPut (s.ring n) (s.ring n).z 0).raiseMark n (s.ring n).z).ringFill ddr k ∧
      u.cores = s.cores ∧ u.hops = s.hops ∧ (∀ m, (u.ring m).w = (s.ring m).w ∧ (u.ring m).len = (s.ring m).len ∧ (s.ring m).z ≤ (u.ring m).z))) ∧
  (∀ (s : State) (ddr : Bool) (k : Nat), (s.ringNums.find? (fun n => (s.ring n).fill && decide ((s.ring n).inDdr = ddr))) = none →
    Runs (.ringFill ddr k) s (fun u => u = s)) ∧
  (∀ (s : State) (n p : Nat), (s.ring n).fill = true → (s.ring n).z ≤ p → p + 1 < (s.ring n).len →
    (s.raiseMark n p).ring n = { s.ring n with z := p + 1 }) ∧
  (∀ (s : State) (n p : Nat), (s.ring n).fill = true → (s.ring n).z ≤ p → (s.ring n).len ≤ p + 1 →
    (s.raiseMark n p).ring n = { s.ring n with fill := false, z := (s.ring n).len } ∧
    (s.raiseMark n p).fld R.BIND_IRQ_STATUS / 4 % 2 = 1) ∧
  (∀ (s : State) (n p : Nat), (s.ring n).fill = false ∨ p < (s.ring n).z → s.raiseMark n p = s)

/-- From R131, R132, R146: the shadow tables take entries, lengths and the active tables while an image runs and no commit is armed or copying;
otherwise the refusal code stands in `BIND.RT_STATUS` and the tables keep. A commit is armed for a tick at least two ahead, loses its arming by CANCEL
before boundary n−1, and its check either passes it or drops it with the code, table and entry. R144, R145: on a part with amplifier control EN
follows its writes; HOLD ticks of silence open the loop (HALF), HALF_TICKS more stop the switching (STOPPED), and 12 ticks after a wake the detector
is ACTIVE again, or OFF where EN was cleared. Without amplifier control the detectors do not exist. It rests on the model's choices of log 34, 71. -/
def Obligations.RoutesAndSilence : Prop :=
  (∀ (s : State) (t : Fin 4), s.image.isSome = true → s.rtBusy = false → s.fld R.BIND_RT_INDEX < (s.shadowTable t.val).length →
    Runs (.rtWrite t) s (fun u => u.shadowTable t.val = (s.shadowTable t.val).set (s.fld R.BIND_RT_INDEX)
      ⟨s.fld (R.BIND_RT_DATA 0), s.fld (R.BIND_RT_DATA 1), s.fld (R.BIND_RT_DATA 2), s.fld (R.BIND_RT_DATA 3)⟩ ∧
      u.regs = s.regs ∧ u.mem = s.mem ∧ u = { s with bind := u.bind, mem14 := u.mem14 })) ∧
  (∀ (s : State) (t : Fin 4), s.image.isSome = true → s.rtBusy = false → (s.shadowTable t.val).length ≤ s.fld R.BIND_RT_INDEX →
    Runs (.rtWrite t) s (fun u => u.fld R.BIND_RT_STATUS_CODE = 0x46 ∧ u.bind = s.bind)) ∧
  (∀ (s : State) (t : Fin 4), s.image.isSome = true → s.rtBusy = false → s.fld R.BIND_RT_INDEX ≤ tableLimit t.val →
    Runs (.rtSetlen t) s (fun u => (u.shadowTable t.val).length = s.fld R.BIND_RT_INDEX ∧
      (∀ i, i < s.fld R.BIND_RT_INDEX → (u.shadowTable t.val)[i]? =
        some ((s.shadowTable t.val)[i]?.getD ⟨0, 0, 0, 0⟩)) ∧ u.regs = s.regs ∧ u = { s with bind := u.bind, mem14 := u.mem14 })) ∧
  (∀ s : State, s.image.isSome = true → s.rtBusy = false →
    Runs (.rtRevert 0) s (fun u => u = { s with bind := { s.bind with shGather := s.bind.gather }, mem14 := u.mem14 }) ∧
    Runs (.rtRevert 1) s (fun u => u = { s with bind := { s.bind with shScatter := s.bind.scatter }, mem14 := u.mem14 }) ∧
    Runs (.rtRevert 2) s (fun u => u = { s with bind := { s.bind with shLatency := s.bind.latency }, mem14 := u.mem14 }) ∧
    Runs (.rtRevert 3) s (fun u => u = { s with bind := { s.bind with shRings := [] }, mem14 := u.mem14 })) ∧
  (∀ (s : State) (t : Fin 4), s.image.isSome = true → s.rtBusy = true →
    (∀ c ∈ [Instr.rtWrite t, .rtSetlen t, .rtRevert t], Runs c s (fun u => u.fld R.BIND_RT_STATUS_CODE = 0x44 ∧ u.bind = s.bind))) ∧
  (∀ (s : State) (n : Nat), s.bind.rtAt = some n → s.tick.num + 1 < n →
    Runs .rtCancel s (fun u => u.bind = { s.bind with rtAt := none, rtOk := false } ∧ u.fld R.BIND_RT_STATUS_ARMED = 0 ∧
      u.fld R.BIND_RT_STATUS_CODE = 0x23 ∧ Kept s u [R.BIND_RT_STATUS_ARMED, R.BIND_RT_STATUS_CODE])) ∧
  (∀ (s : State) (hi : Word), s.image.isSome = true → s.rtBusy = false →
    s.tick.num + 2 ≤ s.fld R.BIND_RT_AT_LO + hi.toNat * 0x100000000 →
    Runs (.rtAtArm hi) s (fun u => u.bind = { s.bind with rtAt := some (s.fld R.BIND_RT_AT_LO + hi.toNat * 0x100000000), rtOk := false } ∧
      u.fld R.BIND_RT_STATUS_ARMED = 1 ∧ u.fld R.BIND_RT_STATUS_CODE = 1 ∧
      Kept s u [R.BIND_RT_AT_HI, R.BIND_RT_STATUS_ARMED, R.BIND_RT_STATUS_CODE])) ∧
  (∀ (s : State) (hi : Word), s.image.isSome = true → s.rtBusy = false →
    s.fld R.BIND_RT_AT_LO + hi.toNat * 0x100000000 < s.tick.num + 2 →
    Runs (.rtAtArm hi) s (fun u => u.bind = s.bind ∧ u.fld R.BIND_RT_STATUS_CODE = 0x20 ∧ u.fld R.BIND_IRQ_STATUS / 2 % 2 = 1)) ∧
  (∀ (s : State) (n : Nat) (i : Image), s.bind.rtAt = some n → s.image = some i → s.bind.rtOk = false →
    (routeCheck i s.bind.shGather s.bind.shScatter s.bind.shRings = none →
      Runs .routeCheckDone s (fun u => u = { s with bind := { s.bind with rtOk := true } })) ∧
    (∀ code t e, routeCheck i s.bind.shGather s.bind.shScatter s.bind.shRings = some (code, t, e) →
      Runs .routeCheckDone s (fun u => u.bind = { s.bind with rtAt := none, rtOk := false } ∧ u.fld R.BIND_RT_STATUS_ARMED = 0 ∧
        u.fld R.BIND_RT_STATUS_CODE = code % R.BIND_RT_STATUS_CODE.size ∧ u.fld R.BIND_RT_ERR_TABLE = t % R.BIND_RT_ERR_TABLE.size ∧
        u.fld R.BIND_RT_ERR_INDEX = e % R.BIND_RT_ERR_INDEX.size ∧ u.fld R.BIND_IRQ_STATUS / 2 % 2 = 1))) ∧
  (∀ s : State, s.bit R.BIND_RT_STATUS_SYNCING = true →
    Runs .shadowSyncDone s (fun u =>
      u.bind = { s.bind with shGather := s.bind.gather, shScatter := s.bind.scatter, shLatency := s.bind.latency, shRings := [] } ∧
      u.fld R.BIND_RT_STATUS_SYNCING = 0 ∧ Kept s u [R.BIND_RT_STATUS_SYNCING])) ∧
  (∀ s : State, s.bit R.BIND_RT_STATUS_SYNCING = false → Runs .shadowSyncDone s (fun u => u = s)) ∧
  (∀ (s : State) (n : Fin 32), s.part = .ai →
    Runs (.silEnSet n) s (fun u => u.fld (R.BIND_SIL_CTRL_EN n.val) = 1 ∧ Kept s u [R.BIND_SIL_CTRL_EN n.val] ∧
      u = { s with regs := u.regs, mem14 := u.mem14 }) ∧
    Runs (.silEnClear n) s (fun u => u.fld (R.BIND_SIL_CTRL_EN n.val) = 0 ∧ Kept s u [R.BIND_SIL_CTRL_EN n.val] ∧
      u = { s with regs := u.regs, mem14 := u.mem14 })) ∧
  (∀ (s : State) (n : Fin 32), s.part ≠ .ai →
    Runs (.silEnSet n) s (fun u => u = { s with mem14 := u.mem14 }) ∧ Runs (.silEnClear n) s (fun u => u = { s with mem14 := u.mem14 }) ∧
    Runs (.holdExpiry n) s (fun u => u = s) ∧ Runs (.halfTicksExpiry n) s (fun u => u = s) ∧ Runs (.wakingComplete n) s (fun u => u = s)) ∧
  (∀ (s : State) (n : Fin 32), s.part = .ai → s.bit (R.BIND_SIL_CTRL_EN n.val) = true → s.silState n.val = 1 →
    s.fld (R.BIND_SIL_TIME_HOLD n.val) ≤ (s.silOf n.val).silent → s.ampState n.val ≠ 2 →
    Runs (.holdExpiry n) s (fun u => u.silState n.val = 2 ∧ (u.silOf n.val).half = 0 ∧ u.fld R.BIND_IRQ_STATUS / 16 % 2 = 1 ∧
      Kept s u [R.BIND_SIL_STATE n.val, R.BIND_IRQ_STATUS] ∧ u = { s with regs := u.regs, sil := u.sil })) ∧
  (∀ (s : State) (n : Fin 32), s.part = .ai → s.silState n.val = 2 → (s.silOf n.val).pend = 0 →
    s.fld (R.BIND_SIL_TIME_HALF_TICKS n.val) ≤ (s.silOf n.val).half → s.ampState n.val ≠ 3 →
    Runs (.halfTicksExpiry n) s (fun u => u.silState n.val = 3 ∧ u.fld R.BIND_IRQ_STATUS / 16 % 2 = 1 ∧
      Kept s u [R.BIND_SIL_STATE n.val, R.BIND_IRQ_STATUS] ∧ u = { s with regs := u.regs })) ∧
  (∀ (s : State) (n : Fin 32), s.part = .ai → s.silState n.val = 2 → (s.silOf n.val).pend = 0 →
    s.fld (R.BIND_SIL_TIME_HALF_TICKS n.val) ≤ (s.silOf n.val).half → s.ampState n.val = 3 →
    Runs (.halfTicksExpiry n) s (fun u => u.silState n.val = 3 ∧ u.ampState n.val = 4 ∧ u.sil = s.sil)) ∧
  (∀ (s : State) (n : Fin 32), s.part = .ai → s.silState n.val = 4 → 12 ≤ (s.silOf n.val).waking → s.ampState n.val = 2 →
    Runs (.wakingComplete n) s (fun u => u.silState n.val = (if (s.silOf n.val).ending then 0 else 1) ∧
      u.silOf n.val = { s.silOf n.val with silent := 0, waking := 0, ending := false } ∧ u.fld R.BIND_IRQ_STATUS / 16 % 2 = 1 ∧
      Kept s u [R.BIND_SIL_STATE n.val, R.BIND_IRQ_STATUS] ∧ u = { s with regs := u.regs, sil := u.sil })) ∧
  (∀ (s : State) (n : Fin 32), s.part = .ai → s.silState n.val = 1 → s.ampState n.val = 2 → s.bit (R.BIND_SIL_CTRL_EN n.val) = true →
    s.fld (R.BIND_SIL_TIME_HOLD n.val) ≤ (s.silOf n.val).silent →
    Runs (.holdExpiry n) s (fun u => u.silState n.val = 2 ∧ u.ampState n.val = 3))

/-- From R138, R139: setting REC starts record indices at 0, clearing it changes REC alone; one record per tick raises WIDX by one and spends the
marks asked for; a buffered record that is written late is reported. Without recording, channels, or a second time in a tick, no record is made. It
rests on the model's choices of log 36. -/
def Obligations.SiloRecords : Prop :=
  (∀ s : State, s.bit R.SILO_CTRL_REC = false →
    Runs .recSet s (fun u => u.fld R.SILO_CTRL_REC = 1 ∧ u.siloWidx = 0 ∧ u.silo = { s.silo with on := true, first := 0 } ∧
      Kept s u [R.SILO_CTRL_REC, R.SILO_WIDX_LO, R.SILO_WIDX_HI] ∧ u = { s with regs := u.regs, silo := u.silo, mem14 := u.mem14 })) ∧
  (∀ s : State, s.bit R.SILO_CTRL_REC = true → Runs .recSet s (fun u => u = { s with mem14 := u.mem14 })) ∧
  (∀ s : State, Runs .recClear s (fun u => u.fld R.SILO_CTRL_REC = 0 ∧ Kept s u [R.SILO_CTRL_REC] ∧
    u = { s with regs := u.regs, mem14 := u.mem14 })) ∧
  (∀ (s : State) (acc : Bool), s.siloOn = true → s.siloNs ≠ 0 → s.silo.wrote = false →
    Runs (.siloRecord acc) s (fun u => u.silo.wrote = true ∧ u.silo.sets = [] ∧ u.siloWidx = (s.rpRead.siloWidx + 1) % 2 ^ 64)) ∧
  (∀ (s : State) (acc : Bool), s.siloOn = false ∨ s.siloNs = 0 ∨ s.silo.wrote = true →
    Runs (.siloRecord acc) s (fun u => u = s)) ∧
  (∀ s : State, s.silo.late ≠ [] → Runs .siloLateWrite s (fun u => u.fld R.SILO_IRQ_STATUS / 16 % 2 = 1 ∧ u.silo = { s.silo with late := s.silo.late.drop 1 } ∧
    u.cores = s.cores ∧ u.img = s.img)) ∧
  (∀ s : State, s.silo.late = [] → Runs .siloLateWrite s (fun u => u = s))

/-- From R140–R142: the Silo's commands. A mark or replay command waits, in order, for the next boundary, or for `SILO.CMD_AT` while TIMED is set, and
nothing else changes before. When they take effect, a start inside the ring runs the replay from its index; outside it is refused with 0x11, while one
runs with 0x12; PAUSE, RESUME and ABORT act only in the states that the rule names; SET asks for the mark and CLEAR takes it away. It rests on the
model's choices of log 36. -/
def Obligations.SiloCommands : Prop :=
  (∀ (s : State) (i : Nat), s.rpLive = false → s.siloOldest ≤ i → i < s.siloWidx → i < 2 ^ 64 →
    (s.rpStart i).rpState = 1 ∧ (s.rpStart i).rpIdx = i ∧ (s.rpStart i).fld R.SILO_RP_STATUS_REASON = 0 ∧
    (s.rpStart i).silo = { s.silo with left := s.fld R.SILO_RP_LEN } ∧ (s.rpStart i).mem = s.mem) ∧
  (∀ (s : State) (i : Nat), s.rpLive = true → s.rpStart i = (s.setFld R.SILO_RP_STATUS_REASON 0x12).setIrq R.SILO_IRQ_STATUS 3) ∧
  (∀ (s : State) (i : Nat), s.rpLive = false → i < s.siloOldest ∨ s.siloWidx ≤ i →
    s.rpStart i = (s.setFld R.SILO_RP_STATUS_REASON 0x11).setIrq R.SILO_IRQ_STATUS 3) ∧
  (∀ s : State, (s.rpState = 1 → (s.siloReplay 3).rpState = 2) ∧ (s.rpState ≠ 1 → s.siloReplay 3 = s) ∧
    (s.rpState = 2 → (s.siloReplay 4).rpState = 1) ∧ (s.rpState ≠ 2 → s.siloReplay 4 = s) ∧
    (s.rpLive = true → (s.siloReplay 5).rpState = 4 ∧ (s.siloReplay 5).fld R.SILO_RP_STATUS_REASON = 3 ∧
      (s.siloReplay 5).fld R.SILO_IRQ_STATUS / 2 % 2 = 1) ∧ (s.rpLive = false → s.siloReplay 5 = s)) ∧
  (∀ (s : State) (m : Fin 4), (s.siloMark (256 + m.val)).silo.sets = m.val :: s.silo.sets.filter (· != m.val) ∧
    (s.siloMark (512 + m.val)).silo.sets = s.silo.sets.filter (· != m.val) ∧ (s.siloMark (256 + m.val)).regs = s.regs) ∧
  (∀ s : State, s.rpState = 1 → s.silo.read = false → s.siloWidx ≤ s.rpIdx →
    Runs .replayRead s (fun u => u.rpState = 3 ∧ u.fld R.SILO_RP_STATUS_REASON = 2 ∧ u.fld R.SILO_IRQ_STATUS / 2 % 2 = 1 ∧
      Kept s u [R.SILO_RP_STATUS_STATE, R.SILO_RP_STATUS_REASON, R.SILO_IRQ_STATUS] ∧ u = { s with regs := u.regs })) ∧
  (∀ s : State, s.rpState = 1 → s.silo.read = false → s.rpIdx < s.siloWidx →
    Runs .replayRead s (fun u => u.silo.read = true ∧ u.rpIdx = (s.rpIdx + 1) % 2 ^ 64 ∧ (s.silo.left = 1 → u.rpState = 3))) ∧
  (∀ s : State, s.rpState ≠ 1 ∨ s.silo.read = true → Runs .replayRead s (fun u => u = s)) ∧
  (∀ (s : State) (w : Option Nat), (w = if s.bit R.SILO_CTRL_TIMED then some (s.reg64 R.SILO_CMD_AT_LO R.SILO_CMD_AT_HI) else none) →
    (∀ m : Fin 4,
      Runs (.markSet m) s (fun u => u = { s with silo := { s.silo with cmds := s.silo.cmds ++ [⟨w, false, 256 + m.val⟩] }, mem14 := u.mem14 }) ∧
      Runs (.markClear m) s (fun u => u = { s with silo := { s.silo with cmds := s.silo.cmds ++ [⟨w, false, 512 + m.val⟩] }, mem14 := u.mem14 }) ∧
      Runs (.startMark m) s (fun u => u = { s with silo := { s.silo with cmds := s.silo.cmds ++ [⟨w, true, 1 + 16 * m.val⟩] }, mem14 := u.mem14 })) ∧
    Runs .startIndex s (fun u => u = { s with silo := { s.silo with cmds := s.silo.cmds ++ [⟨w, true, 2⟩] }, mem14 := u.mem14 }) ∧
    Runs .replayPause s (fun u => u = { s with silo := { s.silo with cmds := s.silo.cmds ++ [⟨w, true, 3⟩] }, mem14 := u.mem14 }) ∧
    Runs .replayResume s (fun u => u = { s with silo := { s.silo with cmds := s.silo.cmds ++ [⟨w, true, 4⟩] }, mem14 := u.mem14 }) ∧
    Runs .replayAbort s (fun u => u = { s with silo := { s.silo with cmds := s.silo.cmds ++ [⟨w, true, 5⟩] }, mem14 := u.mem14 }))

/-- From R109, R122: LOAD of a free slot makes it LOADING from the written address and length; while a load runs, or for a slot that is LOADING,
RUNNING or armed, it is refused with BUSY. The load's end answers OK and leaves the slot's interrupt when every check passes; the first check that
fails is answered with its code, section and offset. It rests on the model's choices of log 30, 31, 71. -/
def Obligations.ImageLoads : Prop :=
  (∀ (s : State) (n : Fin 2), s.img.loading = none → s.slotBusy n.val = false →
    Runs (.imgLoad n) s (fun u => u.slotState n.val = 1 ∧ u.bit R.IMG_STATUS_BUSY = true ∧ u.mem = s.mem ∧ u.cores = s.cores ∧
      u.img.loading = some (n.val, s.fld R.IMG_SRC_LO + s.fld R.IMG_SRC_HI * 0x100000000, s.fld R.IMG_SRC_LEN))) ∧
  (∀ (s : State) (n : Fin 2), s.img.loading.isSome = true ∨ s.slotBusy n.val = true →
    Runs (.imgLoad n) s (fun u => u.fld R.IMG_STATUS_CODE = 0x02 ∧ u.fld R.IMG_IRQ_STATUS / 2 % 2 = 1 ∧ u.img = s.img ∧
      KeptF s u [R.IMG_STATUS_CODE, R.IMG_IRQ_STATUS] ∧ u.mem = s.mem)) ∧
  (∀ (s s1 : State) (slot a len : Nat) (l : List Byte), s.img.loading = some (slot, a, len) → len ≠ 0 →
    ({ s with img := { s.img with loading := none } }.showImgBusy).readShared 2 a len 0 = (some l, s1) →
    (∀ b, formatBad l len (s1.bit R.PAIR_CTRL_EN) = some b ∨
        (formatBad l len (s1.bit R.PAIR_CTRL_EN) = none ∧ ((s1.imgSigned l (imgSects l)).1 = some b ∨
          ((s1.imgSigned l (imgSects l)).1 = none ∧ (s1.imgSigned l (imgSects l)).2.loadBad l (imgSects l) (parseImage l) slot = some b))) →
      Runs .loadComplete s (fun u => u.fld R.IMG_STATUS_CODE = b.code % 256 ∧ u.fld R.IMG_ERR_INFO_SECTION = b.sect % 4096 ∧
        u.fld R.IMG_ERR_INFO_OFFSET = b.off / 16 % 2 ^ 20 ∧ u.fld R.IMG_IRQ_STATUS / 2 % 2 = 1 ∧ u.slotState slot = 0 ∧ u.slotImage slot = none)) ∧
    (formatBad l len (s1.bit R.PAIR_CTRL_EN) = none → (s1.imgSigned l (imgSects l)).1 = none →
      (s1.imgSigned l (imgSects l)).2.loadBad l (imgSects l) (parseImage l) slot = none →
      Runs .loadComplete s (fun u => u.fld R.IMG_STATUS_CODE = 0x01 ∧ u.fld R.IMG_IRQ_STATUS % 2 = 1 ∧ u.slotState slot = 2 ∧
        u.slotImage slot = some (parseImage l)))) ∧
  (∀ (s s1 : State) (slot a len : Nat), s.img.loading = some (slot, a, len) → len ≠ 0 →
    ({ s with img := { s.img with loading := none } }.showImgBusy).readShared 2 a len 0 = (none, s1) →
    Runs .loadComplete s (fun u => u.fld R.IMG_STATUS_CODE = 0x10 ∧ u.slotState slot = 0 ∧ u.fld R.IMG_IRQ_STATUS / 2 % 2 = 1)) ∧
  (∀ (s : State) (slot a : Nat), s.img.loading = some (slot, a, 0) →
    Runs .loadComplete s (fun u => u.fld R.IMG_STATUS_CODE = 0x10 ∧ u.slotState slot = 0 ∧ u.fld R.IMG_IRQ_STATUS / 2 % 2 = 1 ∧
      u.img.loading = none)) ∧
  (∀ s : State, s.img.loading = none → Runs .loadComplete s (fun u => u = s)) ∧
  (∀ s : State, s.readySlot = none → Runs .discard s (fun u => u = { s with mem14 := u.mem14 })) ∧
  (∀ (s : State) (n : Nat), n < 2 → s.readySlot = some n → s.armedTo n = false → s.slotsHeld n = [n] →
    Runs .discard s (fun u => u.slotState n = 0 ∧ u.slotImage n = none ∧ u.img.armed = s.img.armed ∧ u.mem = s.mem)) ∧
  (∀ (s : State) (n : Nat), s.readySlot = some n → s.armedTo n = true → s.img.stage = 0 →
    Runs .discard s (fun u => u.img.armed = none ∧ u.fld R.IMG_STATUS_SWITCH_ARMED = 0 ∧ u.fld R.IMG_STATUS_CODE = 0x23 ∧ u.mem = s.mem)) ∧
  (∀ (s : State) (n : Nat), s.readySlot = some n → s.armedTo n = true → s.img.stage ≠ 0 → Runs .discard s (fun u => u = { s with mem14 := u.mem14 }))

/-- From R114, R121: a switch is armed for a tick at least two ahead, 24 with a rising supply, to the READY slot, and asks for the supply; without a
READY slot or too late it is refused with its code. CANCEL_SWITCH disarms it before boundary T−1 only. It rests on the model's choices of log 31, 71.
-/
def Obligations.ImageSwitchArms : Prop :=
  (∀ (s : State) (hi : Word) (n : Nat), s.readySlot = some n → s.tick.num + 2 ≤ s.fld R.IMG_SWITCH_AT_LO + hi.toNat * 0x100000000 →
    (s.fld R.IMG_OP_NEXT ≤ s.fld R.IMG_OP_CUR ∨ s.tick.num + 24 ≤ s.fld R.IMG_SWITCH_AT_LO + hi.toNat * 0x100000000) →
    Runs (.switchArm hi) s (fun u => u.img.armed = some (n, s.fld R.IMG_SWITCH_AT_LO + hi.toNat * 0x100000000) ∧ u.img.stage = 0 ∧
      u.img.supply = decide (s.fld R.IMG_OP_NEXT ≤ s.fld R.IMG_OP_CUR) ∧ u.fld R.IMG_STATUS_SWITCH_ARMED = 1 ∧
      (s.fld R.IMG_OP_CUR < s.fld R.IMG_OP_NEXT → u.pwr.vout = some (opSupply (s.fld R.IMG_OP_NEXT), true)) ∧
      Kept s u [R.IMG_SWITCH_AT_HI, R.IMG_STATUS_SWITCH_ARMED, R.IMG_STATUS_ARMED_BY_FAB] ∧ u.mem = s.mem)) ∧
  (∀ (s : State) (hi : Word) (n : Nat), s.readySlot = some n → s.fld R.IMG_OP_CUR < s.fld R.IMG_OP_NEXT →
    s.tick.num + 2 ≤ s.fld R.IMG_SWITCH_AT_LO + hi.toNat * 0x100000000 → s.fld R.IMG_SWITCH_AT_LO + hi.toNat * 0x100000000 < s.tick.num + 24 →
    Runs (.switchArm hi) s (fun u => u.fld R.IMG_STATUS_CODE = 0x20 ∧ u.img = s.img ∧ u.fld R.IMG_IRQ_STATUS / 2 % 2 = 1)) ∧
  (∀ (s : State) (hi : Word), s.fld R.IMG_SWITCH_AT_LO + hi.toNat * 0x100000000 < s.tick.num + 2 →
    Runs (.switchArm hi) s (fun u => u.fld R.IMG_STATUS_CODE = 0x20 ∧ u.img = s.img ∧ u.fld R.IMG_IRQ_STATUS / 2 % 2 = 1)) ∧
  (∀ (s : State) (hi : Word), s.readySlot = none → s.tick.num + 2 ≤ s.fld R.IMG_SWITCH_AT_LO + hi.toNat * 0x100000000 →
    Runs (.switchArm hi) s (fun u => u.fld R.IMG_STATUS_CODE = 0x21 ∧ u.img = s.img ∧ u.fld R.IMG_IRQ_STATUS / 2 % 2 = 1)) ∧
  (∀ s : State, s.img.armed.isSome = true → s.img.stage = 0 →
    Runs .cancelSwitch s (fun u => u.img = { s.img with armed := none, stage := 0 } ∧ u.fld R.IMG_STATUS_CODE = 0x23 ∧
      u.fld R.IMG_STATUS_SWITCH_ARMED = 0 ∧ Kept s u [R.IMG_STATUS_SWITCH_ARMED, R.IMG_STATUS_ARMED_BY_FAB, R.IMG_STATUS_CODE])) ∧
  (∀ s : State, s.img.armed = none ∨ s.img.stage ≠ 0 → Runs .cancelSwitch s (fun u => u = { s with mem14 := u.mem14 }))

/-- From R118–R120: a patch is armed while none is, its check refuses a buffer that cannot be read with 0x30, and CANCEL_PATCH ends it with 0x23. It
rests on the model's choices of log 32, 71. -/
def Obligations.PatchesArm : Prop :=
  (∀ (s : State) (hi : Word), s.img.patch = none →
    Runs (.patchArm hi) s (fun u => u.img = { s.img with patch := some (s.fld R.IMG_PATCH_AT_LO + hi.toNat * 0x100000000), checked := false, stepping := false } ∧
      u.fld R.IMG_PATCH_STATUS = 1 ∧ u.fld R.IMG_STATUS_BUSY = 1 ∧ Kept s u [R.IMG_PATCH_AT_HI, R.IMG_PATCH_STATUS, R.IMG_STATUS_BUSY] ∧
      u = { s with regs := u.regs, img := u.img, mem14 := u.mem14 })) ∧
  (∀ (s : State) (hi : Word), s.img.patch.isSome = true →
    Runs (.patchArm hi) s (fun u => u.img = s.img ∧ u.fld R.IMG_PATCH_STATUS = 0x33 ∧ u.fld R.IMG_IRQ_STATUS / 2 % 2 = 1)) ∧
  (∀ s : State, s.img.patch.isSome = true →
    Runs .cancelPatch s (fun u => u.img = { s.img with patch := none, checked := false, stepping := false } ∧ u.fld R.IMG_PATCH_STATUS = 0x23 ∧
      Kept s u [R.IMG_PATCH_STATUS, R.IMG_STATUS_BUSY] ∧ u.mem = s.mem)) ∧
  (∀ s : State, s.img.patch = none → Runs .cancelPatch s (fun u => u = { s with mem14 := u.mem14 })) ∧
  (∀ s : State, s.img.patch.isSome = true → s.img.checked = false → (∀ i, s.image = some i → i.patchSize = 0) →
    Runs .patchCheckDone s (fun u => u.img = { s.img with patch := none, checked := false, stepping := false } ∧ u.fld R.IMG_PATCH_STATUS = 0x30 ∧
      u.fld R.IMG_IRQ_STATUS / 2 % 2 = 1 ∧ u.fld R.IMG_IRQ_STATUS / 16 % 2 = 1)) ∧
  (∀ s : State, s.img.patch = none ∨ s.img.checked = true → Runs .patchCheckDone s (fun u => u = s)) ∧
  (∀ (s s1 : State) (n : Nat) (i : Image), s.img.patch = some n → s.img.checked = false → s.image = some i → i.patchSize ≠ 0 →
    (s.readShared 2 (granBase + i.patchBase) i.patchSize 0 = (none, s1) →
      Runs .patchCheckDone s (fun u => u.img.patch = none ∧ u.fld R.IMG_PATCH_STATUS = 0x30 ∧ u.fld R.IMG_IRQ_STATUS / 2 % 2 = 1)) ∧
    (∀ l : List Byte, s.readShared 2 (granBase + i.patchBase) i.patchSize 0 = (some l, s1) →
      (patchScan l (l.length / 4 + 1) 0 = none →
        Runs .patchCheckDone s (fun u => u.img.patch = none ∧ u.fld R.IMG_PATCH_STATUS = 0x30 ∧ u.fld R.IMG_IRQ_STATUS / 2 % 2 = 1)) ∧
      (∀ rs : List PatchRec, patchScan l (l.length / 4 + 1) 0 = some rs →
        (rs.all s1.patchInHalf = false →
          Runs .patchCheckDone s (fun u => u.img.patch = none ∧ u.fld R.IMG_PATCH_STATUS = 0x30 ∧ u.fld R.IMG_IRQ_STATUS / 2 % 2 = 1)) ∧
        (rs.all s1.patchInHalf = true → rs.all (fun r => decide (patchWords rs (fun q => q.core == r.core && q.sheaf == r.sheaf) ≤ 4096)) = false →
          Runs .patchCheckDone s (fun u => u.img.patch = none ∧ u.fld R.IMG_PATCH_STATUS = 0x31 ∧ u.fld R.IMG_IRQ_STATUS / 2 % 2 = 1)) ∧
        (rs.all s1.patchInHalf = true → rs.all (fun r => decide (patchWords rs (fun q => q.core == r.core && q.sheaf == r.sheaf) ≤ 4096)) = true →
          (n ≤ s1.tick.num + 1 →
            Runs .patchCheckDone s (fun u => u.img.patch = none ∧ u.fld R.IMG_PATCH_STATUS = 0x20 ∧ u.fld R.IMG_IRQ_STATUS / 2 % 2 = 1)) ∧
          (s1.tick.num + 1 < n → Runs .patchCheckDone s (fun u => u.img = { s1.img with checked := true } ∧
            u.fld R.IMG_STATUS_BUSY = (if s1.img.loading.isSome then 1 else 0)))))))

/-- From R156, R161: LOAD, CLEAR, SUM and EMIT take the next command of the list when it is theirs, and the position and the cycles advance; LOAD
opens its sources, CLEAR zeroes accumulators and partial sums of the lanes of its running tiles and no others, SUM adds each partial sum, shifted,
into its accumulator and zeroes it, EMIT rounds each accumulator into its driver's feed. A command that is not the next one has no effect. It rests on
the model's choices of log 39. -/
def Obligations.MarverListCommands : Prop :=
  (∀ (s : State) (c : MCmd), s.marvNext 1 = some c →
    Runs .marvLoad s (fun u => u = { s with marv := { s.marv with opened := some (c.s0, c.count), pos := s.marv.pos.map (· + 1),
                                                                  cycles := s.marv.cycles + 16 + c.count } })) ∧
  (∀ (s : State) (c : MCmd), s.marvNext 2 = some c →
    Runs .marvClear s (fun u => u = { s with marv := u.marv } ∧ u.marv.pos = s.marv.pos.map (· + 1) ∧ u.marv.cycles = s.marv.cycles + 4 ∧
      ∀ d n, n < 16 → (d ∈ s.driversOf c.tiles → FMap.get 0 u.marv.acc (d * 16 + n) = 0 ∧ FMap.get 0 u.marv.part (d * 16 + n) = 0) ∧
        (d ∉ s.driversOf c.tiles → FMap.get 0 u.marv.acc (d * 16 + n) = FMap.get 0 s.marv.acc (d * 16 + n) ∧
          FMap.get 0 u.marv.part (d * 16 + n) = FMap.get 0 s.marv.part (d * 16 + n)))) ∧
  (∀ (s : State) (c : MCmd), s.marvNext 4 = some c →
    Runs .sumPartial s (fun u => u = { s with marv := u.marv } ∧ u.marv.pos = s.marv.pos.map (· + 1) ∧
      ∀ d n, d ∈ s.driversOf c.tiles → n < s.nsmp →
        FMap.get 0 u.marv.acc (d * 16 + n) =
          wrap56 ((FMap.get 0 s.marv.acc (d * 16 + n)).toInt + (FMap.get 0 s.marv.part (d * 16 + n)).toInt / 2 ^ bits c.w1 3 0) ∧
        FMap.get 0 u.marv.part (d * 16 + n) = 0)) ∧
  (∀ (s : State) (c : MCmd), s.marvNext 5 = some c →
    Runs .emit s (fun u => u.marv.acc = s.marv.acc ∧ u.marv.part = s.marv.part ∧ u.marv.pos = s.marv.pos.map (· + 1) ∧ u.mem = s.mem ∧
      (∀ d, d ∈ s.driversOf c.tiles → FMap.get [] u.marv.feeds d =
        (List.range s.nsmp).map (fun n => (moveRnd (FMap.get 0 s.marv.acc (d * 16 + n))).1)) ∧
      (∀ d, d ∉ s.driversOf c.tiles → FMap.get [] u.marv.feeds d = FMap.get [] s.marv.feeds d))) ∧
  (∀ s : State, (s.marvNext 1 = none → Runs .marvLoad s (fun u => u = s)) ∧ (s.marvNext 2 = none → Runs .marvClear s (fun u => u = s)) ∧
    (s.marvNext 4 = none → Runs .sumPartial s (fun u => u = s)) ∧ (s.marvNext 5 = none → Runs .emit s (fun u => u = s)) ∧
    (s.marvNext 0 = none → Runs .endList s (fun u => u = s)) ∧ (∀ e, s.marvNext 3 = none → Runs (.sweep e) s (fun u => u = s)))

/-- From R161, R167: END ends the list, records its cycles and reports more than declared; a SWEEP whose reads are sound, or corrected, completes; an
uncorrectable row of the history ends the list with every feed of the tick gone, an uncorrectable row of a tile ends that tile's. It rests on the
model's choices of log 39. -/
def Obligations.MarverSweepsAndEnds : Prop :=
  (∀ (s : State) (c : MCmd), s.marvNext 0 = some c →
    Runs .endList s (fun u => u.marv.pos = none ∧ u.marv.ended = true ∧ u.marv.feeds = s.marv.feeds ∧ u.mem = s.mem ∧
      u.fld R.MARV_STATUS_BUSY = 0 ∧ u.fld R.MARV_CYC_LAST = (s.marv.cycles + 1) % R.MARV_CYC_LAST.size ∧
      (s.fld R.MARV_DECL < s.marv.cycles + 1 → u.fld R.MARV_IRQ_STATUS / 32 % 2 = 1))) ∧
  (∀ (s : State) (c : MCmd), s.marvNext 3 = some c → s.injArmed 2 = false → s.injArmed 3 = false → s.mem14.bad = [] →
    Runs (.sweep []) s (fun u => ∃ v : State, v = s.sweepAll c (fun _ => s.cmdCost c - 8) ∧
      u = { v with marv := { v.marv with swept := s.marv.swept || decide (8 < s.cmdCost c), pos := s.marv.pos.map (· + 1),
                                         cycles := s.marv.cycles + s.cmdCost c } }) ∧
    (∀ a, Runs (.sweep [.corrected a]) s (fun u => u.fld R.MARV_IRQ_STATUS / 16 % 2 = 1 ∧ u.marv.pos = s.marv.pos.map (· + 1))) ∧
    (∀ cy a, cy < s.cmdCost c → Runs (.sweep [.history cy a]) s (fun u => u.marv.pos = none ∧ u.marv.ended = true ∧ u.marv.feeds = [] ∧
      u.fld R.MARV_CYC_LAST = 0x1FFFF ∧ u.fld R.MARV_STATUS_BUSY = 0 ∧ u.fld R.MARV_IRQ_STATUS / 16 % 2 = 1 ∧ u.isBad (marvRow a) = true)) ∧
    (∀ t cy a, t ∈ s.tilesOf c.tiles → cy < s.cmdCost c → Runs (.sweep [.tile t cy a]) s (fun u =>
      (∀ d, d / 16 = t → FMap.get [] u.marv.feeds d = []) ∧ bitOf u.marv.stopped t = true ∧ u.marv.pos = s.marv.pos.map (· + 1) ∧
      u.fld R.MARV_IRQ_STATUS / 16 % 2 = 1 ∧ u.isBad (marvRow a) = true)))

/-- From R162, R163: a group switch is armed two ticks ahead while no other, no copy and no bank synchronisation is under way; the bank copy makes the
idle bank equal to the active one and changes no other byte; COPY is refused while a copy runs or no image does; ABORT and the end of a copy leave
their codes. Marver's domain is on. It rests on the model's choices of log 39, 40. -/
def Obligations.MarverSwitchesAndUpdates : Prop :=
  (∀ (s : State) (hi : Word), s.domOn 6 = true → s.marv.gsw = none → s.marv.upd = none → s.bit R.MARV_STATUS_SYNCING = false →
    s.tick.num + 2 ≤ s.fld R.MARV_GSW_AT_LO + hi.toNat * 0x100000000 →
    Runs (.gswArm hi) s (fun u => u.marv = { s.marv with gsw := some (s.fld R.MARV_GSW_AT_LO + hi.toNat * 0x100000000, s.fld R.MARV_GSW_MASK) } ∧
      u.fld R.MARV_GSW_STATUS = 1 ∧ u.fld R.MARV_STATUS_GSW_ARMED = 1 ∧
      Kept s u [R.MARV_GSW_AT_HI, R.MARV_GSW_STATUS, R.MARV_STATUS_GSW_ARMED])) ∧
  (∀ (s : State) (hi : Word), s.domOn 6 = true → s.marv.gsw.isSome = true ∨ s.marv.upd.isSome = true ∨ s.bit R.MARV_STATUS_SYNCING = true →
    Runs (.gswArm hi) s (fun u => u.marv = s.marv ∧ u.fld R.MARV_GSW_STATUS = 0x54 ∧ u.fld R.MARV_IRQ_STATUS / 4 % 2 = 1)) ∧
  (∀ (s : State) (hi : Word), s.domOn 6 = true → s.marv.gsw = none → s.marv.upd = none → s.bit R.MARV_STATUS_SYNCING = false →
    s.fld R.MARV_GSW_AT_LO + hi.toNat * 0x100000000 < s.tick.num + 2 →
    Runs (.gswArm hi) s (fun u => u.marv = s.marv ∧ u.fld R.MARV_GSW_STATUS = 0x20 ∧ u.fld R.MARV_IRQ_STATUS / 4 % 2 = 1)) ∧
  (∀ s : State, s.bit R.MARV_STATUS_SYNCING = false → Runs .bankSyncDone s (fun u => u = s)) ∧
  (∀ s : State, s.bit R.MARV_STATUS_SYNCING = true → Runs .bankSyncDone s (fun u => u.fld R.MARV_STATUS_SYNCING = 0 ∧
    u = { s with regs := u.regs, mem := u.mem, mem14 := u.mem14 } ∧ Kept s u [R.MARV_STATUS_SYNCING])) ∧
  (∀ (s : State) (g : Nat), (s.syncBank g).bytes (bankAddr g s.marv.slot (1 - s.actBank g)) 0x5800 =
      s.bytes (bankAddr g s.marv.slot (s.actBank g)) 0x5800 ∧
    (∀ a, a < bankAddr g s.marv.slot (1 - s.actBank g) ∨ bankAddr g s.marv.slot (1 - s.actBank g) + 0x5800 ≤ a → (s.syncBank g).byte a = s.byte a)) ∧
  (∀ s : State, s.domOn 6 = true → s.marv.upd.isSome = true ∨ s.bit R.MARV_STATUS_SYNCING = true →
    Runs .updCopy s (fun u => u.fld R.MARV_UPD_STATUS_CODE = 0x50 ∧ u.marv = s.marv ∧ u.mem = s.mem ∧ u.fld R.MARV_IRQ_STATUS / 4 % 2 = 1)) ∧
  (∀ s : State, s.domOn 6 = true → s.marv.upd = none → s.bit R.MARV_STATUS_SYNCING = false → s.img.running = none →
    Runs .updCopy s (fun u => u.fld R.MARV_UPD_STATUS_CODE = 0x51 ∧ u.marv = s.marv ∧ u.mem = s.mem ∧ u.fld R.MARV_IRQ_STATUS / 4 % 2 = 1)) ∧
  (∀ (s s1 : State) (l : List Byte) (os : List Nat), s.domOn 6 = true → s.marv.upd = none → s.bit R.MARV_STATUS_SYNCING = false →
    s.img.running.isSome = true →
    s.readShared 7 (s.reg64 R.MARV_UPD_SRC_LO R.MARV_UPD_SRC_HI) (s.fld R.MARV_UPD_LEN) 0 = (some l, s1) →
    updScan l (s.fld R.MARV_UPD_LEN / 4 + 1) 0 = some os → s.marv.gsw = none →
    Runs .updCopy s (fun u => u.marv.upd = some (s.reg64 R.MARV_UPD_SRC_LO R.MARV_UPD_SRC_HI, s.fld R.MARV_UPD_LEN, 0) ∧
      u.fld R.MARV_UPD_STATUS_CODE = 1 ∧ u.fld R.MARV_STATUS_COPYING = 1 ∧ u.fld R.MARV_UPD_DONE = 0)) ∧
  (∀ (s s1 : State), s.domOn 6 = true → s.marv.upd = none → s.bit R.MARV_STATUS_SYNCING = false → s.img.running.isSome = true →
    (s.readShared 7 (s.reg64 R.MARV_UPD_SRC_LO R.MARV_UPD_SRC_HI) (s.fld R.MARV_UPD_LEN) 0 = (none, s1) ∨
      ∃ l, s.readShared 7 (s.reg64 R.MARV_UPD_SRC_LO R.MARV_UPD_SRC_HI) (s.fld R.MARV_UPD_LEN) 0 = (some l, s1) ∧
        updScan l (s.fld R.MARV_UPD_LEN / 4 + 1) 0 = none) →
    Runs .updCopy s (fun u => u.fld R.MARV_UPD_STATUS_CODE = 0x51 ∧ u.marv = s.marv ∧ u.fld R.MARV_IRQ_STATUS / 4 % 2 = 1)) ∧
  (∀ s : State, s.marv.upd.isSome = true → Runs .updCopyDone s (fun u => u.marv.upd = none ∧ u.fld R.MARV_UPD_STATUS_CODE = 2 ∧
    u.fld R.MARV_STATUS_COPYING = 0 ∧ u.fld R.MARV_IRQ_STATUS % 2 = 1)) ∧
  (∀ s : State, s.marv.upd = none → Runs .updCopyDone s (fun u => u = s)) ∧
  (∀ (s : State) (n : Nat), s.domOn 6 = true → s.marv.upd.isSome = true → Runs (.updAbort n) s (fun u => u.marv.upd = none ∧
    u.fld R.MARV_UPD_STATUS_CODE = 0x53 ∧ u.fld R.MARV_STATUS_COPYING = 0 ∧ u.fld R.MARV_IRQ_STATUS / 4 % 2 = 1)) ∧
  (∀ (s : State) (n : Nat), s.domOn 6 = true → s.marv.upd = none → Runs (.updAbort n) s (fun u => u = { s with mem14 := u.mem14 }))

/-- From R182, R183: ARM moves a STOPPED or FAULT port to ARMED, with REASON 0, to start at the second boundary or with its group; a refused ARM
leaves the port in its state with the reason; STOP of an ARMED or RUNNING port waits for the next boundary. In other states neither changes anything.
The ports' domain is on. It rests on the model's choices of log 41. -/
def Obligations.PortsArmAndStop : Prop :=
  (∀ (s : State) (n : Fin 16), s.domOn 10 = true → s.sapState n.val = 0 ∨ s.sapState n.val = 3 → s.sapArmCheck n.val = 0 →
    Runs (.sapArm n) s (fun u => u.sapState n.val = 1 ∧ u.fld (R.SAP_PORT_STATUS_REASON n.val) = 0 ∧
      (u.sapPort n.val).startIn = (if s.bit (R.SAP_PORT_CFG_GRP_EN n.val) then 0 else 2) ∧ (u.sapPort n.val).stopNext = false ∧
      (∀ m, m ≠ n.val → u.sapPort m = s.sapPort m) ∧ u.hops = s.hops ∧ u.mem = s.mem ∧
      Kept s u [R.SAP_PORT_STATUS_STATE n.val, R.SAP_PORT_STATUS_REASON n.val])) ∧
  (∀ (s : State) (n : Fin 16), s.domOn 10 = true → s.sapState n.val = 0 ∨ s.sapState n.val = 3 → s.sapArmCheck n.val ≠ 0 →
    Runs (.sapArm n) s (fun u => u.fld (R.SAP_PORT_STATUS_REASON n.val) = s.sapArmCheck n.val ∧
      u.fld (R.SAP_PORT_IRQ_STATUS n.val) / 2 % 2 = 1 ∧ Kept s u [R.SAP_PORT_STATUS_REASON n.val, R.SAP_PORT_IRQ_STATUS n.val] ∧
      u = { s with regs := u.regs, mem14 := u.mem14 })) ∧
  (∀ (s : State) (n : Fin 16), s.domOn 10 = true → s.sapState n.val = 1 ∨ s.sapState n.val = 2 →
    Runs (.sapArm n) s (fun u => u = { s with mem14 := u.mem14 }) ∧
    Runs (.sapStop n) s (fun u => u = { s with sap := u.sap, mem14 := u.mem14 } ∧
      u.sapPort n.val = { s.sapPort n.val with stopNext := true } ∧ ∀ m, m ≠ n.val → u.sapPort m = s.sapPort m)) ∧
  (∀ (s : State) (n : Fin 16), s.domOn 10 = true → s.sapState n.val ≠ 1 → s.sapState n.val ≠ 2 →
    Runs (.sapStop n) s (fun u => u = { s with mem14 := u.mem14 }))

/-- From R185: a tick start at least two ticks ahead arms every group of the mask, and a later one changes no arm and shows LATE; a pin start arms the
groups of PIN_CTRL, and the first edge of the selected direction consumes it. -/
def Obligations.GroupsArmTheirStarts : Prop :=
  (∀ (s : State) (hi : Word), s.domOn 10 = true → s.tick.num + 2 ≤ s.fld R.SAP_START_AT_LO + hi.toNat * 0x100000000 →
    Runs (.startAtArm hi) s (fun u => (∀ g, g < 8 → bitOf (s.fld R.SAP_START_GRP) g = true → u.grpState g = 1 ∧
        FMap.get 0 u.sap.tickArm g = s.fld R.SAP_START_AT_LO + hi.toNat * 0x100000000 + 1) ∧
      (∀ g, g < 8 → bitOf (s.fld R.SAP_START_GRP) g = false → u.grpState g = s.grpState g ∧
        FMap.get 0 u.sap.tickArm g = FMap.get 0 s.sap.tickArm g) ∧ Kept s u [R.SAP_START_AT_HI, R.SAP_GRP_STATE])) ∧
  (∀ (s : State) (hi : Word), s.domOn 10 = true → s.fld R.SAP_START_AT_LO + hi.toNat * 0x100000000 < s.tick.num + 2 →
    Runs (.startAtArm hi) s (fun u => u.fld R.SAP_IRQ_STATUS_START_LATE = 1 ∧ u.sap = s.sap ∧
      (∀ g, g < 8 → u.grpState g = if bitOf (s.fld R.SAP_START_GRP) g && !s.grpHolds g then 4 else s.grpState g) ∧
      Kept s u [R.SAP_START_AT_HI, R.SAP_GRP_STATE, R.SAP_IRQ_STATUS_START_LATE])) ∧
  (∀ (s : State) (v : Word), s.domOn 10 = true →
    Runs (.pinStartArm v) s (fun u => u.fld R.SAP_PIN_CTRL_GRP = bits v.toNat 15 8 ∧ u.fld R.SAP_PIN_CTRL_POL = bits v.toNat 1 1 ∧
      u.fld R.SAP_PIN_CTRL_ARM = bits v.toNat 0 0 ∧
      (bitOf v.toNat 0 = true → ∀ g, g < 8 → bitOf (bits v.toNat 15 8) g = true → u.grpState g = 2) ∧
      Kept s u [R.SAP_PIN_CTRL_GRP, R.SAP_PIN_CTRL_POL, R.SAP_PIN_CTRL_ARM, R.SAP_GRP_STATE] ∧ u = { s with regs := u.regs, mem14 := u.mem14 })) ∧
  (∀ (s : State) (falling near : Bool), s.bit R.SAP_PIN_CTRL_ARM = true → s.bit R.SAP_PIN_CTRL_POL = falling →
    Runs (.sapStartEdge falling near) s (fun u => u.fld R.SAP_PIN_CTRL_ARM = 0 ∧ Kept s u [R.SAP_PIN_CTRL_ARM] ∧
      u.sap = (if near then { s.sap with pinNext := s.sap.pinNext ||| s.fld R.SAP_PIN_CTRL_GRP }
               else { s.sap with pinNow := s.sap.pinNow ||| s.fld R.SAP_PIN_CTRL_GRP }))) ∧
  (∀ (s : State) (falling near : Bool), s.bit R.SAP_PIN_CTRL_ARM = false ∨ s.bit R.SAP_PIN_CTRL_POL ≠ falling →
    Runs (.sapStartEdge falling near) s (fun u => u = s))

/-- From R172, R178, R179, R184, R186, R190: a received frame goes into the port's receive hopper, the oldest frame making room where there is none; a
transmitted frame leaves the transmit hopper for the pins, bits 31:8 of each sample in its slot, and an underrun is held, counted and owed. A slave's
frame that begins more than 1 µs before the boundary of its start is not moved. A port that does not run moves nothing. It rests on the model's
choices of log 41. -/
def Obligations.PortsMoveFrames : Prop :=
  (∀ (s : State) (n : Fin 16) (slots : List Word) (start : Int) (bc lag : Nat) (ws : List Nat), s.sapState n.val = 2 →
    (s.sapPort n.val).rxFirst = false ∨ -98 ≤ start →
    ws = packFrame (s.sapRxLayout n.val start).2 ((slotsOf (s.sapRxLayout n.val start).1).map (fun b => (slots[b]?).getD 0)) →
    (ws.length ≤ s.hopRoom (2 * n.val) - lag →
      Runs (.sapReceiveFrame n slots start bc lag) s (fun u => (u.hop (2 * n.val)).entries = (s.hop (2 * n.val)).entries ++ ws ∧
        (∀ h, h ≠ 2 * n.val → u.hop h = s.hop h) ∧ u.fld (R.SAP_PORT_RX_DISC n.val) = s.fld (R.SAP_PORT_RX_DISC n.val) ∧
        (u.sapPort n.val).errRun = 0 ∧ u.sapState n.val = 2 ∧ (s.bit (R.HOP_Q_CFG_MEM (2 * n.val)) = false → u.mem = s.mem))) ∧
    (s.hopRoom (2 * n.val) - lag < ws.length → s.hopEn (2 * n.val) = true → ws.length ≤ (s.hop (2 * n.val)).entries.length →
      (s.hop (2 * n.val)).entries.length ≤ s.fld (R.HOP_Q_CFG_DEPTH (2 * n.val)) → s.fld (R.SAP_PORT_RX_DISC n.val) < 0xFFFFFFFF →
      Runs (.sapReceiveFrame n slots start bc lag) s (fun u => (u.hop (2 * n.val)).entries = (s.hop (2 * n.val)).entries.drop ws.length ++ ws ∧
        (∀ h, h ≠ 2 * n.val → u.hop h = s.hop h) ∧ u.fld (R.SAP_PORT_RX_DISC n.val) = s.fld (R.SAP_PORT_RX_DISC n.val) + 1 ∧
        u.fld (R.SAP_PORT_IRQ_STATUS n.val) / 8 % 2 = 1 ∧ (s.bit (R.HOP_Q_CFG_MEM (2 * n.val)) = false → u.mem = s.mem)))) ∧
  (∀ (s : State) (n : Fin 16) (start : Int) (lag w : Nat) (sel : List Nat), s.sapState n.val = 2 →
    (s.sapPort n.val).txFirst = false ∨ -98 ≤ start →
    sel = slotsOf (s.sapTxLayout n.val start).1 → sel ≠ [] → w = frameWords (s.sapTxLayout n.val start).2 sel.length →
    (s.sapPort n.val).txResync = false → (s.sapPort n.val).txWait = 0 → s.fld (R.SAP_PORT_OWED_TX n.val) = 0 →
    (0 < s.framesIn (2 * n.val + 1) w lag → s.outHeld = false → ∀ ab,
      Runs (.sapTransmitFrame n start lag ab) s (fun u => (u.hop (2 * n.val + 1)).entries = (s.hop (2 * n.val + 1)).entries.drop w ∧
        (∀ h, h ≠ 2 * n.val + 1 → u.hop h = s.hop h) ∧ u.fld (R.SAP_PORT_OWED_TX n.val) = 0 ∧
        (u.sapPort n.val).lineMask = (s.sapTxLayout n.val start).1 ∧
        ∀ i, i < sel.length → FMap.get 0 (u.sapPort n.val).lastTx (sel[i]?.getD 0) =
          ((unpackFrame (s.sapTxLayout n.val start).2 sel.length ((s.hop (2 * n.val + 1)).entries.take w))[i]?).getD 0 &&& 0xFFFFFF00)) ∧
    (s.framesIn (2 * n.val + 1) w lag = 0 → s.fld (R.SAP_PORT_TX_HELD n.val) < 0xFFFFFFFF →
      Runs (.sapTransmitFrame n start lag false) s (fun u => (∀ h, u.hop h = s.hop h) ∧ u.fld (R.SAP_PORT_OWED_TX n.val) = 1 ∧
        u.fld (R.SAP_PORT_TX_HELD n.val) = s.fld (R.SAP_PORT_TX_HELD n.val) + 1 ∧ u.fld (R.SAP_PORT_IRQ_STATUS n.val) / 4 % 2 = 1 ∧
        (u.sapPort n.val).lastTx = (s.sapPort n.val).lastTx))) ∧
  (∀ (s : State) (n : Fin 16) (start : Int) (lag : Nat), s.sapState n.val = 2 → start < -98 →
    ((s.sapPort n.val).rxFirst = true → ∀ slots bc, Runs (.sapReceiveFrame n slots start bc lag) s (fun u => u.hops = s.hops ∧ u.mem = s.mem)) ∧
    ((s.sapPort n.val).txFirst = true → ∀ ab, Runs (.sapTransmitFrame n start lag ab) s (fun u => u.hops = s.hops ∧ u.sap = s.sap))) ∧
  (∀ (s : State) (n : Fin 16), s.sapState n.val ≠ 2 →
    (∀ slots start bc lag, Runs (.sapReceiveFrame n slots start bc lag) s (fun u => u = s)) ∧
    (∀ start lag ab, Runs (.sapTransmitFrame n start lag ab) s (fun u => u = s)))

/-- From R188, R189, R192: on an armed or running slave port a lost or glitching bit clock, and on a running one a second frame error in a row, is a
FAULT with its reason, reported to the FCU, with both owed counts 0; a first frame error is counted and its frame repeats the last samples. On any
other port nothing happens. It rests on the model's choices of log 41. -/
def Obligations.PortFaults : Prop :=
  (∀ (s : State) (n : Fin 16), s.sapState n.val = 1 ∨ s.sapState n.val = 2 → s.bit (R.SAP_PORT_CFG_ROLE n.val) = false →
    Runs (.bclkLoss n) s (SapFaulted s n.val 1) ∧ Runs (.bclkGlitch n) s (SapFaulted s n.val 2)) ∧
  (∀ (s : State) (n : Fin 16) (lag : Nat), s.sapState n.val = 2 → s.bit (R.SAP_PORT_CFG_ROLE n.val) = false →
    (s.sapPort n.val).errRun = 0 → s.fld (R.SAP_PORT_EVT_CNT_FRAME_ERR_CNT n.val) < 0xFFFF →
    Runs (.frameError n lag) s (fun u => u.sapState n.val = 2 ∧ (u.sapPort n.val).errRun = 1 ∧
      u.fld (R.SAP_PORT_EVT_CNT_FRAME_ERR_CNT n.val) = s.fld (R.SAP_PORT_EVT_CNT_FRAME_ERR_CNT n.val) + 1 ∧
      u.hops = (s.putFrame (2 * n.val) (packFrame (s.sapPort n.val).rxPack ((slotsOf (s.fld (R.SAP_PORT_RXMASK n.val))).map
        (fun b => FMap.get 0 (s.sapPort n.val).lastRx b))) lag).2.hops)) ∧
  (∀ (s : State) (n : Fin 16) (lag : Nat), s.sapState n.val = 2 → s.bit (R.SAP_PORT_CFG_ROLE n.val) = false →
    0 < (s.sapPort n.val).errRun →
    Runs (.frameError n lag) s (fun u => u.sapState n.val = 3 ∧ u.fld (R.SAP_PORT_STATUS_REASON n.val) = 3 ∧
      u.fld (R.SAP_PORT_IRQ_STATUS n.val) / 2 % 2 = 1 ∧ ∃ v : State, u = v.fcu' (6 + n.val) 3 0)) ∧
  (∀ (s : State) (n : Fin 16), (s.sapState n.val ≠ 1 ∧ s.sapState n.val ≠ 2) ∨ s.bit (R.SAP_PORT_CFG_ROLE n.val) = true →
    Runs (.bclkLoss n) s (fun u => u = s) ∧ Runs (.bclkGlitch n) s (fun u => u = s)) ∧
  (∀ (s : State) (n : Fin 16) (lag : Nat), s.sapState n.val ≠ 2 ∨ s.bit (R.SAP_PORT_CFG_ROLE n.val) = true →
    Runs (.frameError n lag) s (fun u => u = s))

/-- From R196: a mode write sets the port's MODE and restarts its PCS, with the link down, auto-negotiation undone and training begun in KR mode; a
training failure is shown and reported; the link comes up or goes down with its flags, its interrupt and its fault message. Setting RX_EN is refused
with CFG_ERR while the buffers or the hoppers do not fit (R204), and stops where one hopper would then serve two queues (R223). The ports' domain is
on. It rests on the model's choices of log 69. -/
def Obligations.PortLinks : Prop :=
  (∀ (s : State) (n m : Fin 4), s.domOn 9 = true → Runs (.modeWrite n m) s (fun u => u.fld (R.NET_CTRL_MODE n.val) = m.val ∧
      (s.bit (R.NET_STATUS_LINK n.val) = true → u.fld (R.NET_STATUS_LINK n.val) = 0 ∧ u.fld (R.NET_IRQ_STATUS_LINK n.val) = 1) ∧
      u.fld (R.NET_STATUS_AN_DONE n.val) = 0 ∧ u.fld (R.NET_STATUS_PAUSE_RES n.val) = 0 ∧
      u.fld (R.NET_STATUS_TRAINING n.val) = (if m.val = 2 then 1 else 0) ∧ (u.netPort n.val).flight = none ∧
      (u.netPort n.val).advert = s.bit (R.NET_CTRL_PAUSE_RX n.val))) ∧
  (∀ (s : State) (n : Fin 4), s.bit (R.NET_STATUS_TRAINING n.val) = true → Runs (.trainFail n) s (fun u =>
      u.fld (R.NET_STATUS_TRAIN_FAIL n.val) = 1 ∧ u.fld (R.NET_IRQ_STATUS_TRAIN_FAIL n.val) = 1 ∧ u.net = s.net ∧
      KeptF s u [R.NET_STATUS_TRAIN_FAIL n.val, R.NET_IRQ_STATUS_TRAIN_FAIL n.val] ∧ ∃ v : State, u = v.fcu' (22 + n.val) 3 0)) ∧
  (∀ (s : State) (n : Fin 4), s.bit (R.NET_STATUS_TRAINING n.val) = false → Runs (.trainFail n) s (fun u => u = s)) ∧
  (∀ (s : State) (n : Fin 5) (partner eq : Nat), s.bit (R.NET_STATUS_LINK n.val) = false → n.val = 4 ∨ s.fld (R.NET_CTRL_MODE n.val) ≠ 0 →
    s.netAsleep n.val = false →
    Runs (.netLinkUp n partner eq) s (fun u => u.fld (R.NET_STATUS_LINK n.val) = 1 ∧ u.fld (R.NET_IRQ_STATUS_LINK n.val) = 1 ∧
      u.fld (R.NET_STATUS_LOCAL_FAULT n.val) = 0 ∧ u.net = s.net ∧ (∃ v : State, u = v.fcu' (22 + n.val) 2 0) ∧
      (n.val < 4 → s.fld (R.NET_CTRL_MODE n.val) = 2 → u.fld (R.NET_STATUS_TRAINING n.val) = 0 ∧
        u.fld (R.NET_TXEQ_PRE n.val) = bits eq 5 0 ∧ u.fld (R.NET_TXEQ_MAIN n.val) = bits eq 13 8 ∧ u.fld (R.NET_TXEQ_POST n.val) = bits eq 21 16) ∧
      (n.val < 4 → s.fld (R.NET_CTRL_MODE n.val) = 3 → s.bit (R.NET_CTRL_AN_EN n.val) = true → u.fld (R.NET_STATUS_AN_DONE n.val) = 1 ∧
        u.fld (R.NET_STATUS_PAUSE_RES n.val) = pauseRes (s.netPort n.val).advert partner))) ∧
  (∀ (s : State) (n : Fin 5) (partner eq : Nat), s.bit (R.NET_STATUS_LINK n.val) = true ∨ (n.val < 4 ∧ s.fld (R.NET_CTRL_MODE n.val) = 0) ∨
      s.netAsleep n.val = true →
    Runs (.netLinkUp n partner eq) s (fun u => u = s)) ∧
  (∀ (s : State) (n : Fin 5) (lf rf : Bool), s.bit (R.NET_STATUS_LINK n.val) = true → Runs (.netLinkDown n lf rf) s (fun u =>
      u.fld (R.NET_STATUS_LINK n.val) = 0 ∧ u.fld (R.NET_IRQ_STATUS_LINK n.val) = 1 ∧ (u.netPort n.val).flight = none)) ∧
  (∀ (s : State) (n : Fin 5) (lf rf : Bool), s.bit (R.NET_STATUS_LINK n.val) = false → Runs (.netLinkDown n lf rf) s (fun u =>
      Kept s u [R.NET_STATUS_LOCAL_FAULT n.val, R.NET_STATUS_REMOTE_FAULT n.val] ∧ u = { s with regs := u.regs } ∧
      (n.val < 4 → u.bit (R.NET_STATUS_LOCAL_FAULT n.val) = lf ∧ u.bit (R.NET_STATUS_REMOTE_FAULT n.val) = rf))) ∧
  (∀ (s : State) (n : Fin 5) (e : Bool), s.domOn 9 = true →
    s.netUnsafe (R.NET_CTRL_RX_EN n.val).addr (s.regWord (R.NET_CTRL_RX_EN n.val).addr ||| 1) = e →
    (e = true → Machine.exec (.rxEnWrite n) s = .refused (.unpredictable 223)) ∧
    (e = false → s.fld (R.NET_MAX_LEN n.val) ≤ s.fld (R.NET_RX_BUF_LEN n.val) →
      s.fld (R.HOP_Q_CFG_USE (s.fld (R.NET_RXQ_CFG_RX_HOP n.val))) = 2 → s.fld (R.HOP_Q_CFG_USE (s.fld (R.NET_RXQ_CFG_FREE_HOP n.val))) = 2 →
      Runs (.rxEnWrite n) s (fun u => u.fld (R.NET_CTRL_RX_EN n.val) = 1 ∧ Kept s u [R.NET_CTRL_RX_EN n.val])) ∧
    (e = false → s.fld (R.NET_RX_BUF_LEN n.val) < s.fld (R.NET_MAX_LEN n.val) ∨
      s.fld (R.HOP_Q_CFG_USE (s.fld (R.NET_RXQ_CFG_RX_HOP n.val))) ≠ 2 ∨ s.fld (R.HOP_Q_CFG_USE (s.fld (R.NET_RXQ_CFG_FREE_HOP n.val))) ≠ 2 →
      Runs (.rxEnWrite n) s (fun u => u.fld (R.NET_STATUS_CFG_ERR n.val) = 1 ∧ Kept s u [R.NET_STATUS_CFG_ERR n.val])))

/-- From R198–R204, R215, R216, R218: a received frame that is short, damaged or unwanted is counted where Table 8-2 counts it and goes nowhere; an
accepted stream frame goes to the stream engine, an accepted PTP message to the time unit, another one into the host's receive queue, or is counted
where that has no room; a PAUSE frame is counted; a PAUSE runs out; a pattern enable passes the CRC-16 test or shows BAD; an octet counter's LO
latches HI and clears both. It rests on the model's choices of log 42. -/
def Obligations.PortReceive : Prop :=
  (∀ (s t : State) (n : Fin 5) (l : List Byte) (pcs : Bool) (dt : Nat), t = s.elapse dt → t.bit R.PWR_STATUS_STANDBY = false →
    t.bit (R.NET_CTRL_RX_EN n.val) = true → t.bit (R.NET_STATUS_LINK n.val) = true →
    (l.length < 64 → Runs (.receiveFrame n l pcs dt) s (fun u =>
      u.fld (R.NET_RX_RUNT n.val) = Nat.min (t.fld (R.NET_RX_RUNT n.val) + 1) 0xFFFFFFFF ∧
      Kept t u [R.NET_RX_RUNT n.val, R.NET_GCNT n.val 27, R.NET_GCNT_FLAG_LO n.val] ∧ u = { t with regs := u.regs })) ∧
    (64 ≤ l.length → l.length ≤ t.fld (R.NET_MAX_LEN n.val) → pcs = true → Runs (.receiveFrame n l pcs dt) s (fun u =>
      u.fld (R.NET_RX_PCS_ERR n.val) = Nat.min (t.fld (R.NET_RX_PCS_ERR n.val) + 1) 0xFFFFFFFF ∧
      Kept t u [R.NET_RX_PCS_ERR n.val, R.NET_GCNT n.val 28, R.NET_GCNT_FLAG_LO n.val] ∧ u = { t with regs := u.regs })) ∧
    (64 ≤ l.length → l.length ≤ t.fld (R.NET_MAX_LEN n.val) → pcs = false → fcsOk l = false → Runs (.receiveFrame n l pcs dt) s (fun u =>
      u.fld (R.NET_RX_FCS_ERR n.val) = Nat.min (t.fld (R.NET_RX_FCS_ERR n.val) + 1) 0xFFFFFFFF ∧
      Kept t u [R.NET_RX_FCS_ERR n.val, R.NET_GCNT n.val 26, R.NET_GCNT_FLAG_LO n.val] ∧ u = { t with regs := u.regs }))) ∧
  (∀ (s t : State) (n : Fin 5) (l : List Byte) (dt : Nat) (h : Hdr), t = s.elapse dt → t.bit R.PWR_STATUS_STANDBY = false →
    t.bit (R.NET_CTRL_RX_EN n.val) = true → t.bit (R.NET_STATUS_LINK n.val) = true → 64 ≤ l.length → l.length ≤ t.fld (R.NET_MAX_LEN n.val) →
    fcsOk l = true → h = parseHdr l →
    (h.etype = 0x8808 → beAt l h.off 2 = 1 → h.dst = 0x0180C2000001 → Runs (.receiveFrame n l false dt) s (fun u =>
      u.fld (R.NET_RX_PAUSE n.val) = Nat.min (t.fld (R.NET_RX_PAUSE n.val) + 1) 0xFFFFFFFF ∧ u.hops = t.hops ∧ u.mem = t.mem)) ∧
    (h.etype ≠ 0x8808 → t.forwards n.val h = false →
      (t.winnow n.val h.dst = false → Runs (.receiveFrame n l false dt) s (fun u =>
        u.fld (R.NET_RX_FILTERED n.val) = Nat.min (t.fld (R.NET_RX_FILTERED n.val) + 1) 0xFFFFFFFF ∧ u = { t with regs := u.regs })) ∧
      (t.winnow n.val h.dst = true →
        (∀ r, t.sidMatch n.val l h = some r → Runs (.receiveFrame n l false dt) s (fun u =>
          (∃ at0 at1, u.strm.inbox = t.strm.inbox ++ [RxFrame.mk n.val r l at0 at1]) ∧ u = { t with regs := u.regs, strm := u.strm } ∧
          u.fld (R.NET_RX_OK n.val) = Nat.min (t.fld (R.NET_RX_OK n.val) + 1) 0xFFFFFFFF)) ∧
        (t.sidMatch n.val l h = none → n.val < 4 → isPtp l h = true → Runs (.receiveFrame n l false dt) s (fun u =>
          (∃ at0 at1, u.ptp.inbox = t.ptp.inbox ++ [RxFrame.mk n.val 0 l at0 at1]) ∧ u = { t with regs := u.regs, ptp := u.ptp } ∧
          u.fld (R.NET_RX_OK n.val) = Nat.min (t.fld (R.NET_RX_OK n.val) + 1) 0xFFFFFFFF)) ∧
        (t.sidMatch n.val l h = none → n.val = 4 ∨ (isPtp l h = false ∧ t.isHeartbeat l h = false) →
          (t.hopRoom (t.fld (R.NET_RXQ_CFG_RX_HOP n.val)) = 0 ∨ t.hopCount (t.fld (R.NET_RXQ_CFG_FREE_HOP n.val)) = 0 →
            Runs (.receiveFrame n l false dt) s (fun u =>
              u.fld (R.NET_RX_NOBUF n.val) = Nat.min (t.fld (R.NET_RX_NOBUF n.val) + 1) 0xFFFFFFFF ∧ u.fld (R.NET_IRQ_STATUS_RX_NOBUF n.val) = 1 ∧
              u = { t with regs := u.regs })) ∧
          (t.hopRoom (t.fld (R.NET_RXQ_CFG_RX_HOP n.val)) ≠ 0 → t.hopCount (t.fld (R.NET_RXQ_CFG_FREE_HOP n.val)) ≠ 0 →
            Runs (.receiveFrame n l false dt) s (fun u =>
              u.fld (R.NET_RX_OK n.val) = Nat.min (t.fld (R.NET_RX_OK n.val) + 1) 0xFFFFFFFF ∧
              (t.fld (R.NET_RXQ_CFG_RX_HOP n.val) ≠ t.fld (R.NET_RXQ_CFG_FREE_HOP n.val) →
                ∃ e, (u.hop (t.fld (R.NET_RXQ_CFG_RX_HOP n.val))).entries = (t.hop (t.fld (R.NET_RXQ_CFG_RX_HOP n.val))).entries ++ [e]))))))) ∧
  (∀ (s t : State) (n : Fin 5) (l : List Byte) (pcs : Bool) (dt : Nat), t = s.elapse dt → t.bit R.PWR_STATUS_STANDBY = false →
    t.bit (R.NET_CTRL_RX_EN n.val) = false ∨ t.bit (R.NET_STATUS_LINK n.val) = false →
    Runs (.receiveFrame n l pcs dt) s (fun u => u = t)) ∧
  (∀ (s : State) (n : Fin 5), s.bit (R.NET_STATUS_PAUSED n.val) = true → Runs (.pauseExpiry n) s (fun u =>
      u.fld (R.NET_STATUS_PAUSED n.val) = 0 ∧ u.fld (R.NET_PAUSE_LEFT n.val) = 0 ∧ Kept s u [R.NET_STATUS_PAUSED n.val, R.NET_PAUSE_LEFT n.val] ∧
      u = { s with regs := u.regs, net := u.net } ∧ u.netPort n.val = { s.netPort n.val with pauseTime := 0 })) ∧
  (∀ (s : State) (n : Fin 5), s.bit (R.NET_STATUS_PAUSED n.val) = false → Runs (.pauseExpiry n) s (fun u => u = s)) ∧
  (∀ (s : State) (n : Fin 5) (v : Word), s.domOn 9 = true → n.val = 0 ∨ n.val = 4 → Runs (.wakePatternEnable n v) s (fun u =>
      (∀ k, k < 8 → bitOf (u.fld (R.NET_WAKE_CTRL n.val)) k =
        (bitOf v.toNat k && (bitOf (s.fld (R.NET_WAKE_CTRL n.val)) k || (s.netPort n.val).wakeOk k))) ∧
      Kept s u [R.NET_WAKE_CTRL n.val, R.NET_WAKE_STATUS_BAD n.val] ∧ u = { s with regs := u.regs, mem14 := u.mem14 })) ∧
  (∀ (s : State) (n : Fin 5) (v : Word), s.domOn 9 = true → n.val ≠ 0 → n.val ≠ 4 →
    Runs (.wakePatternEnable n v) s (fun u => u = { s with mem14 := u.mem14 })) ∧
  (∀ (s : State) (n : Fin 5), s.domOn 9 = true →
    Runs (.octetLoRead n false) s (fun u => u.mem14.respBus.data = s.fld (R.NET_RX_OCT_LO n.val) ∧
      FMap.get 0 u.net.octHi (2 * n.val) = s.fld (R.NET_RX_OCT_HI n.val) ∧ u.fld (R.NET_RX_OCT_LO n.val) = 0 ∧ u.fld (R.NET_RX_OCT_HI n.val) = 0 ∧
      Kept s u [R.NET_RX_OCT_LO n.val, R.NET_RX_OCT_HI n.val]) ∧
    Runs (.octetLoRead n true) s (fun u => u.mem14.respBus.data = s.fld (R.NET_TX_OCT_LO n.val) ∧
      FMap.get 0 u.net.octHi (2 * n.val + 1) = s.fld (R.NET_TX_OCT_HI n.val) ∧ u.fld (R.NET_TX_OCT_LO n.val) = 0 ∧ u.fld (R.NET_TX_OCT_HI n.val) = 0 ∧
      Kept s u [R.NET_TX_OCT_LO n.val, R.NET_TX_OCT_HI n.val]))

/-- From R208–R215: nanoseconds pass at the ports; the free link starts the head of the highest level with an eligible frame, or its oldest forwarded
frame; a head of a wrong length is dropped with STATUS 2 and makes way; a launch time that is reached makes its head eligible, and where the port may
not send it is discarded; a frame that has left is counted, lets a PAUSE that came during it take effect, and is completed. It rests on the model's
choices of log 42. -/
def Obligations.PortTransmit : Prop :=
  (∀ (s t : State) (n : Fin 5) (w0 w1 dt : Nat), t = (s.elapse dt).txDrainAll n.val →
    ((t.netPort n.val).flight.isSome = true ∨ t.txOpen n.val = false → Runs (.frameStart n w0 w1 dt) s (fun u => u = t)) ∧
    ((∀ lv, lv < 8 → t.levelPick n.val lv = 0) → Runs (.frameStart n w0 w1 dt) s (fun u => u = t)) ∧
    (∀ lv, (t.netPort n.val).flight = none → t.txOpen n.val = true → lv < 8 → (∀ k, k < 8 → lv < k → t.levelPick n.val k = 0) →
      (∀ d, t.levelPick n.val lv = 1 → t.txHead n.val lv = some d → t.txBad n.val d = false →
        Runs (.frameStart n w0 w1 dt) s (fun u => ∃ fl, (u.netPort n.val).flight = some fl ∧ fl.queue = lv ∧ fl.desc = d ∧
          t.txStamp n.val d ≤ fl.start ∧ fl.start ≤ t.txStamp n.val d + 8 * nsUnit)) ∧
      (∀ d, t.levelPick n.val lv = 1 → t.txHead n.val lv = some d → t.txBad n.val d = true →
        Runs (.frameStart n w0 w1 dt) s (fun u => u = (t.txDrop n.val lv).netPick n.val w0 w1 (t.txTotal n.val))) ∧
      (t.levelPick n.val lv = 2 → Runs (.frameStart n w0 w1 dt) s (fun u => ∃ fl f, (u.netPort n.val).flight = some fl ∧ fl.queue = 8 ∧
        t.fwdHead n.val lv = some f ∧ (u.netPort n.val).fwd = (t.netPort n.val).fwd.erase f)))) ∧
  (∀ (s t : State) (n : Fin 5) (q : Fin 8) (dt : Nat), t = s.elapse dt →
    (t.txOpen n.val = true → t.bit (R.NET_STATUS_TX_GATED n.val) = false → t.net.gates = [] → t.bit R.FCU_STATUS_SAFE = false →
      Runs (.launchTime n q dt) s (fun u => u = t)) ∧
    (t.txHead n.val q.val = none ∨ (∃ d, t.txHead n.val q.val = some d ∧ t.hasLaunch n.val d = true ∧ 0 < t.launchDiff d) →
      Runs (.launchTime n q dt) s (fun u => u = t)) ∧
    (∀ h d, t.txOpen n.val = false → t.txHop n.val q.val = some h → t.txHead n.val q.val = some d → t.hasLaunch n.val d = true →
      t.eligible n.val q.val d = true →
      Runs (.launchTime n q dt) s (fun u => u = (t.txDiscard n.val q.val).txDrain n.val q.val (t.txLen n.val q.val - 1)))) ∧
  (∀ (s t : State) (n : Fin 5) (dt : Nat), t = s.elapse dt → (t.netPort n.val).flight = none → Runs (.frameComplete n dt) s (fun u => u = t)) ∧
  (∀ (s t : State) (n : Fin 5) (dt : Nat) (f : Flight), t = s.elapse dt → (t.netPort n.val).flight = some f →
    Runs (.frameComplete n dt) s (fun u => (u.netPort n.val).flight = none ∧ (u.netPort n.val).pauseNext = none ∧
      u.fld (R.NET_TX_OK n.val) = Nat.min (t.fld (R.NET_TX_OK n.val) + 1) 0xFFFFFFFF ∧
      (∀ q, (t.netPort n.val).pauseNext = some q → u.fld (R.NET_PAUSE_LEFT n.val) = q % 65536)))

/-- From R217: a write of MDIO_CMD, while no cycle runs, sets its fields and starts the cycle with BUSY = 1; the cycle's end clears BUSY, and a read
leaves the PHY's data. MDIO touches nothing else; a write during a cycle is the error that R223 lists. It rests on the model's choices of log 8. -/
def Obligations.Mdio : Prop :=
  (∀ (s : State) (v : Word), s.domOn 9 = true → s.bit R.MGMT_MDIO_CMD_BUSY = false →
    Runs (.mdioCommand v) s (fun u => u.fld R.MGMT_MDIO_CMD_BUSY = bits v.toNat 31 31 ∧ u.fld R.MGMT_MDIO_CMD_OP = bits v.toNat 27 26 ∧
      u.fld R.MGMT_MDIO_CMD_PHYAD = bits v.toNat 25 21 ∧ u.fld R.MGMT_MDIO_CMD_REGAD = bits v.toNat 20 16 ∧
      u.fld R.MGMT_MDIO_CMD_DATA = bits v.toNat 15 0 ∧ Kept s u [R.MGMT_MDIO_CMD_BUSY, R.MGMT_MDIO_CMD_OP, R.MGMT_MDIO_CMD_PHYAD,
        R.MGMT_MDIO_CMD_REGAD, R.MGMT_MDIO_CMD_DATA] ∧ u = { s with regs := u.regs, mem14 := u.mem14 })) ∧
  (∀ (s : State) (v : Word), s.domOn 9 = true → s.bit R.MGMT_MDIO_CMD_BUSY = true →
    Machine.exec (.mdioCommand v) s = .refused (.unpredictable 223)) ∧
  (∀ (s : State) (d : Nat), s.bit R.MGMT_MDIO_CMD_BUSY = true → Runs (.mdioDone d) s (fun u => u.fld R.MGMT_MDIO_CMD_BUSY = 0 ∧
      (s.fld R.MGMT_MDIO_CMD_OP = 2 → u.fld R.MGMT_MDIO_CMD_DATA = d % 65536) ∧ (s.fld R.MGMT_MDIO_CMD_OP ≠ 2 →
        u.fld R.MGMT_MDIO_CMD_DATA = s.fld R.MGMT_MDIO_CMD_DATA) ∧ Kept s u [R.MGMT_MDIO_CMD_BUSY, R.MGMT_MDIO_CMD_DATA])) ∧
  (∀ (s : State) (d : Nat), s.bit R.MGMT_MDIO_CMD_BUSY = false → Runs (.mdioDone d) s (fun u => u = s))

/-- From R233: the frame of a stream whose block is ready is queued on its port and counted with its sequence number; a stream without an entry, or
whose frame is out, builds nothing; at the cutoff every frame not yet queued is given up. It rests on the model's choices of log 43. -/
def Obligations.StreamsBuild : Prop :=
  (∀ (s : State) (r : Fin 128), s.txEnt r.val = none ∨ FMap.get 0 s.strm.todo r.val = 0 → Runs (.streamFrameBuild r) s (fun u => u = s)) ∧
  (∀ (s : State) (r : Fin 128) (e : TxEnt), s.txEnt r.val = some e → FMap.get 0 s.strm.todo r.val ≠ 0 → s.streamFrame e (s.tick.num + 1) = none →
    Runs (.streamFrameBuild r) s (fun u => FMap.get 0 u.strm.todo r.val = 0 ∧ u = { s with strm := { s.strm with todo := u.strm.todo } })) ∧
  (∀ (s : State) (r : Fin 128) (e : TxEnt) (n : Fin 4) (seq h : Nat) (make : Nat → List Byte × Nat), s.txEnt r.val = some e →
    FMap.get 0 s.strm.todo r.val = 2 ^ n.val → s.streamFrame e (s.tick.num + 1) = some (seq, make) → s.txHop n.val e.queue = some h →
    s.hopRoom h ≠ 0 → s.fld (R.STRM_TX_FRAMES r.val) < 0xFFFFFFFF →
    Runs (.streamFrameBuild r) s (fun u => FMap.get 0 u.strm.todo r.val = 0 ∧ u.fld (R.STRM_TX_FRAMES r.val) = s.fld (R.STRM_TX_FRAMES r.val) + 1 ∧
      u.fld (R.STRM_TX_SEQ r.val) = seq % 65536 ∧
      FMap.get [] (u.netPort n.val).bufs (s.takeFree.1 % 0x1000000000) = (make n.val).1)) ∧
  (∀ (s : State), Runs .streamQueueCutoff s (fun u => (∀ e, e ∈ s.strm.txMap → FMap.get 0 u.strm.todo e.stream = 0) ∧
    u.net = s.net ∧ u.hops = s.hops ∧ u.mem = s.mem ∧
    ∀ (r : Nat) (e : TxEnt), s.txEnt r = some e → FMap.get 0 s.strm.todo r ≠ 0 → (s.streamFrame e (s.tick.num + 1)).isSome = true →
      u.fld R.STRM_IRQ_STATUS / 64 % 2 = 1))

/-- From R234, R237, R240: a frame that Winnow gave to the stream engine is taken; one that fails a check is counted with the frame, a valid frame
makes the stream ACTIVE, and its second copy is discarded; twelve ticks without one make it LOST; twelve without a passed one let a stream with
elimination take any sequence number next. It rests on the model's choices of log 43. -/
def Obligations.StreamsReceive : Prop :=
  (∀ (s : State) (late : Bool), s.strm.inbox = [] → Runs (.streamFrameReceive late) s (fun u => u = s)) ∧
  (∀ (s : State) (late : Bool) (f : RxFrame) (rest : List RxFrame), s.strm.inbox = f :: rest →
    (s.rxEnt f.stream = none → Runs (.streamFrameReceive late) s (fun u => u = { s with strm := { s.strm with inbox := rest } })) ∧
    (∀ e, s.rxEnt f.stream = some e →
      s.rxCheck e f.bytes (parseHdr f.bytes) (if s.selCur = 0 then f.at0 else f.at1) = none → f.stream < 128 → f.port < 4 →
      s.fld (R.STRM_RX_HDR_ERR f.stream) < 0xFFFFFFFF → s.fld (if f.port < 2 then R.STRM_RX_FRAMES_A f.stream else R.STRM_RX_FRAMES_B f.stream) < 0xFFFFFFFF →
      Runs (.streamFrameReceive late) s (fun u => u.strm = { s.strm with inbox := rest } ∧
        u.fld (R.STRM_RX_HDR_ERR f.stream) = s.fld (R.STRM_RX_HDR_ERR f.stream) + 1 ∧ u.fld R.STRM_IRQ_STATUS / 16 % 2 = 1 ∧
        u.fld (if f.port < 2 then R.STRM_RX_FRAMES_A f.stream else R.STRM_RX_FRAMES_B f.stream) =
          s.fld (if f.port < 2 then R.STRM_RX_FRAMES_A f.stream else R.STRM_RX_FRAMES_B f.stream) + 1)) ∧
    (∀ e a, s.rxEnt f.stream = some e → e.format ≤ 1 → e.elim = false → f.stream < 128 → f.port < 4 →
      s.rxAaf e f.bytes (parseHdr f.bytes) (if s.selCur = 0 then f.at0 else f.at1) = some a →
      Runs (.streamFrameReceive late) s (fun u => u.fld (R.STRM_RX_STATE_STATE f.stream) = 2 ∧ u.strm.inbox = rest ∧ (u.rxStream f.stream).idle = 0)) ∧
    (∀ e w seq, s.rxEnt f.stream = some e → e.elim = true → f.stream < 128 → f.port < 4 → (parseHdr f.bytes).rtag = some seq →
      s.rxCheck e f.bytes (parseHdr f.bytes) (if s.selCur = 0 then f.at0 else f.at1) = some w → (s.rxStream f.stream).takeAny = false →
      (s.rxStream f.stream).seq = seq → bitOf (s.rxStream f.stream).hist 0 = true → s.fld (R.STRM_RX_DISCARDED f.stream) < 0xFFFFFFFF →
      Runs (.streamFrameReceive late) s (fun u => u.fld (R.STRM_RX_DISCARDED f.stream) = s.fld (R.STRM_RX_DISCARDED f.stream) + 1 ∧
        u.fld (R.STRM_RX_STATE_STATE f.stream) = 2 ∧ u.rxStream f.stream = { s.rxStream f.stream with idle := 0 } ∧ u.strm.inbox = rest ∧
        u.strm.crf = s.strm.crf))) ∧
  (∀ (s : State) (r : Fin 128), s.fld (R.STRM_RX_STATE_STATE r.val) = 2 → 12 ≤ (s.rxStream r.val).idle →
    s.fld (R.STRM_RX_LOST_CNT r.val) < 0xFFFF → Runs (.streamLost r) s (fun u => u.fld (R.STRM_RX_STATE_STATE r.val) = 3 ∧
      bitOf (u.fld (lostReg r.val)) (r.val % 32) = true ∧ u.fld (R.STRM_RX_LOST_CNT r.val) = s.fld (R.STRM_RX_LOST_CNT r.val) + 1 ∧
      u.fld R.STRM_IRQ_STATUS % 2 = 1 ∧ u.strm = s.strm ∧ ∃ v : State, u = v.fcu' 27 1 r.val)) ∧
  (∀ (s : State) (r : Fin 128), s.fld (R.STRM_RX_STATE_STATE r.val) ≠ 2 ∨ (s.rxStream r.val).idle < 12 → Runs (.streamLost r) s (fun u => u = s)) ∧
  (∀ (s : State) (r : Fin 128) (e : RxEnt), s.rxEnt r.val = some e → e.elim = true → (s.rxStream r.val).takeAny = false → 12 ≤ (s.rxStream r.val).quiet →
    s.fld (R.STRM_RX_RESETS r.val) < 0xFFFFFFFF →
    Runs (.recoveryReset r) s (fun u => u.rxStream r.val = { s.rxStream r.val with takeAny := true, hist := 0 } ∧
      u.fld (R.STRM_RX_RESETS r.val) = s.fld (R.STRM_RX_RESETS r.val) + 1 ∧ Kept s u [R.STRM_RX_RESETS r.val])) ∧
  (∀ (s : State) (r : Fin 128), (s.rxEnt r.val = none ∨ (∃ e, s.rxEnt r.val = some e ∧ e.elim = false) ∨ (s.rxStream r.val).takeAny = true ∨
    (s.rxStream r.val).quiet < 12) → Runs (.recoveryReset r) s (fun u => u = s))

/-- From R242–R244, R247: the commands of the time unit. A lost grandmaster is shown, and HOLDOVER with both lost; where AUTO_SW allows it the grid
goes to the other, LOCKED, instance; a step adds to a counter, a set replaces it, and on the selected instance either starts a slew; a read of NS
latches the rest of the count; SEL switches the domain; the end of a slew ends clears SLEWING, and with it the automatic ALIGN of a domain switch
ends. The unit's domain is on. It rests on the model's choices of log 44. -/
def Obligations.TimeCommands : Prop :=
  (∀ (s : State) (i : Fin 2), s.bit (R.TIME_T_CTRL_EN i.val) = true → s.bit (R.TIME_T_STATE_GM_LOST i.val) = false →
    s.bit (R.TIME_T_STATE_GM_LOST (1 - i.val)) = true → Runs (.gmLost i) s (fun u => u.fld (R.TIME_T_STATE_GM_LOST i.val) = 1 ∧
      u.fld R.TIME_STATUS_HOLDOVER = 1 ∧ u.fld R.TIME_IRQ_STATUS / 2 ^ (1 + i.val) % 2 = 1 ∧ u.fld R.TIME_IRQ_STATUS / 16 % 2 = 1 ∧ u.ptp = s.ptp)) ∧
  (∀ (s : State) (i : Fin 2), s.bit (R.TIME_T_CTRL_EN i.val) = false ∨ s.bit (R.TIME_T_STATE_GM_LOST i.val) = true →
    Runs (.gmLost i) s (fun u => u = s)) ∧
  (∀ (s : State) (i : Fin 2), s.bit (R.TIME_T_CTRL_EN i.val) = true → s.bit (R.TIME_T_STATE_GM_LOST i.val) = false →
    s.bit (R.TIME_T_STATE_GM_LOST (1 - i.val)) = false → (s.selCur = i.val → s.bit R.TIME_CTRL_AUTO_SW = true →
      s.fld (R.TIME_T_STATE_STATE (1 - i.val)) = 2 → Runs (.gmLost i) s (fun u => u.fld (R.TIME_T_STATE_GM_LOST i.val) = 1 ∧
        u.fld R.TIME_STATUS_SEL_CUR = 1 - i.val ∧ u.fld R.TIME_STATUS_SLEWING = 1 ∧ u.ptp.mr = (!s.ptp.mr) ∧ u.ptp.cnt = s.ptp.cnt)) ∧
    (s.selCur ≠ i.val ∨ s.bit R.TIME_CTRL_AUTO_SW = false ∨ s.fld (R.TIME_T_STATE_STATE (1 - i.val)) ≠ 2 → Runs (.gmLost i) s (fun u => u.fld (R.TIME_T_STATE_GM_LOST i.val) = 1 ∧
        u.fld R.TIME_IRQ_STATUS / 2 ^ (1 + i.val) % 2 = 1 ∧ u.ptp = s.ptp ∧ KeptF s u [R.TIME_T_STATE_GM_LOST i.val, R.TIME_IRQ_STATUS]))) ∧
  (∀ (s t : State) (i : Fin 2) (dt : Nat), t = s.elapse dt → t.domOn 9 = true →
    (t.selCur ≠ i.val → Runs (.timeStep i dt) s (fun u =>
        u.timeOf i.val = (((t.timeOf i.val : Int) + t.stepUnits i.val) % timeMod).toNat % timeMod ∧
        u = { t with ptp := u.ptp, mem14 := u.mem14 }) ∧
      Runs (.timeSet i dt) s (fun u => u.timeOf i.val = (t.stepUnits i.val % timeMod).toNat % timeMod ∧ u = { t with ptp := u.ptp, mem14 := u.mem14 })) ∧
    (t.selCur = i.val → Runs (.timeStep i dt) s (fun u =>
        u.timeOf i.val = (((t.timeOf i.val : Int) + t.stepUnits i.val) % timeMod).toNat % timeMod ∧ u.fld R.TIME_STATUS_SEL_CUR = i.val ∧
        u.fld R.TIME_STATUS_SLEWING = 1 ∧ u.ptp.mr = !t.ptp.mr ∧ u.fld R.TIME_IRQ_STATUS % 2 = 1) ∧
      Runs (.timeSet i dt) s (fun u => u.timeOf i.val = (t.stepUnits i.val % timeMod).toNat % timeMod ∧ u.fld R.TIME_STATUS_SEL_CUR = i.val ∧
        u.fld R.TIME_STATUS_SLEWING = 1 ∧ u.ptp.mr = !t.ptp.mr ∧ u.fld R.TIME_IRQ_STATUS % 2 = 1)) ∧
    Runs (.timeNsRead i dt) s (fun u => u.mem14.respBus.data = nsOf (t.timeOf i.val) % 1000000000 ∧
      u.fld (R.TIME_T_SEC_LO i.val) = nsOf (t.timeOf i.val) / 1000000000 % 0x100000000 ∧
      u.fld (R.TIME_T_SUBNS i.val) = t.timeOf i.val % nsUnit / 0x4000 % 65536 ∧
      Kept t u [R.TIME_T_NS i.val, R.TIME_T_SEC_LO i.val, R.TIME_T_SEC_HI i.val, R.TIME_T_SUBNS i.val])) ∧
  (∀ (s : State) (i : Fin 2), s.domOn 9 = true → Runs (.selWrite i) s (fun u => u.fld R.TIME_CTRL_SEL = i.val ∧ u.fld R.TIME_STATUS_SEL_CUR = i.val ∧
      u.fld R.TIME_STATUS_SLEWING = 1 ∧ u.fld R.TICK_STATUS_SLEWING = 1 ∧ u.ptp.mr = (!s.ptp.mr) ∧ u.ptp.cnt = s.ptp.cnt ∧
      u.fld R.TIME_IRQ_STATUS % 2 = 1)) ∧
  (∀ (s : State), s.clk.auto = false → s.bit R.TIME_STATUS_SLEWING = true → s.ptp.resid.natAbs ≤ s.slewStep.natAbs →
    Runs .slewDone s (fun u => u.ptp = { s.ptp with resid := 0 } ∧
      u.fld R.TIME_STATUS_SLEWING = 0 ∧ u.fld R.TICK_STATUS_SLEWING = 0 ∧ u.fld R.TIME_SLEW_RESID = 0 ∧ u.fld R.TIME_IRQ_STATUS / 8 % 2 = 1 ∧
      Kept s u [R.TIME_SLEW_RESID, R.TIME_STATUS_SLEWING, R.TICK_STATUS_SLEWING, R.TICK_STATUS_GRID_LOCKED, R.TIME_IRQ_STATUS])) ∧
  (∀ (s : State), s.clk.auto = false → s.bit R.TIME_STATUS_SLEWING = false ∨ s.slewStep.natAbs < s.ptp.resid.natAbs →
    Runs .slewDone s (fun u => u = s)) ∧
  (∀ (s : State), s.clk.auto = true → s.fld R.CLK_STATUS_STATE = 3 ∨ s.bit R.CLK_STATUS_ALIGNING = false → Runs .slewDone s (fun u => u = s)) ∧
  (∀ (s : State), s.clk.auto = true → s.fld R.CLK_STATUS_STATE ≠ 3 → s.bit R.CLK_STATUS_ALIGNING = true → s.bit R.TIME_STATUS_SLEWING = true →
    s.ptp.resid.natAbs ≤ s.slewStep.natAbs → Runs .slewDone s (fun u => u.fld R.TIME_STATUS_SLEWING = 0 ∧ u.fld R.TICK_STATUS_SLEWING = 0 ∧
      u.fld R.CLK_STATUS_ALIGNING = 0 ∧ u.fld R.CLK_BUILDOUT = 0 ∧ u.clk.auto = false)) ∧
  (∀ (s : State), s.ptp.inbox = [] → Runs .ptpMessageReceive s (fun u => u = s)) ∧
  (∀ (s : State) (f : RxFrame) (rest : List RxFrame) (i : Nat), s.ptp.inbox = f :: rest → i < 2 →
    ({ s with ptp := { s.ptp with inbox := rest } } : State).ptpInstance f (parseHdr f.bytes) = some i →
    beAt f.bytes (ptpAt f.bytes (parseHdr f.bytes)) 1 % 16 = 11 →
    Runs .ptpMessageReceive s (fun u => u.fld (R.TIME_T_STATE_GM_LOST i) = 0 ∧ u.fld R.TIME_STATUS_HOLDOVER = 0))

/-- From R253, R255, R256, R258, R264, R265: the reference monitors. A failed monitor of a reference that is MEASURED or QUALIFIED turns it FAILED
with the reason and counts a loss; the first good edge starts measuring, QUAL_TIME good measurements qualify, and a wait-to-restore that ends is
cleared, or restarts after the switch while the loop is SWITCHING. In SWITCHING three edges measure the build-out. Every DIV-th edge of the polarity
in force is compared; on the selected reference it moves the loop filter, whose gains are free values, and with it the control word. It rests on the
model's choices of log 11, 45. -/
def Obligations.ReferenceMonitors : Prop :=
  (∀ (s : State) (n : Fin 8), s.fld (R.CLK_REF_STATUS_STATE n.val) = 2 ∨ s.fld (R.CLK_REF_STATUS_STATE n.val) = 3 → s.fld (R.CLK_REF_EVT_LOSS_CNT n.val) < 0xFFFF →
    Runs (.activityFail n) s (fun u => u.fld (R.CLK_REF_STATUS_STATE n.val) = 1 ∧ u.fld (R.CLK_REF_STATUS_REASON n.val) = 1 ∧
      u.fld (R.CLK_REF_STATUS_WTR n.val) = 0 ∧ u.fld (R.CLK_REF_WTR_LEFT n.val) = 0 ∧
      u.fld (R.CLK_REF_EVT_LOSS_CNT n.val) = s.fld (R.CLK_REF_EVT_LOSS_CNT n.val) + 1) ∧
    (s.sourceOk n.val = false → Runs (.sourceConditionFail n) s (fun u => u.fld (R.CLK_REF_STATUS_STATE n.val) = 1 ∧
      u.fld (R.CLK_REF_STATUS_REASON n.val) = s.sourceReason n.val ∧ u.fld (R.CLK_REF_EVT_LOSS_CNT n.val) = s.fld (R.CLK_REF_EVT_LOSS_CNT n.val) + 1))) ∧
  (∀ (s : State) (n : Fin 8), s.fld (R.CLK_REF_STATUS_STATE n.val) < 2 → Runs (.activityFail n) s (fun u => u = s)) ∧
  (∀ (s : State) (n : Fin 8), s.sourceOk n.val = true → Runs (.sourceConditionFail n) s (fun u => u = s)) ∧
  (∀ (s : State) (n : Fin 8) (ofs : Int), s.bit (R.CLK_REF_CFG_EN n.val) = false → Runs (.frequencyMeasure n ofs) s (fun u => u = s)) ∧
  (∀ (s : State) (n : Fin 8) (ofs : Int), s.bit (R.CLK_REF_CFG_EN n.val) = true → s.sourceOk n.val = true →
    s.fld (R.CLK_REF_STATUS_STATE n.val) = 2 →
    (s.fld R.CLK_QUAL_ACCEPT_PPM * 100000 < ofs.natAbs → Runs (.frequencyMeasure n ofs) s (fun u => FMap.get 0 u.clk.qual n.val = 0 ∧
      u.fld (R.CLK_REF_OFFSET n.val) = unsignedOf 32 ofs ∧ u.fld (R.CLK_REF_WTR_LEFT n.val) = (s.fld (R.CLK_REF_WTR_LEFT n.val) - 1) % 65536 ∧
      Kept s u [R.CLK_REF_OFFSET n.val, R.CLK_REF_WTR_LEFT n.val])) ∧
    (ofs.natAbs ≤ s.fld R.CLK_QUAL_ACCEPT_PPM * 100000 → FMap.get 0 s.clk.qual n.val + 1 < s.fld R.CLK_QUAL_TIME →
      Runs (.frequencyMeasure n ofs) s (fun u => FMap.get 0 u.clk.qual n.val = FMap.get 0 s.clk.qual n.val + 1 ∧
        u.fld (R.CLK_REF_OFFSET n.val) = unsignedOf 32 ofs ∧ Kept s u [R.CLK_REF_OFFSET n.val, R.CLK_REF_WTR_LEFT n.val])) ∧
    (ofs.natAbs ≤ s.fld R.CLK_QUAL_ACCEPT_PPM * 100000 → s.fld R.CLK_QUAL_TIME ≤ FMap.get 0 s.clk.qual n.val + 1 →
      Runs (.frequencyMeasure n ofs) s (fun u => u.fld (R.CLK_REF_STATUS_STATE n.val) = 3 ∧ u.fld (R.CLK_REF_STATUS_REASON n.val) = 0 ∧
        u.fld (R.CLK_REF_OFFSET n.val) = unsignedOf 32 ofs))) ∧
  (∀ (s : State) (n : Fin 8) (ofs : Int), s.bit (R.CLK_REF_CFG_EN n.val) = true → s.sourceOk n.val = true →
    s.fld (R.CLK_REF_STATUS_STATE n.val) = 3 → s.fld R.CLK_QUAL_REJECT_PPM * 100000 < ofs.natAbs → Runs (.frequencyMeasure n ofs) s (fun u => u.fld (R.CLK_REF_STATUS_STATE n.val) = 1 ∧
      u.fld (R.CLK_REF_STATUS_REASON n.val) = 3)) ∧
  (∀ (s : State) (n : Fin 8) (ofs : Int), s.bit (R.CLK_REF_CFG_EN n.val) = true → s.sourceOk n.val = false →
    s.fld (R.CLK_REF_STATUS_STATE n.val) = 2 ∨ s.fld (R.CLK_REF_STATUS_STATE n.val) = 3 → Runs (.frequencyMeasure n ofs) s (fun u =>
      u.fld (R.CLK_REF_STATUS_STATE n.val) = 1 ∧ u.fld (R.CLK_REF_STATUS_REASON n.val) = s.sourceReason n.val)) ∧
  (∀ (s : State) (n : Fin 8), (s.bit (R.CLK_REF_STATUS_WTR n.val) = false → Runs (.waitToRestoreExpiry n) s (fun u => u = s)) ∧
    (s.bit (R.CLK_REF_STATUS_WTR n.val) = true → s.fld R.CLK_STATUS_STATE = 3 → Runs (.waitToRestoreExpiry n) s (fun u =>
      u.clk.swWait = n.val :: s.clk.swWait ∧ u = { s with clk := u.clk })) ∧
    (s.bit (R.CLK_REF_STATUS_WTR n.val) = true → s.fld R.CLK_STATUS_STATE ≠ 3 → Runs (.waitToRestoreExpiry n) s (fun u =>
      u.fld (R.CLK_REF_STATUS_WTR n.val) = 0 ∧ u.fld (R.CLK_REF_WTR_LEFT n.val) = 0))) ∧
  (∀ (s : State) (n : Fin 8) (falling : Bool) (period : Nat) (err : Int), s.bit (R.CLK_REF_CFG_EN n.val) = false ∨
    (n.val < 4 ∧ s.bit (R.CLK_REF_CFG_EDGE n.val) ≠ falling) → Runs (.referenceEdge n falling period err) s (fun u => u = s)) ∧
  (∀ (s : State) (n : Fin 8) (falling : Bool) (period : Nat) (err : Int), s.bit (R.CLK_REF_CFG_EN n.val) = true →
    (n.val < 4 → s.bit (R.CLK_REF_CFG_EDGE n.val) = falling) → s.glitchy n.val period = true →
    s.fld (R.CLK_REF_STATUS_STATE n.val) = 2 ∨ s.fld (R.CLK_REF_STATUS_STATE n.val) = 3 → s.clk.quiet.contains n.val = false →
    Runs (.referenceEdge n falling period err) s (fun u => u.fld (R.CLK_REF_STATUS_STATE n.val) = 1 ∧ u.fld (R.CLK_REF_STATUS_REASON n.val) = 2)) ∧
  (∀ (s : State) (n : Fin 8) (falling : Bool) (period : Nat) (err : Int), s.bit (R.CLK_REF_CFG_EN n.val) = true →
    (n.val < 4 → s.bit (R.CLK_REF_CFG_EDGE n.val) = falling) → s.glitchy n.val period = false →
    s.fld (R.CLK_REF_STATUS_STATE n.val) = 1 → s.sourceOk n.val = true →
    Runs (.referenceEdge n falling period err) s (fun u =>
      u.fld (R.CLK_REF_STATUS_STATE n.val) = 2 ∧ FMap.get 0 u.clk.qual n.val = 0 ∧ u.fld R.CLK_IRQ_STATUS / 2 % 2 = 1 ∧
      Kept s u [R.CLK_REF_STATUS_STATE n.val, R.CLK_IRQ_STATUS])) ∧
  (∀ (s : State) (n : Fin 8) (falling : Bool) (period : Nat) (err : Int), s.bit (R.CLK_REF_CFG_EN n.val) = true →
    (n.val < 4 → s.bit (R.CLK_REF_CFG_EDGE n.val) = falling) → s.glitchy n.val period = false →
    s.fld (R.CLK_REF_STATUS_STATE n.val) ≠ 1 → FMap.get 0 s.clk.edges n.val + 1 < s.refDiv n.val →
    Runs (.referenceEdge n falling period err) s (fun u =>
      FMap.get 0 u.clk.edges n.val = FMap.get 0 s.clk.edges n.val + 1 ∧ u = { s with clk := { s.clk with edges := u.clk.edges } })) ∧
  (∀ (s : State) (n : Fin 8) (falling : Bool) (period : Nat) (err : Int), s.bit (R.CLK_REF_CFG_EN n.val) = true →
    (n.val < 4 → s.bit (R.CLK_REF_CFG_EDGE n.val) = falling) → s.glitchy n.val period = false →
    s.fld (R.CLK_REF_STATUS_STATE n.val) = 3 → s.refDiv n.val ≤ FMap.get 0 s.clk.edges n.val + 1 →
    s.bit R.CLK_STATUS_SEL_VALID = true → s.fld R.CLK_STATUS_SEL_REF = n.val → (s.fld R.CLK_STATUS_STATE = 1 ∨ s.fld R.CLK_STATUS_STATE = 2) →
    (err.natAbs ≤ s.fld R.CLK_LOCK_UNLOCK_NS * 1000 → Runs (.referenceEdge n falling period err) s (fun u =>
      u.fld R.CLK_PHASE_ERR = unsignedOf 32 err ∧ u.clk.integ = s.clk.integ + s.loopInc err ∧
      u.fld R.CLK_FREQ_WORD = unsignedOf 32 (clampInt (-20000000) 20000000 (u.clk.integ / 10000000000 + s.loopProp err)) ∧ u.clk.unlock = 0 ∧
      Kept s u [R.CLK_PHASE_ERR, R.CLK_FREQ_WORD])) ∧
    (s.fld R.CLK_LOCK_UNLOCK_NS * 1000 < err.natAbs → s.clk.unlock < 2 → Runs (.referenceEdge n falling period err) s (fun u =>
      u.clk.unlock = s.clk.unlock + 1 ∧ Kept s u [R.CLK_PHASE_ERR, R.CLK_FREQ_WORD])) ∧
    (s.fld R.CLK_LOCK_UNLOCK_NS * 1000 < err.natAbs → s.clk.unlock = 2 → Runs (.referenceEdge n falling period err) s (fun u =>
      u.fld R.CLK_STATUS_STATE = 4 ∧ u.fld R.CLK_STATUS_SEL_VALID = 0 ∧ u.fld R.CLK_HO_TIME = 0))) ∧
  (∀ (s : State) (n : Fin 8) (falling : Bool) (period : Nat) (err : Int), s.bit (R.CLK_REF_CFG_EN n.val) = true →
    (n.val < 4 → s.bit (R.CLK_REF_CFG_EDGE n.val) = falling) → s.glitchy n.val period = false →
    s.fld (R.CLK_REF_STATUS_STATE n.val) = 3 → s.refDiv n.val ≤ FMap.get 0 s.clk.edges n.val + 1 →
    s.bit R.CLK_STATUS_SEL_VALID = true → s.fld R.CLK_STATUS_SEL_REF = n.val → s.fld R.CLK_STATUS_STATE = 3 →
    (s.clk.swEdges < 2 → Runs (.referenceEdge n falling period err) s (fun u => u.clk.swEdges = s.clk.swEdges + 1 ∧ u.regs = s.regs)) ∧
    (s.clk.swEdges = 2 → s.clk.auto = false → s.clk.prev = 1 ∨ s.clk.prev = 2 → Runs (.referenceEdge n falling period err) s (fun u =>
      u.fld R.CLK_BUILDOUT = unsignedOf 32 (wrapOffset err (1000000000000000 / s.selRate : Nat)) ∧ u.clk.swWait = [])))

/-- From R258–R260, R268, R271, R272: the loop's commands. A met dwell advances the stage; ALIGN moves until BUILDOUT is 0 and then ends with ALIGNED;
HOLDOVER takes the 60 s mean word, or runs free without one; each second of HOLDOVER counts; in LOCKED the minute's mean word and temperature are
learned, in another state nothing is; a written term is valid and starts its learning anew. The clock unit's domain is on. It rests on the model's
choices of log 11, 45, 70. -/
def Obligations.LoopCommands : Prop :=
  (∀ (s : State), s.fld R.CLK_STATUS_STATE ≠ 1 ∨ s.dwellMet = false → Runs .stageAdvance s (fun u => u = s)) ∧
  (∀ (s : State), s.fld R.CLK_STATUS_STATE = 1 → s.dwellMet = true → s.fld R.CLK_STATUS_STAGE < 3 →
    Runs .stageAdvance s (fun u => u.fld R.CLK_STATUS_STAGE = s.fld R.CLK_STATUS_STAGE + 1 ∧ u.fld R.CLK_FREQ_WORD = s.fld R.CLK_FREQ_WORD ∧
    (s.stages ≤ s.fld R.CLK_STATUS_STAGE + 2 → u.fld R.CLK_STATUS_STATE = 2 ∧ u.fld R.CLK_BUILDOUT = 0) ∧
    (s.fld R.CLK_STATUS_STAGE + 2 < s.stages → u.fld R.CLK_STATUS_STATE = 1 ∧ Kept s u [R.CLK_STATUS_STAGE, R.CLK_STATUS_BW_CLAMPED]))) ∧
  (∀ (s : State), s.domOn 1 = true → (s.fld R.CLK_STATUS_STATE = 3 → Runs .align s (fun u => u.clk.nextAlign = true ∧ Kept s u [])) ∧
    (s.fld R.CLK_STATUS_STATE ≠ 3 → Runs .align s (fun u => u.fld R.CLK_STATUS_ALIGNING = 1 ∧ Kept s u [R.CLK_STATUS_ALIGNING] ∧ u.clk = { s.clk with alignRem := 0 }))) ∧
  (∀ (s : State), s.bit R.CLK_STATUS_ALIGNING = false → Runs .alignComplete s (fun u => u = s)) ∧
  (∀ (s : State), s.bit R.CLK_STATUS_ALIGNING = true → s.clk.auto = false → s.fld R.CLK_BUILDOUT ≠ 0 → s.bit R.TICK_STATUS_RUNNING = true →
    Runs .alignComplete s (fun u => u = s)) ∧
  (∀ (s : State), s.clk.auto = true → s.bit R.TIME_STATUS_SLEWING = true → s.slewStep.natAbs < s.ptp.resid.natAbs →
    Runs .alignComplete s (fun u => u = s)) ∧
  (∀ (s : State), s.bit R.CLK_STATUS_ALIGNING = true → s.clk.auto = false → s.fld R.CLK_BUILDOUT = 0 ∨ s.bit R.TICK_STATUS_RUNNING = false →
    Runs .alignComplete s (fun u => u.fld R.CLK_STATUS_ALIGNING = 0 ∧ u.fld R.CLK_BUILDOUT = 0 ∧
    u.fld R.CLK_IRQ_STATUS / 16 % 2 = 1 ∧ u.clk = { s.clk with auto := false, alignRem := 0 } ∧ Kept s u [R.CLK_STATUS_ALIGNING, R.CLK_BUILDOUT, R.CLK_IRQ_STATUS])) ∧
  (∀ (s : State), s.domOn 1 = true → s.clk.model = true → Runs .holdoverCommand s (fun u => u.fld R.CLK_STATUS_STATE = 4 ∧ u.fld R.CLK_STATUS_SEL_VALID = 0 ∧ u.fld R.CLK_HO_TIME = 0 ∧
    u.fld R.CLK_FREQ_WORD = unsignedOf 32 (clampInt (-20000000) 20000000 (s.sfld R.CLK_HO_AVG)))) ∧
  (∀ (s : State), s.domOn 1 = true → s.clk.model = false → Runs .holdoverCommand s (fun u => u.fld R.CLK_STATUS_STATE = 0 ∧ u.fld R.CLK_STATUS_SEL_VALID = 0 ∧
    u.fld R.CLK_FREQ_WORD = unsignedOf 32 (clampInt (-20000000) 20000000 (s.sfld R.CLK_FREERUN_WORD)))) ∧
  (∀ (s : State) (up : Bool), (s.fld R.CLK_STATUS_STATE ≠ 4 → Runs (.holdoverUpdate up) s (fun u => u = s)) ∧
    (s.fld R.CLK_STATUS_STATE = 4 → s.bit R.CLK_CTRL_FORCE = true → s.fld R.CLK_CTRL_FORCE_REF < 8 → s.fld (R.CLK_REF_STATUS_STATE (s.fld R.CLK_CTRL_FORCE_REF)) ≠ 3 → s.fld R.CLK_HO_TIME < 0xFFFFFFFF →
      s.bit R.CLK_HO_KT_VALID = false → s.bit R.CLK_HO_AGE_VALID = false →
      Runs (.holdoverUpdate up) s (fun u => u.fld R.CLK_STATUS_STATE = 4 ∧ u.fld R.CLK_HO_TIME = s.fld R.CLK_HO_TIME + 1 ∧
        u.fld R.CLK_FREQ_WORD = unsignedOf 32 (clampInt (-20000000) 20000000 s.w60)))) ∧
  (∀ (s : State) (wordUp tempUp : Bool), (s.fld R.CLK_STATUS_STATE ≠ 2 → Runs (.ktUpdate wordUp tempUp) s (fun u => u = s)) ∧
    (s.fld R.CLK_STATUS_STATE = 2 → Runs (.ktUpdate wordUp tempUp) s (fun u => u.clk.model = true ∧ u.fld R.CLK_HO_AVG = unsignedOf 32 (meanInt wordUp s.clk.sumWord s.clk.sumN (s.sfld R.CLK_FREQ_WORD)) ∧
      u.fld R.CLK_HO_TREF = unsignedOf 16 (meanInt tempUp s.clk.sumTemp s.clk.sumN s.hoTemp) ∧ (s.bit R.CLK_CTRL_LEARN_T = false → Kept s u [R.CLK_HO_AVG, R.CLK_HO_TREF])))) ∧
  (∀ (s : State), s.fld R.CLK_STATUS_STATE ≠ 2 ∨ s.bit R.CLK_CTRL_LEARN_AGE = false ∨ s.clk.minutes < 1440 → Runs .ageUpdate s (fun u => u = s)) ∧
  (∀ (s : State), s.fld R.CLK_STATUS_STATE = 2 → s.bit R.CLK_CTRL_LEARN_AGE = true → 1440 ≤ s.clk.minutes →
    Runs .ageUpdate s (fun u => Kept s u [R.CLK_HO_AGE_AGE, R.CLK_HO_AGE_VALID] ∧ u.clk = s.clk)) ∧
  (∀ (s : State) (v : Word), s.domOn 1 = true → Runs (.hoKtWrite v) s (fun u => u.fld R.CLK_HO_KT_KT = v.toNat % 65536 ∧ u.fld R.CLK_HO_KT_VALID = 1 ∧ u.clk = { s.clk with ktPts := [] } ∧
      Kept s u [R.CLK_HO_KT_KT, R.CLK_HO_KT_VALID]) ∧
    Runs (.hoAgeWrite v) s (fun u => u.fld R.CLK_HO_AGE_AGE = v.toNat % 65536 ∧ u.fld R.CLK_HO_AGE_VALID = 1 ∧ u.clk = { s.clk with agePts := [] } ∧
      Kept s u [R.CLK_HO_AGE_AGE, R.CLK_HO_AGE_VALID]))

/-- From R270, R273, R274: the XO, the outputs and the PLLs. An XO failure is shown, makes the learned terms invalid and is reported; XO_RESTORE
clears it after a clean second; an alignment for a tick less than two away is LATE, any other is ARMED; a PLL that loses lock shows it. The clock
unit's domain is on. It rests on the model's choices of log 11, 45. -/
def Obligations.ClockFaultsAndOutputs : Prop :=
  (∀ (s : State), s.bit R.CLK_STATUS_XO_FAIL = true → Runs .xoFail s (fun u => u = s)) ∧
  (∀ (s : State), s.bit R.CLK_STATUS_XO_FAIL = false → Runs .xoFail s (fun u => u.fld R.CLK_STATUS_XO_FAIL = 1 ∧ u.fld R.CLK_HO_KT_VALID = 0 ∧ u.fld R.CLK_HO_AGE_VALID = 0 ∧
    u.fld R.CLK_IRQ_STATUS / 32 % 2 = 1 ∧
    u.fld R.CLK_FREQ_WORD = (if s.fld R.CLK_STATUS_STATE = 4 then unsignedOf 32 (clampInt (-20000000) 20000000 s.w60) else s.fld R.CLK_FREQ_WORD) ∧
    KeptF s u [R.CLK_FREQ_WORD, R.CLK_STATUS_XO_FAIL, R.CLK_HO_KT_VALID, R.CLK_HO_AGE_VALID, R.CLK_IRQ_STATUS])) ∧
  (∀ (s : State), s.domOn 1 = true → Runs (.xoRestore true) s (fun u => u.fld R.CLK_STATUS_XO_FAIL = 0 ∧ Kept s u [R.CLK_STATUS_XO_FAIL]) ∧
    Runs (.xoRestore false) s (fun u => Kept s u [] ∧ u.clk = s.clk)) ∧
  (∀ (s : State) (hi : Word) (n : Nat), s.domOn 1 = true → n = s.fld R.CLK_OUT_ALIGN_AT_LO + hi.toNat * 0x100000000 → (n < s.tick.num + 2 → Runs (.outAlignArm hi) s (fun u =>
      u.fld R.CLK_OUT_STATUS_LATE = 1 ∧ u.fld R.CLK_OUT_ALIGN_AT_HI = hi.toNat ∧ u.clk = s.clk ∧ Kept s u [R.CLK_OUT_ALIGN_AT_HI, R.CLK_OUT_STATUS_LATE])) ∧
    (s.tick.num + 2 ≤ n → Runs (.outAlignArm hi) s (fun u =>
      u.fld R.CLK_OUT_STATUS_ARMED = 1 ∧ u.clk.outAt = n ∧ Kept s u [R.CLK_OUT_ALIGN_AT_HI, R.CLK_OUT_STATUS_ARMED]))) ∧
  (∀ (s : State) (k : Fin 8), Runs (.pllLoss k) s (fun u => bitOf (u.fld R.CLK_PLL_STATUS_LOCK) k.val = false ∧ bitOf (u.fld R.CLK_PLL_STATUS_LOSS) k.val = true ∧
    u.fld R.CLK_IRQ_STATUS / 64 % 2 = 1 ∧ KeptF s u [R.CLK_PLL_STATUS_LOCK, R.CLK_PLL_STATUS_LOSS, R.CLK_IRQ_STATUS]))

/-- From R281, R294, R300: the pair unit's commands. A write of EN while RUN = 1 or with images over the pair budgets answers CONFLICT; otherwise EN
and the reserve follow it. RESYNC and SWAP answer BAD_STATE where the state forbids them and NO_PARTNER without path A; SWAP of a synced pair asks for
a handover; RELEASE by the active engine releases at the next boundary. It rests on the model's choices of log 46. -/
def Obligations.PairCommands : Prop :=
  (∀ (s : State) (on : Bool),
    (s.pairEn = on → Runs (.pairEnWrite on) s (fun u => Kept s u [] ∧ u.pair = s.pair)) ∧
    (s.pairEn ≠ on → s.bit R.TICK_CTRL_RUN = true → Runs (.pairEnWrite on) s (fun u => u.fld R.PAIR_CMD_STATUS = 0x61 ∧ Kept s u [R.PAIR_CMD_STATUS] ∧ u.pair = s.pair))) ∧
  (∀ (s : State), s.pairEn = false → s.pairFits = false → Runs (.pairEnWrite true) s (fun u => u.fld R.PAIR_CMD_STATUS = 0x61 ∧
    Kept s u [R.PAIR_CMD_STATUS] ∧ u.pair = s.pair)) ∧
  (∀ (s : State), s.pairEn = false → s.bit R.TICK_CTRL_RUN = false → s.pairFits = true →
    Runs (.pairEnWrite true) s (fun u => u.pairEn = true ∧ u.fld R.TICK_STATUS_PAIR_RESERVE = 1 ∧ u.pair = s.pair)) ∧
  (∀ (s : State), s.pairEn = true → s.bit R.TICK_CTRL_RUN = false →
    Runs (.pairEnWrite false) s (fun u => u.fld R.PAIR_STATUS_SYNCED = 0 ∧ u.fld R.PAIR_STATUS_TWIN_UP = 0 ∧ u.fld R.PAIR_STATUS_PATHB_UP = 0 ∧
      u.fld R.PAIR_STATUS_PARTNER_SEEN = 0 ∧ u.fld R.PAIR_SETTLE_LEFT = 0 ∧ u.fld R.PAIR_REPLAY = 0)) ∧
  (∀ (s : State),
    (s.pairEn = false → Runs .resync s (fun u => u.fld R.PAIR_CMD_STATUS = 0x61 ∧ Kept s u [R.PAIR_CMD_STATUS] ∧ u.pair = s.pair) ∧
      Runs .swap s (fun u => u.fld R.PAIR_CMD_STATUS = 0x61 ∧ Kept s u [R.PAIR_CMD_STATUS] ∧ u.pair = s.pair)) ∧
    (s.pairState ≠ 4 → Runs .release s (fun u => u.fld R.PAIR_CMD_STATUS = 0x61 ∧ Kept s u [R.PAIR_CMD_STATUS] ∧ u.pair = s.pair)) ∧
    (s.pairEn = true → s.pairState = 4 → Runs .release s (fun u => u.fld R.PAIR_CMD_STATUS = 1 ∧ u.pair = { s.pair with relNext := true } ∧
      Kept s u [R.PAIR_CMD_STATUS])) ∧
    (s.pairEn = true → s.pairState ≠ 0 → s.pathAUp = false → Runs .swap s (fun u => u.fld R.PAIR_CMD_STATUS = 0x60 ∧ Kept s u [R.PAIR_CMD_STATUS] ∧ u.pair = s.pair)) ∧
    (s.pairEn = true → s.pairState = 2 → s.pathAUp = true → s.holdsClaim = false → s.pairSynced = true → s.pair.hand = none → s.pair.transfer = false →
      s.pair.sender = false → Runs .swap s (fun u => u.fld R.PAIR_CMD_STATUS = 1 ∧ u.pair.hand = some (s.tick.num + 5) ∧ u.pair.initiator = true ∧
        u.pair.acked = false ∧ u.pair.req = 3 ∧ u.pair.reqTick = s.tick.num + 5 ∧ Kept s u [R.PAIR_CMD_STATUS])) ∧
    (s.pairEn = true → s.pairState = 2 → s.pathAUp = true → s.holdsClaim = false → s.pair.transfer = false → s.rbufOk = true → s.bit R.PAIR_STATUS_EPOCH_DIFF = false →
      Runs .resync s (fun u => u.fld R.PAIR_STATUS_STATE = 1 ∧ u.fld R.PAIR_STATUS_SYNCED = 0 ∧ u.fld R.PAIR_STATUS_RESYNC_STOPPED = 0 ∧ u.pair.fails = 0 ∧
        u.pair.commanded = true ∧ u.pair.asked = true ∧ u.pair.req = 1 ∧ u.fld R.PAIR_CMD_STATUS = 1)))

/-- From R279, R283–R291: heartbeats and the claim line. With EN clear, or where nothing valid came, a heartbeat changes nothing of the pair; a valid
one on path B while path A is up waits for the boundary; three ticks without one lose a path, with TWIN_UP or PATHB_UP cleared; the sample of the
claim line is shown, a released line with the claim not here makes a synced or degraded standby take the claim at the next boundary, and one that is
held with both paths lost isolates it. It rests on the model's choices of log 46. -/
def Obligations.PairHeartbeatsAndClaim : Prop :=
  (∀ (s : State) (l : List Byte), s.pairEn = false ∨ s.beatParse l = none → Runs (.heartbeatReceive (some l)) s (fun u => u = s)) ∧
  (∀ (s : State), s.pair.inbox = [] → Runs (.heartbeatReceive none) s (fun u => u = s)) ∧
  (∀ (s : State) (f : RxFrame) (r : List RxFrame) (b : Beat), s.pair.inbox = f :: r → s.pairEn = true → s.pathAUp = true →
    s.beatParse ((f.bytes.drop (parseHdr f.bytes).off).take 48) = some b →
    Runs (.heartbeatReceive none) s (fun u => u.pair.inbox = r ∧ u.pair.pendB = s.pair.pendB ++ [b] ∧ u.pair.pathB.got = true ∧ u.regs = s.regs)) ∧
  (∀ (s : State) (l : List Byte) (b : Beat), s.pairEn = true → s.twinMode = true → s.chainUp 0 = true → s.beatParse l = some b → s.pairState = 1 → b.req = 0 →
    b.epoch = s.reg64 R.IMG_EPOCH_LO R.IMG_EPOCH_HI → s.digestFor b.tick = none →
    Runs (.heartbeatReceive (some l)) s (fun u => u.pair.beat = some b ∧ u.pair.pathA.got = true ∧ u.fld R.PAIR_STATUS_PARTNER_STATE = b.state % 8 ∧
      u.pair.noClaim = (if b.claim then 0 else s.pair.noClaim) ∧ Kept s u [R.PAIR_STATUS_PARTNER_STATE, R.PAIR_STATUS_EPOCH_DIFF])) ∧
  (∀ (s : State), s.pairEn = true → 3 ≤ s.pair.pathB.miss → s.pathBUp = true → Runs (.pathLost true) s (fun u => u.fld R.PAIR_STATUS_PATHB_UP = 0 ∧
    u.bit R.PAIR_STATUS_PARTNER_SEEN = s.pathAUp ∧ u.pair = s.pair ∧ Kept s u [R.PAIR_STATUS_PATHB_UP, R.PAIR_STATUS_PARTNER_SEEN])) ∧
  (∀ (s : State), s.pairEn = true → 3 ≤ s.pair.pathA.miss → s.pathAUp = true → s.pair.transfer = false → s.holdsClaim = false → s.pair.initiator = false →
    s.pairState = 2 → s.pathBUp = true → Runs (.pathLost false) s (fun u => u.fld R.PAIR_STATUS_TWIN_UP = 0 ∧ u.fld R.PAIR_STATUS_STATE = 3 ∧ u.pair.sender = false)) ∧
  (∀ (s : State) (pathB : Bool), s.pairEn = false ∨ (if pathB then s.pair.pathB.miss else s.pair.pathA.miss) < 3 ∨
    (if pathB then s.pathBUp else s.pathAUp) = false → Runs (.pathLost pathB) s (fun u => u = s)) ∧
  (∀ (s : State) (low : Bool), s.pairEn = false → Runs (.claimSample low) s (fun u => u.bit R.PAIR_STATUS_CLAIM_LINE = low ∧ Kept s u [R.PAIR_STATUS_CLAIM_LINE])) ∧
  (∀ (s : State), s.pairEn = true → s.pairState = 2 ∨ s.pairState = 3 → s.holdsClaim = false → s.pair.claimNext = false → s.pair.relTick ≠ s.tick.num + 1 →
    Runs (.claimSample false) s (fun u => u.fld R.PAIR_STATUS_CLAIM_LINE = 0 ∧ u.pair.claimNext = true ∧ u.pair.takeover = true)) ∧
  (∀ (s : State), s.pairEn = true → s.pairState = 2 ∨ s.pairState = 3 → s.holdsClaim = false → s.pair.claimNext = false → s.pathAUp = false → s.pathBUp = false →
    Runs (.claimSample true) s (fun u => u.fld R.PAIR_STATUS_CLAIM_LINE = 1 ∧ u.fld R.PAIR_STATUS_STATE = 5 ∧ u.pair.back = s.pairState))

/-- From R294–R299: the resync and the handover. A segment of the shadow goes into the staging area while a transfer runs; a replayed tick takes the
oldest buffered block and leaves the tick number; twelve ticks after a failed or unanswered request the standby asks again; one microsecond after H
the engine that handed over lets the claim go; the preferred, synced side whose wait-to-revert has run out asks for a handover. It rests on the
model's choices of log 46, 47, 48. -/
def Obligations.PairResyncAndHandover : Prop :=
  (∀ (s : State) (g : ShadowSeg), (s.pair.transfer = true → s.pair.replaying = false → s.pathAUp = true →
      Runs (.shadowSegmentReceive g) s (fun u => u.pair = { s.pair with staged := s.pair.staged ++ [g] } ∧ u.cores = s.cores ∧ u.tick = s.tick)) ∧
    (s.pair.transfer = false ∨ s.pair.replaying = true ∨ s.pathAUp = false → Runs (.shadowSegmentReceive g) s (fun u => u = s))) ∧
  (∀ (s : State), s.pair.buffer = [] ∨ s.pair.replaying = false → Runs .replayTick s (fun u => u = s)) ∧
  (∀ (s : State) (c : Captured) (r : List Captured), s.pair.buffer = c :: r → s.pair.replaying = true →
    Runs .replayTick s (fun u => u.pair.buffer = r ∧ u.pair.replayTick = none ∧ u.tick.num = s.tick.num ∧ u.fcu = s.fcu ∧ u.grng = s.grng ∧
      u.fld R.PAIR_REPLAY = Nat.min r.length 0xFFFF)) ∧
  (∀ (s : State), s.pair.beat = none ∨ s.pairEn = false ∨ s.pair.transfer = false ∨ s.fld R.PAIR_SETTLE_LEFT ≠ 0 → Runs .settleEnd s (fun u => u = s)) ∧
  (∀ (s : State) (b : Beat), s.pair.beat = some b → s.pairEn = true → s.pairState = 1 → s.pair.transfer = true → s.pair.loaded = true → s.pair.recording = false →
    s.pair.commanded = false → s.pair.compared ≤ b.tick →
    s.fld R.PAIR_SETTLE_LEFT = 0 → b.epoch = s.reg64 R.IMG_EPOCH_LO R.IMG_EPOCH_HI → b.settle = 0 → s.digestFor b.tick = some b.digest →
    Runs .settleEnd s (fun u => u.fld R.PAIR_STATUS_SYNCED = 1 ∧ u.fld R.PAIR_STATUS_STATE = (if s.pathAUp then 2 else 3) ∧ u.pair.transfer = false ∧ u.pair.fails = 0 ∧
      u.fld R.PAIR_IRQ_STATUS / 16 % 2 = 1)) ∧
  (∀ (s : State), (s.pairEn = true → s.pairState = 1 → s.pair.asked = true → s.pair.transfer = false → s.pair.retry = 0 → s.pathAUp = true →
      s.bit R.PAIR_STATUS_RESYNC_STOPPED = false → s.bit R.PAIR_CTRL_AUTO_RESYNC = true → s.bit R.PAIR_STATUS_EPOCH_DIFF = false → s.rbufOk = true →
      Runs .resyncRetry s (fun u => u.pair = { s.pair with asked := true, retry := 12, req := 1, reqTick := 0 } ∧ u.regs = s.regs)) ∧
    (s.pair.asked = false ∨ s.pair.retry ≠ 0 ∨ s.bit R.PAIR_STATUS_RESYNC_STOPPED = true → Runs .resyncRetry s (fun u => u = s))) ∧
  (∀ (s : State), (s.pair.handRel = false → Runs .handoverRelease s (fun u => u = s)) ∧
    (s.pair.handRel = true → Runs .handoverRelease s (fun u => u.pins.claimDrive = false ∧ u.pins.pairOwn = false ∧ u.fld R.PAIR_STATUS_CLAIM_HELD = 0 ∧
      u.fld R.PAIR_STATUS_UNSETTLED = 0 ∧ u.pair = { s.pair with handRel := false } ∧
      Kept s u [R.PAIR_STATUS_CLAIM_HELD, R.TICK_CLAIM_WD_ARMED, R.PAIR_STATUS_UNSETTLED]))) ∧
  (∀ (s : State), (s.mayRevert = true → s.pairEn = true → s.fld R.PAIR_WTR_LEFT = 0 → s.pathAUp = true → s.pair.hand = none → s.pair.wtrRetry = 0 → s.pair.transfer = false →
      Runs .pairWtrExpiry s (fun u => u.pair.hand = some (s.tick.num + 5) ∧ u.pair.initiator = true ∧ u.pair.req = 3 ∧ u.fld R.PAIR_CMD_STATUS = 1 ∧ Kept s u [R.PAIR_CMD_STATUS])) ∧
    (s.mayRevert = false ∨ s.fld R.PAIR_WTR_LEFT ≠ 0 → Runs .pairWtrExpiry s (fun u => u = s)))

/-- From R307–R310: training of a chain port. Setting EN starts in LOCKING; lock on every lane and alignment within 40 ns lead to the handshake, in
which LINK blocks leave; sixteen good LINK blocks in a row make the port UP; an alignment that fails, a timeout, a lost lock or a lost MARK restarts
from LOCKING with the reason and counts, and takes an UP port down; a MARK of an UP port gives the delay. It rests on the model's choices of log 11,
49. -/
def Obligations.ChainTraining : Prop :=
  (∀ (s : State) (p : Fin 3), s.domOn 9 = true → bitOf (s.fld R.CHAIN_CTRL_EN) p.val = false → Runs (.chainEnable p) s (fun u =>
    bitOf (u.fld R.CHAIN_CTRL_EN) p.val = true ∧ u.fld (R.CHAIN_P_STATUS_TSTATE p.val) = 1 ∧ u.fld (R.CHAIN_P_STATUS_REASON p.val) = 0 ∧
    u.fld (R.CHAIN_P_STATUS_LANE_LOCK p.val) = 0 ∧ (u.chainPort p.val).linkGood = 0 ∧
    Kept s u [R.CHAIN_CTRL_EN, R.CHAIN_P_STATUS_TSTATE p.val, R.CHAIN_P_STATUS_REASON p.val, R.CHAIN_P_STATUS_LANE_LOCK p.val])) ∧
  (∀ (s : State) (p : Fin 3), (s.tstate p.val = 1 → Runs (.laneLock p) s (fun u => u.tstate p.val = 2 ∧ u.fld (R.CHAIN_P_STATUS_LANE_LOCK p.val) = 15 ∧
      u.chain = s.chain ∧ Kept s u [R.CHAIN_P_STATUS_TSTATE p.val, R.CHAIN_P_STATUS_LANE_LOCK p.val])) ∧
    (s.tstate p.val ≠ 1 → Runs (.laneLock p) s (fun u => u = s))) ∧
  (∀ (s : State) (p : Fin 3) (skew : Nat), s.tstate p.val = 2 → s.fld (R.CHAIN_P_TRAIN_CNT p.val) < 0xFFFFFFFF →
    (skew ≤ 40 → Runs (.laneAlign p skew) s (fun u => u.tstate p.val = 3 ∧ u.chain = s.chain ∧ Kept s u [R.CHAIN_P_STATUS_TSTATE p.val])) ∧
    (40 < skew → Runs (.laneAlign p skew) s (fun u => u.tstate p.val = 1 ∧ u.fld (R.CHAIN_P_STATUS_REASON p.val) = 2 ∧
      u.fld (R.CHAIN_P_TRAIN_CNT p.val) = s.fld (R.CHAIN_P_TRAIN_CNT p.val) + 1))) ∧
  (∀ (s : State) (p : Fin 3), s.tstate p.val = 3 → Runs (.linkBlockSend p) s (fun u =>
      (u.chainPort p.val).out = (s.chainPort p.val).out ++ [s.linkBlock p.val] ∧ u.regs = s.regs)) ∧
  (∀ (s : State) (p : Fin 3), s.tstate p.val ≠ 3 → Runs (.linkBlockSend p) s (fun u => u = s)) ∧
  (∀ (s : State) (p : Fin 3) (l b : List Byte), ctrlParse l = some (1, b) → s.tstate p.val = 3 → s.linkCheck p.val b = 0 →
    ((s.chainPort p.val).linkGood < 15 → Runs (.linkBlockReceive p l) s (fun u => (u.chainPort p.val).linkGood = (s.chainPort p.val).linkGood + 1 ∧
      u.tstate p.val = 3 ∧ u.fld (R.CHAIN_P_STATUS_PEER_ID p.val) = leAt b 2 1 % 16 ∧ u.fld R.CHAIN_STATUS = s.fld R.CHAIN_STATUS)) ∧
    (15 ≤ (s.chainPort p.val).linkGood → Runs (.linkBlockReceive p l) s (fun u => u.tstate p.val = 4 ∧ u.chainUp p.val = true ∧
      u.fld (R.CHAIN_P_STATUS_REASON p.val) = 0 ∧ u.fld R.CHAIN_IRQ_STATUS % 2 = 1))) ∧
  (∀ (s : State) (p : Fin 3) (l b : List Byte), ctrlParse l = some (1, b) → s.tstate p.val = 3 → s.linkCheck p.val b ≠ 0 →
    s.fld (R.CHAIN_P_TRAIN_CNT p.val) < 0xFFFFFFFF → Runs (.linkBlockReceive p l) s (fun u => u.tstate p.val = 1 ∧
      u.fld (R.CHAIN_P_STATUS_REASON p.val) = s.linkCheck p.val b ∧ u.fld (R.CHAIN_P_TRAIN_CNT p.val) = s.fld (R.CHAIN_P_TRAIN_CNT p.val) + 1)) ∧
  (∀ (s : State) (p : Fin 3) (l : List Byte), s.tstate p.val < 3 → Runs (.linkBlockReceive p l) s (fun u => u = s)) ∧
  (∀ (s : State) (p : Fin 3) (l : List Byte), 3 ≤ s.tstate p.val → ctrlParse l = none → s.fld (R.CHAIN_P_BALE_ERR p.val) < 0xFFFFFFFF → Runs (.linkBlockReceive p l) s (fun u =>
    (u.chainPort p.val).linkGood = 0 ∧ u.fld (R.CHAIN_P_BALE_ERR p.val) = s.fld (R.CHAIN_P_BALE_ERR p.val) + 1 ∧ u.fld R.CHAIN_IRQ_STATUS / 4 % 2 = 1 ∧
    Kept s u [R.CHAIN_P_BALE_ERR p.val, R.CHAIN_IRQ_STATUS])) ∧
  (∀ (s : State) (p : Fin 3), s.fld (R.CHAIN_P_TRAIN_CNT p.val) < 0xFFFFFFFF →
    (1 ≤ s.tstate p.val → s.tstate p.val ≤ 3 → Runs (.trainingTimeout p) s (fun u => u.tstate p.val = 1 ∧ u.fld (R.CHAIN_P_STATUS_REASON p.val) = 6 ∧
      u.fld R.CHAIN_IRQ_STATUS / 16 % 2 = 1 ∧ u.fld (R.CHAIN_P_TRAIN_CNT p.val) = s.fld (R.CHAIN_P_TRAIN_CNT p.val) + 1)) ∧
    (s.chainUp p.val = true → 3 ≤ (s.chainPort p.val).markMiss → Runs (.chainMarkLost p) s (fun u => u.tstate p.val = 1 ∧ u.fld (R.CHAIN_P_STATUS_REASON p.val) = 3 ∧ u.chainUp p.val = false ∧
      u.fld R.CHAIN_IRQ_STATUS % 2 = 1 ∧ u.fld (R.CHAIN_P_TRAIN_CNT p.val) = s.fld (R.CHAIN_P_TRAIN_CNT p.val) + 1)) ∧
    (2 ≤ s.tstate p.val → Runs (.lockLost p) s (fun u => u.tstate p.val = 1 ∧ u.fld (R.CHAIN_P_STATUS_REASON p.val) = 1 ∧ u.chainUp p.val = false ∧
      u.fld (R.CHAIN_P_TRAIN_CNT p.val) = s.fld (R.CHAIN_P_TRAIN_CNT p.val) + 1)) ∧
    (s.chainUp p.val = false ∨ (s.chainPort p.val).markMiss < 3 → Runs (.chainMarkLost p) s (fun u => u = s)) ∧
    (s.tstate p.val = 0 ∨ s.tstate p.val = 4 → Runs (.trainingTimeout p) s (fun u => u = s)) ∧
    (s.tstate p.val < 2 → Runs (.lockLost p) s (fun u => u = s))) ∧
  (∀ (s : State) (l b : List Byte) (rt : Int) (period : Nat) (err : Int) (up : Bool), s.chainUp 1 = true → ctrlParse l = some (2, b) →
    Runs (.markReceive 1 l rt period err up) s (fun u => ∃ v : State, u = v.refEdge 6 false period err ∧ (v.chainPort 1).mark = leAt b 0 8 ∧
      (v.chainPort 1).markMiss = 0 ∧ Kept s v [R.CHAIN_P_DELAY 1])) ∧
  (∀ (s : State) (p : Fin 3) (l b : List Byte) (rt : Int) (period : Nat) (err : Int) (up : Bool), s.chainUp p.val = true →
    p.val ≠ 1 ∨ s.bit (R.CLK_REF_CFG_EN 6) = false → ctrlParse l = some (2, b) →
    Runs (.markReceive p l rt period err up) s (fun u => (u.chainPort p.val).mark = leAt b 0 8 ∧ (u.chainPort p.val).markMiss = 0 ∧
      (u.chainPort p.val).delays = ((rt - (leAt b 20 4 : Int)) :: (s.chainPort p.val).delays).take 64 ∧ Kept s u [R.CHAIN_P_DELAY p.val])) ∧
  (∀ (s : State) (p : Fin 3) (l : List Byte) (rt : Int) (period : Nat) (err : Int) (up : Bool), s.chainUp p.val = false →
    Runs (.markReceive p l rt period err up) s (fun u => u = s))

/-- From R311–R313: bales. A run that is ready leaves once and is counted; the trailer follows when every run has gone, and at the cutoff, with the
runs that did not leave counted as abandoned; a header, a run and a trailer that pass their checks are taken, any other makes the bale errored, which
counts once; a late run counts as late; three ticks without a bale show LOST. It rests on the model's choices of log 49. -/
def Obligations.ChainBales : Prop :=
  (∀ (s : State) (p : Fin 3), s.chainUp p.val = true → s.baleTx p.val = true → (s.chainPort p.val).txTrail = false → s.bit R.FCU_STATUS_SAFE = false →
    (∀ r rest, (s.chainPort p.val).fwd = r :: rest → Runs (.runSend p true) s (fun u => (u.chainPort p.val).fwd = rest ∧
      (u.chainPort p.val).txRuns = (s.chainPort p.val).txRuns + 1 ∧ (u.chainPort p.val).out = (s.chainPort p.val).out ++ [runBytes r] ∧ u.regs = s.regs)) ∧
    (∀ r, s.readyRun p.val = some r → Runs (.runSend p false) s (fun u => (u.chainPort p.val).sentRuns = r.1 :: (s.chainPort p.val).sentRuns ∧
      (u.chainPort p.val).txRuns = (s.chainPort p.val).txRuns + 1 ∧ (u.chainPort p.val).out = (s.chainPort p.val).out ++ [runBytes (s.insertRun p.val r)] ∧
      u.regs = s.regs)) ∧
    (s.readyRun p.val = none → Runs (.runSend p false) s (fun u => u = s)) ∧
    ((s.chainPort p.val).fwd = [] → Runs (.runSend p true) s (fun u => u = s)) ∧
    (s.unsent p.val = 0 → (s.chainPort p.val).fwd = [] → (p.val = 0 ∨ s.chainUp 1 = false ∨ (s.chainPort 1).rxTrail = true) →
      Runs (.trailerSend p) s (fun u => (u.chainPort p.val).txTrail = true ∧ u.fld (R.CHAIN_P_SLOTS_TX p.val) = (s.chainPort p.val).txSlotCount % 65536 ∧
        Kept s u [R.CHAIN_P_SLOTS_TX p.val])) ∧
    (0 < s.unsent p.val → Runs (.trailerSend p) s (fun u => u = s)) ∧
    (s.fld (R.CHAIN_P_ABANDON p.val) + s.unsent p.val + (s.chainPort p.val).fwd.length < 0x100000000 → Runs (.sendCutoff p) s (fun u =>
      (u.chainPort p.val).txTrail = true ∧ (u.chainPort p.val).fwd = [] ∧
      u.fld (R.CHAIN_P_ABANDON p.val) = s.fld (R.CHAIN_P_ABANDON p.val) + s.unsent p.val + (s.chainPort p.val).fwd.length))) ∧
  (∀ (s : State) (p : Fin 3), s.chainUp p.val = false → (∀ f, Runs (.runSend p f) s (fun u => u = s)) ∧ Runs (.trailerSend p) s (fun u => u = s) ∧
    Runs (.sendCutoff p) s (fun u => u = s) ∧ (∀ l, Runs (.baleHeaderReceive p l) s (fun u => u = s)) ∧ (∀ l b, Runs (.runReceive p l b) s (fun u => u = s)) ∧
    (∀ l, Runs (.trailerReceive p l) s (fun u => u = s)) ∧ Runs (.receiveCutoff p) s (fun u => u = s) ∧ Runs (.baleLost p) s (fun u => u = s)) ∧
  (∀ (s : State) (p : Fin 3), s.chainUp p.val = true → s.baleRx p.val = true → (s.chainPort p.val).rxErr = false → s.fld (R.CHAIN_P_BALE_ERR p.val) < 0xFFFFFFFF →
    (∀ l, l.length = 32 → leAt l 0x1C 4 = crc32c (l.take 0x1C) → leAt l 0 2 = 0x5642 → leAt l 8 8 = s.tick.num →
      Runs (.baleHeaderReceive p l) s (fun u => u.chainPort p.val = { s.chainPort p.val with rxHead := true } ∧ u.regs = s.regs)) ∧
    (∀ l, l.length ≠ 32 → Runs (.baleHeaderReceive p l) s (fun u => u.chainPort p.val = { s.chainPort p.val with rxHead := true, rxErr := true } ∧
      u.fld (R.CHAIN_P_BALE_ERR p.val) = s.fld (R.CHAIN_P_BALE_ERR p.val) + 1 ∧ u.fld R.CHAIN_IRQ_STATUS / 4 % 2 = 1)) ∧
    (∀ l, runParse s.nsmp l = none → s.fld (R.CHAIN_P_RUN_ERR p.val) < 0xFFFFFFFF → Runs (.runReceive p l false) s (fun u =>
      (u.chainPort p.val).rxErr = true ∧ u.fld (R.CHAIN_P_RUN_ERR p.val) = s.fld (R.CHAIN_P_RUN_ERR p.val) + 1 ∧
      u.fld (R.CHAIN_P_BALE_ERR p.val) = s.fld (R.CHAIN_P_BALE_ERR p.val) + 1)) ∧
    (∀ l r, runParse s.nsmp l = some r → Runs (.runReceive p l false) s (fun u => (u.chainPort p.val).rxRuns = (s.chainPort p.val).rxRuns + 1 ∧
      (u.chainPort p.val).rxSlotCount = (s.chainPort p.val).rxSlotCount + r.count ∧ (p.val ≠ 1 → u.regs = s.regs) ∧
      (p.val = 1 → (s.chainPort 2).txTrail = false → u.regs = s.regs ∧
        (u.chainPort 2).fwd = (s.chainPort 2).fwd ++ splitRun s.nsmp (fun slot => decide (FMap.get 0 s.chain.txMap.action slot = 0)) r))) ∧
    (∀ l r, runParse s.nsmp l = some r → s.fld (R.CHAIN_P_LATE p.val) < 0xFFFFFFFF → Runs (.runReceive p l true) s (fun u =>
      u.fld (R.CHAIN_P_LATE p.val) = s.fld (R.CHAIN_P_LATE p.val) + 1 ∧ u.fld R.CHAIN_IRQ_STATUS / 8 % 2 = 1 ∧
      (u.chainPort p.val).rxRuns = (s.chainPort p.val).rxRuns ∧ (p.val ≠ 1 → u.chain = s.chain))) ∧
    (∀ l, l.length = 16 → leAt l 12 4 = crc32c (l.take 12) → leAt l 0 2 = 0x5654 → leAt l 4 4 = (s.chainPort p.val).rxRuns →
      leAt l 8 4 = s.tick.num % 0x100000000 → (s.chainPort p.val).rxHead = true → s.fld (R.CHAIN_P_BALES p.val) < 0xFFFFFFFF →
      Runs (.trailerReceive p l) s (fun u => (u.chainPort p.val).rxValid = true ∧ (u.chainPort p.val).lost = false ∧ (u.chainPort p.val).miss = 0 ∧
        u.fld (R.CHAIN_P_BALES p.val) = s.fld (R.CHAIN_P_BALES p.val) + 1 ∧ u.fld (R.CHAIN_P_SLOTS_RX p.val) = (s.chainPort p.val).rxSlotCount % 65536)) ∧
    ((s.chainPort p.val).rxHead = true → (s.chainPort p.val).rxTrail = false → Runs (.receiveCutoff p) s (fun u => (u.chainPort p.val).rxErr = true ∧
      u.fld (R.CHAIN_P_BALE_ERR p.val) = s.fld (R.CHAIN_P_BALE_ERR p.val) + 1 ∧ u.fld R.CHAIN_IRQ_STATUS / 4 % 2 = 1)) ∧
    ((s.chainPort p.val).rxHead = false → Runs (.receiveCutoff p) s (fun u => u = s)) ∧
    (3 ≤ (s.chainPort p.val).miss → (s.chainPort p.val).lost = false → s.fld (R.CHAIN_P_LOST p.val) < 0xFFFFFFFF → Runs (.baleLost p) s (fun u =>
      (u.chainPort p.val).lost = true ∧ u.fld (R.CHAIN_P_LOST p.val) = s.fld (R.CHAIN_P_LOST p.val) + 1 ∧ u.fld R.CHAIN_IRQ_STATUS / 2 % 2 = 1)) ∧
    ((s.chainPort p.val).miss < 3 → Runs (.baleLost p) s (fun u => u = s)))

/-- From R318–R324: the fabric unit. A beacon reaches it on a ring port that is UP, with EN set; one with a wrong frame is discarded; a follower keeps
the tick's beacon and sends it on; a deputy acts after twelve ticks without its master; a follower shows NO_BEACON after twelve without any; a stop is
armed by the master for a tick at least two away; with no boundaries, the sender of beacons sends one. It rests on the model's choices of log 50. -/
def Obligations.FabricCommands : Prop :=
  (∀ (s : State) (p : Fin 3) (l : List Byte) (a r : Int), p.val = 0 ∨ s.fabEn = false ∨ s.chainUp p.val = false → Runs (.beaconReceive p l a r) s (fun u => u = s)) ∧
  (∀ (s : State) (p : Fin 3) (l b : List Byte) (a r : Int), p.val ≠ 0 → s.fabEn = true → s.chainUp p.val = true →
    (ctrlParse l = some (3, b) → s.beaconOk b = false → Runs (.beaconReceive p l a r) s (fun u => u = s)) ∧
    (ctrlParse l = none → s.fld (R.CHAIN_P_BALE_ERR p.val) < 0xFFFFFFFF → Runs (.beaconReceive p l a r) s (fun u =>
      u.fld (R.CHAIN_P_BALE_ERR p.val) = s.fld (R.CHAIN_P_BALE_ERR p.val) + 1 ∧ u.fab = s.fab)) ∧
    (ctrlParse l = some (3, b) → s.beaconOk b = true → s.fabRole = 1 → s.fab.actStop = false → s.bit R.FAB_STATUS_RESUMING = false → (beaconParse b).acting = false →
      (beaconParse b).origin = s.fld R.FAB_ID_NODE → Runs (.beaconReceive p l a r) s (fun u => u.fab = { s.fab with sinceAny := 0, sinceReal := 0 } ∧
        u.fld R.FAB_STATUS_NO_BEACON = 0 ∧ u.chain = s.chain ∧ Kept s u [R.FAB_STATUS_NO_BEACON]))) ∧
  (∀ (s : State) (p : Fin 3) (l b : List Byte) (a r corr : Int), p.val ≠ 0 → s.fabEn = true → s.fabRole = 0 → s.chainUp p.val = true →
    ctrlParse l = some (3, b) → s.beaconOk b = true → s.fab.used = none → s.fab.actStop = false → s.bit R.TICK_STATUS_RUNNING = true →
    corr = (beaconParse b).corr + (s.fld (R.CHAIN_P_DELAY p.val) : Int) * 65536 / 1000 →
    Runs (.beaconReceive p l a r) s (fun u =>
      u.fab = { s.fab with
        sinceAny := 0, sinceReal := if (beaconParse b).acting then s.fab.sinceReal else 0,
        used := some ((beaconParse b).acting, (beaconParse b).hops, p.val), cand := some (b, a - corr) } ∧
      Kept s u [R.FAB_STATUS_NO_BEACON] ∧ u.fld R.FAB_STATUS_NO_BEACON = 0 ∧
      ((beaconParse b).hops < 15 → (beaconParse b).origin ≠ s.fld R.FAB_ID_NODE → s.chainUp (3 - p.val) = true →
        (u.chainPort (3 - p.val)).out = (s.chainPort (3 - p.val)).out ++
          [ctrlBlock 3 (patchList (patchList b 5 (leBytes 1 ((beaconParse b).hops + 1))) 48 (leBytes 8 (unsignedOf 64 (corr + r))))]))) ∧
  (∀ (s : State), (s.fabEn = true → s.fabRole = 2 → s.bit R.FAB_ID_DEPUTY_EN = true → s.bit R.FAB_STATUS_ACTING = false → 12 ≤ s.fab.sinceReal →
      Runs .deputyTakeover s (fun u => u.fld R.FAB_STATUS_ACTING = 1 ∧ u.fld R.FAB_EVT_CNT_DEPUTY = Nat.min (s.fld R.FAB_EVT_CNT_DEPUTY + 1) 255 ∧ u.fab = s.fab ∧
        KeptF s u [R.FAB_STATUS_ACTING, R.FAB_EVT_CNT_DEPUTY])) ∧
    (s.fabRole ≠ 2 ∨ s.fab.sinceReal < 12 → Runs .deputyTakeover s (fun u => u = s))) ∧
  (∀ (s : State), (s.follows = true → 12 ≤ s.fab.sinceAny → s.bit R.FAB_STATUS_NO_BEACON = false → Runs .noBeacon s (fun u => u.fld R.FAB_STATUS_NO_BEACON = 1 ∧
      u.fld R.FAB_EVT_CNT_NO_BEACON = Nat.min (s.fld R.FAB_EVT_CNT_NO_BEACON + 1) 255 ∧ u.fld R.FAB_IRQ_STATUS / 4 % 2 = 1 ∧
      u.fld R.FAB_STATUS_FENCE = s.fld R.FAB_STATUS_FENCE ∧ u.fab = s.fab)) ∧
    (s.follows = false ∨ s.fab.sinceAny < 12 → Runs .noBeacon s (fun u => u = s))) ∧
  (∀ (s : State) (hi : Word) (n : Nat), (s.fabRole = 1 ∨ (s.fabRole = 2 ∧ s.bit R.FAB_STATUS_ACTING = true)) → n = s.fld R.FAB_STOP_AT_LO + hi.toNat * 0x100000000 →
    (s.tick.num + 2 ≤ n → Runs (.stopAtArm hi) s (fun u => u.fab = { s.fab with stopAt := some n } ∧ u.fld R.FAB_STOP_STATUS_ARMED = 1 ∧
      Kept s u [R.FAB_STOP_AT_HI, R.FAB_STOP_STATUS_ARMED])) ∧
    (n < s.tick.num + 2 → Runs (.stopAtArm hi) s (fun u => u.fld R.FAB_STOP_STATUS_LATE = 1 ∧ u.fab = s.fab))) ∧
  (∀ (s : State) (hi : Word), s.fabRole ≠ 1 → (s.fabRole = 2 → s.bit R.FAB_STATUS_ACTING = false) → Runs (.stopAtArm hi) s (fun u => u.fab = s.fab ∧ Kept s u [])) ∧
  (∀ (s : State), (s.fabSends = false ∨ s.bit R.TICK_STATUS_RUNNING = true → Runs .idleBeaconSend s (fun u => u = s)) ∧
    (s.fabSends = true → s.bit R.TICK_STATUS_RUNNING = false → Runs .idleBeaconSend s (fun u => u.regs = s.regs ∧
      ∃ corr, ∀ p, (p = 1 ∨ p = 2) → s.chainUp p = true →
        (u.chainPort p).out = (s.chainPort p).out ++ [ctrlBlock 3 ({ s with free := s.free + 1 }.beaconBody corr)])))

/-- From R330, R336, R337, R339: starts and stops of an amplifier channel. START of an OFF channel that the map lists and that is set up starts at the
next boundary but one; one that the map does not list, or that is not enabled and scaled, answers with a reason; STOP takes effect at the next
boundary; CLEAR takes a LATCHED or FAULT channel to OFF, except in the safe state; a start that has run its boundaries becomes ACTIVE in step; a
standby follows the partner's phase word by at most one cycle per period and shows PHASE_LOCK. The amplifier domain is on; without the block nothing
happens (R2). It rests on the model's choices of log 51. -/
def Obligations.AmplifierStarts : Prop :=
  (∀ (s : State) (n : Fin 32), s.domOn 11 = true ∨ s.hasAmp = false →
    (s.hasAmp = false ∨ s.ampState n.val ≠ 0 → Runs (.ampStart n) s (fun u => u.amp = s.amp ∧ Kept s u [])) ∧
    (s.hasAmp = true → s.ampState n.val = 0 →
      (s.ampMapped n.val = false → Runs (.ampStart n) s (fun u => u.fld (R.AMP_CH_STATE_REASON n.val) = 7 ∧ u.amp = s.amp ∧ Kept s u [R.AMP_CH_STATE_REASON n.val])) ∧
      (s.ampMapped n.val = true → s.bit R.AMP_CTRL_EN = false ∨ s.fld (R.AMP_CH_SCALE_VFS n.val) = 0 ∨ s.fld (R.AMP_CH_ILIM n.val) = 0 →
        Runs (.ampStart n) s (fun u => u.fld (R.AMP_CH_STATE_REASON n.val) = 8 ∧ u.amp = s.amp ∧ Kept s u [R.AMP_CH_STATE_REASON n.val])) ∧
      (s.ampMapped n.val = true → s.bit R.AMP_CTRL_EN = true → bitOf (s.fld R.AMP_GRP_CTRL_EN) (n.val / 4) = true → s.fld (R.AMP_CH_SCALE_VFS n.val) ≠ 0 →
        s.fld (R.AMP_CH_SCALE_IFS n.val) ≠ 0 → s.fld (R.AMP_CH_ILIM n.val) ≠ 0 → Runs (.ampStart n) s (fun u => u.fld (R.AMP_CH_STATE_REASON n.val) = 0 ∧
          u.ampCh n.val = { s.ampCh n.val with startIn := 2, stopNext := false } ∧ Kept s u [R.AMP_CH_STATE_REASON n.val]))) ∧
    (s.hasAmp = true → Runs (.ampStop n) s (fun u => u.ampCh n.val = { s.ampCh n.val with stopNext := true } ∧ Kept s u [])) ∧
    (s.hasAmp = true → s.ampState n.val = 6 ∨ s.ampState n.val = 7 →
      (s.bit R.FCU_STATUS_SAFE = true → Runs (.ampClear n) s (fun u => u.amp = s.amp ∧ Kept s u [])) ∧
      (s.bit R.FCU_STATUS_SAFE = false → Runs (.ampClear n) s (fun u => u.ampState n.val = 0 ∧ (u.ampCh n.val).ot = false ∧ (u.ampCh n.val).drop = false ∧
        Kept s u [R.AMP_CH_STATE_STATE n.val, R.AMP_IRQ_STATUS, R.AMP_GRP_STATUS_EN_OUT, R.AMP_STATUS_RUNNING])))) ∧
  (∀ (s : State) (n : Fin 32), (s.ampState n.val = 1 → (s.ampCh n.val).startLeft = 0 → Runs (.inStepRelease n) s (fun u => u.ampState n.val = 2 ∧
      (u.ampCh n.val).okTicks = 0 ∧ u.fld R.AMP_IRQ_STATUS % 2 = 1 ∧ Kept s u [R.AMP_CH_STATE_STATE n.val, R.AMP_IRQ_STATUS, R.AMP_GRP_STATUS_EN_OUT, R.AMP_STATUS_RUNNING])) ∧
    (s.ampState n.val ≠ 1 ∨ (s.ampCh n.val).startLeft ≠ 0 → Runs (.inStepRelease n) s (fun u => u = s))) ∧
  (∀ (s : State) (w : Nat), s.hasAmp = false ∨ s.bit R.PAIR_CTRL_EN = false ∨ s.bit R.PAIR_STATUS_CLAIM_HELD = true → Runs (.phaseWordReceive w) s (fun u => u = s)) ∧
  (∀ (s : State) (k : Nat), s.hasAmp = true → s.bit R.PAIR_CTRL_EN = true → s.bit R.PAIR_STATUS_CLAIM_HELD = false → s.bit R.PAIR_STATUS_TWIN_UP = true →
    2 * k < s.stagDiv → k ≤ 16384 / s.stagDiv → s.amp.stagRef + k < s.stagDiv → Runs (.phaseWordReceive (s.amp.stagRef + k)) s (fun u =>
      u.amp.stagRef = s.amp.stagRef + k ∧ u.bit R.AMP_STATUS_PHASE_LOCK = true ∧ Kept s u [R.AMP_STATUS_PHASE_LOCK, R.AMP_IRQ_STATUS]))

/-- From R333, R339, R341–R343: protection. A short trip counts and goes to RETRY_WAIT for 3,000 ticks, or latches after the third retry; the retry
starts the channel again and counts; with DROP_EN the group waits with the tripped channel; 12,000 good ticks clear the count; a low over-temperature
input shows in OT and puts every live channel of its group in FAULT, and its end restarts those that wait for it, with OT_RESTART = 0 none; a sense
input without transitions faults the channels that it serves; an idle frequency outside 300 to 700 kHz, measured at a quiet reference, is shown. It
rests on the model's choices of log 51. -/
def Obligations.AmplifierProtection : Prop :=
  (∀ (s : State) (n : Fin 32), s.hasAmp = true → switching (s.ampState n.val) = true → s.bit (R.AMP_CH_CFG_DROP_EN n.val) = false →
    (s.fld (R.AMP_CH_STATE_RETRIES n.val) = 3 → Runs (.short n) s (fun u => u.ampState n.val = 6 ∧ u.fld (R.AMP_CH_STATE_REASON n.val) = 1 ∧
      u.fld (R.AMP_CH_EVT_TRIPS n.val) = Nat.min (s.fld (R.AMP_CH_EVT_TRIPS n.val) + 1) 65535)) ∧
    (s.fld (R.AMP_CH_STATE_RETRIES n.val) ≠ 3 → Runs (.short n) s (fun u => u.ampState n.val = 5 ∧ u.fld (R.AMP_CH_STATE_REASON n.val) = 1 ∧
      (u.ampCh n.val).retryLeft = 3001 ∧ u.fld (R.AMP_CH_EVT_TRIPS n.val) = Nat.min (s.fld (R.AMP_CH_EVT_TRIPS n.val) + 1) 65535))) ∧
  (∀ (s : State) (n : Fin 32), s.hasAmp = true → switching (s.ampState n.val) = true → s.bit (R.AMP_CH_CFG_DROP_EN n.val) = true →
    s.fld (R.AMP_CH_STATE_RETRIES n.val) ≠ 3 → Runs (.short n) s (fun u => u.ampState n.val = 5 ∧ (u.ampCh n.val).drop = true ∧
      ∀ m, m / 4 = n.val / 4 → m ≠ n.val → switching (s.ampState m) = true → u.ampState m = 5 ∧ (u.ampCh m).leader = some n.val)) ∧
  (∀ (s : State) (n : Fin 32), switching (s.ampState n.val) = false → Runs (.short n) s (fun u => u = s)) ∧
  (∀ (s : State) (n : Fin 32), s.ampState n.val = 5 → (s.ampCh n.val).retryLeft = 0 → (∀ m : Fin 32, (s.ampCh m.val).leader = none) →
    bitOf (s.fld R.AMP_GRP_STATUS_OT) (n.val / 4) = false → s.fld (R.AMP_CH_STATE_REASON n.val) = 1 → Runs (.retry n) s (fun u => u.ampState n.val = 1 ∧
      (u.ampCh n.val).startLeft = 12 ∧ u.fld (R.AMP_CH_STATE_RETRIES n.val) = Nat.min 3 (s.fld (R.AMP_CH_STATE_RETRIES n.val) + 1))) ∧
  (∀ (s : State) (n : Fin 32), s.ampState n.val ≠ 5 ∨ (s.ampCh n.val).retryLeft ≠ 0 → Runs (.retry n) s (fun u => u = s)) ∧
  (∀ (s : State) (n : Fin 32), (s.ampState n.val = 2 → 12000 ≤ (s.ampCh n.val).okTicks → Runs (.retriesClear n) s (fun u =>
      u.fld (R.AMP_CH_STATE_RETRIES n.val) = 0 ∧ u.amp = s.amp ∧ Kept s u [R.AMP_CH_STATE_RETRIES n.val])) ∧
    ((s.ampCh n.val).okTicks < 12000 → Runs (.retriesClear n) s (fun u => u = s))) ∧
  (∀ (s : State) (g : Fin 8), s.hasAmp = true → (∀ i : Fin 4, s.ampLive (4 * g.val + i.val) = false) → Runs (.overTemperature g 0) s (fun u =>
      bitOf (u.fld R.AMP_GRP_STATUS_OT) g.val = true ∧ u.fld R.AMP_IRQ_STATUS / 4 % 2 = 1 ∧ u.amp = s.amp ∧
      KeptF s u [R.AMP_GRP_STATUS_OT, R.AMP_IRQ_STATUS, R.AMP_GRP_STATUS_EN_OUT, R.AMP_STATUS_RUNNING])) ∧
  (∀ (s : State) (g : Fin 8) (x : Nat), s.hasAmp = true → Runs (.overTemperature g x) s (fun u => bitOf (u.fld R.AMP_GRP_STATUS_OT) g.val = true ∧
    ∀ i : Fin 4, s.ampLive (4 * g.val + i.val) = true → u.ampState (4 * g.val + i.val) = 7 ∧ u.fld (R.AMP_CH_STATE_REASON (4 * g.val + i.val)) = 2)) ∧
  (∀ (s : State) (g : Fin 8) (x : Nat), s.hasAmp = false → Runs (.overTemperature g x) s (fun u => u = s)) ∧
  (∀ (s : State) (g : Fin 8), s.hasAmp = true → bitOf (s.fld R.AMP_GRP_STATUS_OT) g.val = true → s.fld R.AMP_OT_RESTART = 0 → Runs (.otRestart g) s (fun u =>
      bitOf (u.fld R.AMP_GRP_STATUS_OT) g.val = false ∧ u.amp = s.amp ∧ Kept s u [R.AMP_GRP_STATUS_OT, R.AMP_GRP_STATUS_EN_OUT, R.AMP_STATUS_RUNNING])) ∧
  (∀ (s : State) (g : Fin 8), s.hasAmp = true → bitOf (s.fld R.AMP_GRP_STATUS_OT) g.val = true → s.fld R.AMP_OT_RESTART ≠ 0 →
    s.bit R.FCU_STATUS_SAFE = false → Runs (.otRestart g) s (fun u => bitOf (u.fld R.AMP_GRP_STATUS_OT) g.val = false ∧
      ∀ i : Fin 4, s.ampState (4 * g.val + i.val) = 7 → (s.ampCh (4 * g.val + i.val)).ot = true →
        u.ampState (4 * g.val + i.val) = 1 ∧ (u.ampCh (4 * g.val + i.val)).startLeft = 12)) ∧
  (∀ (s : State) (g : Fin 8), bitOf (s.fld R.AMP_GRP_STATUS_OT) g.val = false → Runs (.otRestart g) s (fun u => u = s)) ∧
  (∀ (s : State) (k : Fin 3) (n : Fin 32), s.hasAmp = true → k.val < 2 → s.ampLive n.val = true → Runs (.senseLoss k n) s (fun u => u.ampState n.val = 7 ∧
      u.fld (R.AMP_CH_STATE_REASON n.val) = 3 + k.val ∧ u.fld R.AMP_IRQ_STATUS / 8 % 2 = 1)) ∧
  (∀ (s : State) (n : Fin 32), s.hasAmp = true → Runs (.senseLoss 2 n) s (fun u => u.fld R.AMP_IRQ_STATUS / 8 % 2 = 1 ∧
    ∀ m : Fin 32, s.ampLive m.val = true → s.fld (R.AMP_CH_CFG_RAIL m.val) = n.val % 4 → u.ampState m.val = 7 ∧
      u.fld (R.AMP_CH_STATE_REASON m.val) = 5)) ∧
  (∀ (s : State) (k : Fin 3) (n : Fin 32), s.hasAmp = false → Runs (.senseLoss k n) s (fun u => u = s)) ∧
  (∀ (s : State) (n : Fin 32) (f : Nat), s.hasAmp = true → s.ampState n.val = 2 → s.ampQuiet n.val = true →
    (3000 ≤ f → f ≤ 7000 → Runs (.idleFrequencyMeasure n f) s (fun u => u.fld (R.AMP_CH_FIDLE n.val) = f ∧ u.amp = s.amp ∧ Kept s u [R.AMP_CH_FIDLE n.val])) ∧
    (f < 3000 ∨ (7000 < f ∧ f < 0x10000) → Runs (.idleFrequencyMeasure n f) s (fun u => u.fld (R.AMP_CH_FIDLE n.val) = f ∧ u.fld (R.AMP_CH_STATE_IDLE_RANGE n.val) = 1 ∧
      u.fld R.AMP_IRQ_STATUS / 32 % 2 = 1))) ∧
  (∀ (s : State) (n : Fin 32) (f : Nat), s.ampState n.val ≠ 2 ∨ s.ampQuiet n.val = false → Runs (.idleFrequencyMeasure n f) s (fun u => u = s))

/-- From R347–R351: Granary accesses. A read of a good word answers it and changes nothing; a whole word replaces the stored one; the atomic add
answers the value before it, and with both ports in one cycle port A goes first; outside the Granary the answer is a decode error, in a half that is
not ON an error with KIND POWER. Bytes outside the access stay. It rests on the model's choices of log 20. -/
def Obligations.GranaryAccesses : Prop :=
  (∀ (s : State) (a : Nat), inGran a = true → s.granGood 0 a → Runs (.granaryAccess (some ⟨a, .read⟩) none 0) s (fun u =>
    u = { s with mem14 := { s.mem14 with respA := ⟨.ok, s.le a 4⟩ } })) ∧
  (∀ (s : State) (a : Nat) (bs : List Byte), inGran a = true → s.halfState (granHalf a) = 0 → a % 8 = 0 → bs.length = 8 →
    Runs (.granaryAccess (some ⟨a, .write bs⟩) none 0) s (fun u => u.mem14.respA = ⟨.ok, 0⟩ ∧ u.bytes a 8 = bs ∧ u.isBad a = false ∧ u.regs = s.regs ∧
      ∀ x, x < a ∨ a + 8 ≤ x → u.byte x = s.byte x)) ∧
  (∀ (s : State) (a : Nat) (v w : Word), inGran a = true → s.granGood 0 a → s.granGood 1 a → Runs (.granaryAccess (some ⟨a, .add v⟩) (some ⟨a, .add w⟩) 0) s (fun u =>
    u.mem14.respA = ⟨.ok, s.le a 4⟩ ∧ u.mem14.respB = ⟨.ok, (s.le a 4 + v.toNat) % 0x100000000⟩ ∧
    u.le a 4 = (s.le a 4 + v.toNat + w.toNat) % 0x100000000 ∧ u.regs = s.regs ∧ ∀ x, x < a ∨ a + 4 ≤ x → u.byte x = s.byte x)) ∧
  (∀ (s : State) (a : Nat) (v : Word), inGran a = true → s.granGood 1 a → Runs (.granaryAccess none (some ⟨a, .swap v⟩) 0) s (fun u =>
    u.mem14.respB = ⟨.ok, s.le a 4⟩ ∧ u.le a 4 = v.toNat ∧ u.regs = s.regs ∧ ∀ x, x < a ∨ a + 4 ≤ x → u.byte x = s.byte x)) ∧
  (∀ (s : State) (a : Nat) (act : GranAct) (f : Nat), inGran a = false → Runs (.granaryAccess (some ⟨a, act⟩) none f) s (fun u =>
    u = { s with mem14 := { s.mem14 with respA := ⟨.decode, 0⟩ } })) ∧
  (∀ (s : State) (a : Nat), inGran a = true → s.halfState (granHalf a) ≠ 0 → Runs (.granaryAccess (some ⟨a, .read⟩) none 0) s (fun u =>
    u.mem14.respA = ⟨.error, 0⟩ ∧ u.fld R.GRAN_ERR_INFO_KIND = 1 ∧ u.fld R.GRAN_ERR_INFO_PORT = 0 ∧ u.fld R.GRAN_ERR_ADDR = granWordOf (granAlign a) ∧
    u.fld R.GRAN_IRQ_STATUS / 4 % 2 = 1 ∧ u.mem = s.mem))

/-- From R351–R354: the power of the Granary's halves, and the Gleaner. A request of 3 changes nothing, a request to turn off a declared half is
refused; otherwise RETAIN keeps the contents, OFF loses them, and a request for ON of a half that is not ON wakes it; a wake ends ON, or in WIPING
where the contents were lost. A scrub read of a good word moves to the next; a corrected one counts. A march segment that passes moves on, one that
fails is replaced by the spare. It rests on the model's choices of log 21. -/
def Obligations.HalvesAndGleaner : Prop :=
  (∀ (s : State), Runs (.granPwrWrite 15) s (fun u => Kept s u [] ∧ u.mem = s.mem)) ∧
  (∀ (s : State), s.halfDeclared 0 = false → s.halfDeclared 1 = false → Runs (.granPwrWrite 5) s (fun u => u.halfState 0 = 1 ∧ u.halfState 1 = 1 ∧ u.mem = s.mem ∧
    u.fld R.GRAN_PWR_A_REQ = 1 ∧ u.fld R.GRAN_PWR_B_REQ = 1 ∧ u.fld R.GRAN_PWR_STATUS_REFUSED = s.fld R.GRAN_PWR_STATUS_REFUSED)) ∧
  (∀ (s : State), s.halfDeclared 0 = true → Runs (.granPwrWrite 13) s (fun u => u.fld R.GRAN_PWR_STATUS_REFUSED = 1 ∧ u.halfState 0 = s.halfState 0 ∧
    u.halfState 1 = s.halfState 1 ∧ u.mem = s.mem ∧ u.fld R.GRAN_PWR_A_REQ = s.fld R.GRAN_PWR_A_REQ)) ∧
  (∀ (s : State), s.halfDeclared 0 = false → Runs (.granPwrWrite 14) s (fun u => u.halfState 0 = 2 ∧ bitOf u.mem14.lost 0 = true ∧
    (∀ a, granBase ≤ a → a < granBase + 0x1000000 → u.byte a = 0) ∧ ∀ a, a < granBase ∨ granBase + 0x1000000 ≤ a → u.byte a = s.byte a)) ∧
  (∀ (s : State), s.halfState 0 = 1 ∨ s.halfState 0 = 2 → Runs (.granPwrWrite 12) s (fun u => u.halfState 0 = 3 ∧ u.fld R.GRAN_PWR_A_REQ = 0 ∧ u.mem = s.mem)) ∧
  (∀ (s : State) (h : Fin 2), (s.halfState h.val = 3 → Runs (.halfWakeComplete h) s (fun u => u.halfState h.val = (if bitOf s.mem14.lost h.val then 4 else 0) ∧ u.mem = s.mem)) ∧
    (s.halfState h.val ≠ 3 → Runs (.halfWakeComplete h) s (fun u => u = s)) ∧
    (bitOf s.mem14.lost h.val = true → s.halfState h.val = 4 → Runs (.halfWipeComplete h) s (fun u => u.halfState h.val = 0 ∧ bitOf u.mem14.lost h.val = false ∧ u.mem = s.mem)) ∧
    (bitOf s.mem14.lost h.val = false → Runs (.halfWipeComplete h) s (fun u => u = s))) ∧
  (∀ (s : State) (f : Nat), s.bit R.GLEAN_CTRL_GRAN_SCRUB = false → Runs (.scrubRead f) s (fun u => u = s)) ∧
  (∀ (s : State) (w : Nat), s.bit R.GLEAN_CTRL_GRAN_SCRUB = true → s.scrubWord = some w → s.granGood 1 (granBase + 8 * w) →
    Runs (.scrubRead 0) s (fun u => u = { s with mem14 := { s.mem14 with scrubGran := (w + 1) % 0x400000 } }) ∧
    (s.fld R.GLEAN_CE_CNT < 0xFFFFFFFF → s.fld R.GRAN_ECC_CE < 0xFFFFFFFF → Runs (.scrubRead 1) s (fun u => u.fld R.GLEAN_CE_CNT = s.fld R.GLEAN_CE_CNT + 1 ∧
      u.fld R.GRAN_ECC_CE = s.fld R.GRAN_ECC_CE + 1 ∧ u.fld R.GRAN_IRQ_STATUS % 2 = 1 ∧ u.mem14.scrubGran = (w + 1) % 0x400000 ∧ u.mem = s.mem))) ∧
  (∀ (s : State) (f : Nat), s.bit R.GLEAN_CTRL_DDR_SCRUB = false ∨ s.ddrSize = 0 → Runs (.ddrScrubRead f) s (fun u => u = s)) ∧
  (∀ (s : State), s.bit R.GLEAN_CTRL_DDR_SCRUB = true → s.ddrSize ≠ 0 → s.bit R.PWR_STATUS_STANDBY = false →
    s.ddrGood (ddrBase + 64 * (s.mem14.scrubDdr % (s.ddrSize / 64))) → Runs (.ddrScrubRead 0) s (fun u =>
      u = { s with mem14 := { s.mem14 with scrubDdr := (s.mem14.scrubDdr % (s.ddrSize / 64) + 1) % (s.ddrSize / 64) } })) ∧
  (∀ (s : State) (pass : Bool), s.bit R.GLEAN_CTRL_MARCH_EN = false ∨ s.bit R.GLEAN_STATUS_REPAIRED = true → Runs (.marchSegment pass) s (fun u => u = s)) ∧
  (∀ (s : State), s.bit R.GLEAN_CTRL_MARCH_EN = true → s.bit R.GLEAN_STATUS_REPAIRED = false → s.mem14.marchNext < 4095 → s.halfState 0 = 0 →
    Runs (.marchSegment true) s (fun u => u.fld R.GLEAN_STATUS_SEGMENT = s.mem14.marchNext ∧ u.mem14.marchNext = s.mem14.marchNext + 1 ∧ Kept s u [R.GLEAN_STATUS_SEGMENT]) ∧
    Runs (.marchSegment false) s (fun u => u.fld R.GLEAN_STATUS_REPAIRED = 1 ∧ u.fld R.GLEAN_FAIL_ADDR = granBase + 4096 * s.mem14.marchNext ∧
      u.fld R.GLEAN_IRQ_STATUS % 2 = 1 ∧ u.mem14 = s.mem14 ∧ u.mem = s.mem))

/-- From R355–R358, R365, R375: hoppers and LPDDR5. Enabling a well-configured hopper empties it, any other shows CFG_ERR; disabling keeps the
entries; a push with room appends and a full or disabled hopper shows OVERFLOW; a pop takes the oldest entry, on an empty one UNDERRUN with the last
value, each as its side sees the count; a descriptor moves as four words; a push that reaches LEVEL sets the hopper's bit; a write or read that the
host errors list is refused with its rule. LPDDR5 answers reads and writes of fitted lines, and a decode error outside; a new refresh rate is shown.
It rests on the model's choices of log 8, 20, 22. -/
def Obligations.HoppersAndLpddr5 : Prop :=
  (∀ (s : State) (n : Fin 64), s.writeUnsafe true (R.HOP_Q_CFG_EN n.val).addr (s.hopEnWord n.val) = none → s.hopEn n.val = false →
    (s.hopCfgOk n.val = true → Runs (.hopperEnable n) s (fun u => u.hopEn n.val = true ∧ u.hop n.val = Hop.empty ∧ Kept s u [R.HOP_Q_CFG_EN n.val])) ∧
    (s.hopCfgOk n.val = false → Runs (.hopperEnable n) s (fun u => u.hopEn n.val = false ∧ u.fld (R.HOP_Q_STATUS_CFG_ERR n.val) = 1 ∧ u.hops = s.hops))) ∧
  (∀ (s : State) (n : Fin 64) (r : Nat), s.writeUnsafe true (R.HOP_Q_CFG_EN n.val).addr (s.hopEnWord n.val) = some r → exec (.hopperEnable n) s = .refused (.unpredictable r)) ∧
  (∀ (s : State) (n : Fin 64), s.writeUnsafe true (R.HOP_Q_CFG_EN n.val).addr 0 = none → Runs (.hopperDisable n) s (fun u => u.hopEn n.val = false ∧ u.hops = s.hops ∧
    Kept s u [R.HOP_Q_CFG_EN n.val])) ∧
  (∀ (s : State) (n : Fin 64) (e lag hidden : Nat), hidden = (if s.bit (R.HOP_Q_CFG_CLK n.val) then lag else 0) →
    (s.hopEn n.val = true → (s.hop n.val).entries.length + hidden < s.fld (R.HOP_Q_CFG_DEPTH n.val) →
      Runs (.hopperPush n e lag false) s (fun u => (u.hop n.val).entries = (s.hop n.val).entries ++ [e] ∧ Kept s u [R.HOP_LEVEL_LO, R.HOP_LEVEL_HI] ∧
        (n.val < 32 → s.fld (R.HOP_Q_LEVEL n.val) = (s.hop n.val).entries.length + hidden + 1 → bitOf (u.fld R.HOP_LEVEL_LO) n.val = true))) ∧
    (s.hopEn n.val = false ∨ s.fld (R.HOP_Q_CFG_DEPTH n.val) ≤ (s.hop n.val).entries.length + hidden →
      Runs (.hopperPush n e lag false) s (fun u => u.hops = s.hops ∧ u.fld (R.HOP_Q_STATUS_OVERFLOW n.val) = 1)) ∧
    (∀ x r, s.hopEn n.val = true → (s.hop n.val).entries = x :: r → hidden ≤ r.length →
      Runs (.hopperPop n lag) s (fun u => u.mem14.respBus = ⟨.ok, x⟩ ∧ u.hop n.val = { s.hop n.val with entries := r, last := x } ∧ u.regs = s.regs)) ∧
    (s.hopEn n.val = false ∨ (s.hop n.val).entries.length ≤ hidden → Runs (.hopperPop n lag) s (fun u =>
      u.mem14.respBus = ⟨.ok, (s.hop n.val).last⟩ ∧ u.hops = s.hops ∧ u.fld (R.HOP_Q_STATUS_UNDERRUN n.val) = 1)) ∧
    (∀ x r, s.hopEn n.val = true → (s.hop n.val).entries = x :: r →
      (s.bit (R.HOP_Q_CFG_CLK n.val) = true → (s.hop n.val).entries.length + lag < s.fld (R.HOP_Q_CFG_DEPTH n.val)) →
      Runs (.hopperPush n e lag true) s (fun u => u.mem14.respBus = ⟨.ok, x⟩ ∧ (u.hop n.val).entries = r ++ [e]))) ∧
  (∀ (s : State) (n : Fin 64) (v : Word), s.writeUnsafe true (0x40091014 + 0x20 * n.val) v.toNat = none →
    (s.hopWords n.val = 1 → s.hopEn n.val = true → (s.hop n.val).entries.length < s.fld (R.HOP_Q_CFG_DEPTH n.val) →
      Runs (.hopPushWrite n v) s (fun u => (u.hop n.val).entries = (s.hop n.val).entries ++ [v.toNat])) ∧
    (s.hopWords n.val = 4 → (s.hop n.val).pushBuf.length < 3 →
      Runs (.hopPushWrite n v) s (fun u => u.hop n.val = { s.hop n.val with pushBuf := (s.hop n.val).pushBuf ++ [v.toNat] } ∧ u.regs = s.regs)) ∧
    (∀ a b c, s.hopWords n.val = 4 → (s.hop n.val).pushBuf = [a, b, c] → s.hopEn n.val = true →
      (s.hop n.val).entries.length < s.fld (R.HOP_Q_CFG_DEPTH n.val) → Runs (.hopPushWrite n v) s (fun u => (u.hop n.val).pushBuf = [] ∧
        (u.hop n.val).entries = (s.hop n.val).entries ++ [a + 0x100000000 * (b + 0x100000000 * (c + 0x100000000 * v.toNat))]))) ∧
  (∀ (s : State) (n : Fin 64), s.readUnsafe (0x40091018 + 0x20 * n.val) = none →
    (∀ x r, s.hopWords n.val = 1 → s.hopEn n.val = true → (s.hop n.val).entries = x :: r →
      Runs (.hopPopRead n) s (fun u => u.mem14.respBus = ⟨.ok, x⟩ ∧ u.hop n.val = { s.hop n.val with entries := r, last := x })) ∧
    (∀ w r, s.hopWords n.val = 4 → (s.hop n.val).popBuf = w :: r →
      Runs (.hopPopRead n) s (fun u => u.mem14.respBus = ⟨.ok, w⟩ ∧ u.hop n.val = { s.hop n.val with popBuf := r })) ∧
    (∀ x r, s.hopWords n.val = 4 → (s.hop n.val).popBuf = [] → s.hopEn n.val = true → (s.hop n.val).entries = x :: r →
      Runs (.hopPopRead n) s (fun u => u.mem14.respBus = ⟨.ok, x % 0x100000000⟩ ∧ (u.hop n.val).entries = r ∧ (u.hop n.val).popBuf.length = 3))) ∧
  (∀ (s : State) (n : Fin 64) (r : Nat), s.readUnsafe (0x40091018 + 0x20 * n.val) = some r → exec (.hopPopRead n) s = .refused (.unpredictable r)) ∧
  (∀ (s : State) (a : Nat), s.inDdr a = true → s.inDdr (a + 3) = true → a % 64 ≤ 60 → s.ddrGood a → Runs (.lpddr5Access ⟨a, 4, none⟩ 0) s (fun u =>
    u = { s with mem14 := { s.mem14 with respDdr := ⟨.ok, s.le a 4⟩ } })) ∧
  (∀ (s : State) (a : Nat) (l : List Byte), l.length = 64 → a % 64 = 0 → s.inDdr a = true → s.inDdr (a + 63) = true → Runs (.lpddr5Access ⟨a, 64, some l⟩ 0) s (fun u =>
    u.bytes a 64 = l ∧ u.mem14.respDdr = ⟨.ok, 0⟩ ∧ ∀ x, x < a ∨ a + 64 ≤ x → u.byte x = s.byte x)) ∧
  (∀ (s : State) (q : BusReq) (f : Nat), s.inDdr q.addr = false → Runs (.lpddr5Access q f) s (fun u => u = { s with mem14 := { s.mem14 with respDdr := ⟨.decode, 0⟩ } })) ∧
  (∀ (s : State) (c : Fin 32), (s.fld R.DDR_STATUS_REFRATE = c.val → Runs (.refreshRateChange c) s (fun u => u = s)) ∧
    (s.fld R.DDR_STATUS_REFRATE ≠ c.val → Runs (.refreshRateChange c) s (fun u => u.fld R.DDR_STATUS_REFRATE = c.val ∧ u.fld R.DDR_IRQ_STATUS / 4 % 2 = 1 ∧
      Kept s u [R.DDR_STATUS_REFRATE, R.DDR_IRQ_STATUS])))

/-- From R367, R368: host requests. Without the link nothing happens. With it: an offset that the table does not map completes with Unsupported
Request and is counted; a word of the Granary is read and a whole 64-bit word written through BAR2; a half that is not ON completes a read poisoned
with data 0; a read to the default target completes with Unsupported Request and is recorded; a timeout completes a read with Completer Abort; the
MSI-X table and its pending bits are read and written; and a request that the host errors list is refused with its rule. It rests on the model's
choices of log 8, 16, 17. -/
def Obligations.HostRequests : Prop :=
  (∀ (s : State) (q : HostReq) (f : Nat) (t : Bool), s.bit R.PCIE_LINK_UP = false → Runs (.hostRequest q f t) s (fun u => u = s)) ∧
  (∀ (s : State) (q : HostReq) (f : Nat) (t : Bool), s.bit R.PCIE_LINK_UP = true → s.hostDest q.bar q.offset q.len = .unmapped →
    s.fld R.PCIE_UR_CNT < 0xFFFFFFFF → Runs (.hostRequest q f t) s (fun u => u.fld R.PCIE_UR_CNT = s.fld R.PCIE_UR_CNT + 1 ∧ Kept s u [R.PCIE_UR_CNT] ∧
      u.mem = s.mem ∧ (q.data = none → u.pcie.resp = ⟨.unsupported, 0⟩))) ∧
  (∀ (s : State) (o : Nat), s.bit R.PCIE_LINK_UP = true → s.busFull 1 = false → o % 8 ≤ 4 → o + 4 ≤ 0x2000000 → s.granGood 1 (granBase + o) →
    Runs (.hostRequest ⟨2, o, 4, none⟩ 0 false) s (fun u => u.pcie.resp = ⟨.ok, s.le (granBase + o) 4⟩ ∧ u.regs = s.regs ∧ u.mem = s.mem)) ∧
  (∀ (s : State) (o : Nat), s.bit R.PCIE_LINK_UP = true → s.busFull 1 = false → o % 8 ≤ 4 → o + 4 ≤ 0x2000000 → s.halfState (granHalf (granBase + o)) ≠ 0 →
    Runs (.hostRequest ⟨2, o, 4, none⟩ 0 false) s (fun u => u.pcie.resp = ⟨.poisoned, 0⟩ ∧ u.fld R.GRAN_ERR_INFO_KIND = 1 ∧ u.fld R.GRAN_ERR_INFO_PORT = 1 ∧
      u.mem = s.mem)) ∧
  (∀ (s : State) (o : Nat) (l : List Byte), s.bit R.PCIE_LINK_UP = true → s.busFull 1 = false → o % 8 = 0 → o + 8 ≤ 0x2000000 → l.length = 8 →
    s.halfState (granHalf (granBase + o)) = 0 → s.hostDataUnsafe (granBase + o) 8 = none →
    Runs (.hostRequest ⟨2, o, 8, some (l.map some)⟩ 0 false) s (fun u => u.bytes (granBase + o) 8 = l ∧ u.regs = s.regs ∧
      ∀ x, x < granBase + o ∨ granBase + o + 8 ≤ x → u.byte x = s.byte x)) ∧
  (∀ (s : State) (b o n a f : Nat) (t : Bool), s.bit R.PCIE_LINK_UP = true → s.busFull 1 = false → s.hostDest b o n = .bus a → s.target 1 a n = .default →
    s.fld R.PCIE_UR_CNT < 0xFFFFFFFF → Runs (.hostRequest ⟨b, o, n, none⟩ f t) s (fun u => u.pcie.resp = ⟨.unsupported, 0⟩ ∧ u.fld R.PCIE_UR_CNT = s.fld R.PCIE_UR_CNT + 1 ∧
      u.fld R.BUSM_ERR_INFO_KIND = 0 ∧ u.fld R.BUSM_ERR_INFO_MASTER = 1 ∧ u.fld R.BUSM_ERR_ADDR = a % 0x100000000 ∧ u.mem = s.mem)) ∧
  (∀ (s : State) (q : HostReq) (a f : Nat), s.bit R.PCIE_LINK_UP = true → s.busFull 1 = false → s.hostDest q.bar q.offset q.len = .bus a →
    s.target 1 a q.len ≠ .default → Runs (.hostRequest q f true) s (fun u => (q.data = none → u.pcie.resp = ⟨.abort, 0⟩) ∧ u.fld R.BUSM_ERR_INFO_KIND = 1 ∧ u.fld R.BUSM_ERR_INFO_MASTER = 1 ∧
      u.fld R.BUSM_ERR_INFO_WRITE = (if q.data.isSome then 1 else 0) ∧ u.fld R.BUSM_IRQ_STATUS / 2 % 2 = 1 ∧ u.mem = s.mem)) ∧
  (∀ (s : State) (w : Fin 256), s.bit R.PCIE_LINK_UP = true → s.msixWord w.val < 0x100000000 →
    Runs (.hostRequest ⟨0, 0x8000000 + 4 * w.val, 4, none⟩ 0 false) s (fun u => u = { s with pcie := { s.pcie with resp := ⟨.ok, s.msixWord w.val⟩ } })) ∧
  (∀ (s : State) (w : Fin 256) (v : Word), s.bit R.PCIE_LINK_UP = true → w.val % 4 ≠ 3 →
    Runs (.hostRequest ⟨0, 0x8000000 + 4 * w.val, 4, some ((leBytes 4 v.toNat).map some)⟩ 0 false) s (fun u => u.msixWord w.val = v.toNat ∧ u.regs = s.regs ∧
      ∀ x, x ≠ w.val → u.msixWord x = s.msixWord x)) ∧
  (∀ (s : State) (v : Fin 64), s.bit R.PCIE_LINK_UP = true → s.msixWord (4 * v.val + 3) = 1 → bitOf s.pcie.pba v.val = true →
    Runs (.hostRequest ⟨0, 0x8000000 + 4 * (4 * v.val + 3), 4, some ((leBytes 4 0).map some)⟩ 0 false) s (fun u => u.msixWord (4 * v.val + 3) = 0 ∧
      bitOf u.pcie.pba v.val = false ∧
      u.pcie.sent = s.pcie.sent ++ [(s.msixWord (4 * v.val) + s.msixWord (4 * v.val + 1) * 0x100000000, s.msixWord (4 * v.val + 2))])) ∧
  (∀ (s : State), s.bit R.PCIE_LINK_UP = true → Runs (.hostRequest ⟨0, 0x8001000, 8, none⟩ 0 false) s (fun u => u.pcie.resp = ⟨.ok, s.pcie.pba % 256 ^ 8⟩)) ∧
  (∀ (s : State) (q : HostReq) (f r : Nat), s.busFull 1 = false → s.hostUnsafe q = some r → exec (.hostRequest q f false) s = .refused (.unpredictable r))

/-- From R366, R370, R411: doorbells set their bits; a function level reset resets the PCIE block, all but the state of the link, and keeps the rest;
the link goes up with its width and speed, and down with a fault message; the outbound DMA starts on a legal length, and ends with its bytes at the
host and DONE, or with ERR. It rests on the model's choices of log 23, 63. -/
def Obligations.HostPort : Prop :=
  (∀ (s : State) (v : Word), s.writeUnsafe false 0x401C0014 v.toNat = none → s.bit R.PWR_STATUS_STANDBY = false → s.grng.waitHost = false →
    Runs (.dbH2gSetWrite v) s (fun u => u.fld R.PCIE_DB_H2G = (s.fld R.PCIE_DB_H2G ||| v.toNat) % 0x100000000 ∧ Kept s u [R.PCIE_DB_H2G] ∧ u.mem = s.mem)) ∧
  (∀ (s : State) (v : Word) (r : Nat), s.writeUnsafe false 0x401C0014 v.toNat = some r → exec (.dbH2gSetWrite v) s = .refused (.unpredictable r)) ∧
  (∀ (s : State) (v : Word), Runs (.dbG2hSetWrite v) s (fun u => u.fld R.PCIE_DB_G2H = (s.fld R.PCIE_DB_G2H ||| v.toNat) % 0x100000000 ∧
    Kept s u [R.PCIE_DB_G2H] ∧ u.mem = s.mem)) ∧
  (∀ (s : State), Runs .functionLevelReset s (fun u => u.fld R.PCIE_DB_H2G = 0 ∧ u.fld R.PCIE_DB_G2H = 0 ∧ u.fld R.PCIE_UR_CNT = 0 ∧
    (∀ n : Fin 64, u.fld (R.PCIE_VEC_MAP_EN n.val) = 0) ∧ (∀ w, u.msixWord w = if w % 4 = 3 then 1 else 0) ∧ u.pcie.pba = 0 ∧
    (∀ f : Fld, f.addr / 0x10000 ≠ 0x401C ∨ f.addr = 0x401C0000 → f.lo < 32 → u.fld f = s.fld f) ∧ u.mem = s.mem ∧ u.cores = s.cores)) ∧
  (∀ (s : State), (s.bit R.PCIE_LINK_UP = true → Runs .pcieLinkDown s (fun u => u.fld R.PCIE_LINK_UP = 0 ∧ KeptF s u [R.PCIE_LINK_UP, R.PCIE_LINK_LTSSM] ∧
      u.mem = s.mem ∧ ∃ t : State, u = t.fcu' 49 1 0)) ∧
    (s.bit R.PCIE_LINK_UP = false → Runs .pcieLinkDown s (fun u => u = s))) ∧
  (∀ (s : State) (w v : Nat), w < 16 → v < 8 → Runs (.pcieLinkUp w v) s (fun u => u.fld R.PCIE_LINK_UP = 1 ∧ u.fld R.PCIE_LINK_WIDTH = w ∧ u.fld R.PCIE_LINK_SPEED = v ∧
    Kept s u [R.PCIE_LINK_UP, R.PCIE_LINK_WIDTH, R.PCIE_LINK_SPEED, R.PCIE_LINK_LTSSM] ∧ u.mem = s.mem)) ∧
  (∀ (s : State), s.bit R.GRNG_ODMA_CTRL_START = false → Runs .odmaStart s (fun u => Kept s u [R.GRNG_ODMA_CTRL_START] ∧
    (4 ≤ s.fld R.GRNG_ODMA_LEN → s.fld R.GRNG_ODMA_LEN ≤ 0x100000 → s.fld R.GRNG_ODMA_LEN % 4 = 0 → u.fld R.GRNG_ODMA_CTRL_START = 1))) ∧
  (∀ (s : State) (b : Bool), s.bit R.GRNG_ODMA_CTRL_START = false → Runs (.odmaDone b) s (fun u => u = s)) ∧
  (∀ (s : State), s.bit R.GRNG_ODMA_CTRL_START = true → Runs (.odmaDone false) s (fun u => u.fld R.GRNG_ODMA_CTRL_START = 0 ∧ u.fld R.GRNG_ODMA_CTRL_ERR = 1 ∧
    u.fld R.GRNG_ODMA_CTRL_DONE = s.fld R.GRNG_ODMA_CTRL_DONE ∧ u.grng.hostOut = s.grng.hostOut ∧ u.mem = s.mem)) ∧
  (∀ (s : State) (a : Nat), s.bit R.GRNG_ODMA_CTRL_START = true → a = s.fld R.GRNG_ODMA_SRC_LO + s.fld R.GRNG_ODMA_SRC_HI * 0x100000000 →
    inGran a = true → a % 8 ≤ 4 → s.fld R.GRNG_ODMA_LEN = 4 → s.granGood 1 a → Runs (.odmaDone true) s (fun u => u.fld R.GRNG_ODMA_CTRL_START = 0 ∧
      u.fld R.GRNG_ODMA_CTRL_DONE = 1 ∧ u.grng.hostOut = s.grng.hostOut ++ [(s.reg64 R.GRNG_ODMA_DST_LO R.GRNG_ODMA_DST_HI, leBytes 4 (s.le a 4))] ∧ u.mem = s.mem))

/-- R379–R384, R390, R391: a fault message. One that Table 15-1 does not list changes nothing. A message from a source that no open window covers sets
its sticky bit, is counted, becomes the FIRST record if that is empty and leaves it alone if not, becomes LAST, and asks for its reaction and, from
MAJOR on, an ERR_N pulse. A message from a covered source that is not FATAL is recorded as SHADOWED and counted, and asks for nothing. -/
def Obligations.FaultMessages : Prop :=
  (∀ (s : State) (src : Fin 128) (kind : Fin 32) (a : Nat), severityOf src.val kind.val = 4 → Runs (.faultMessage src kind a) s (fun u => u = s)) ∧
  (∀ (s : State) (src : Fin 128) (kind : Fin 32) (a : Nat), severityOf src.val kind.val ≠ 4 → Runs (.faultMessage src kind a) s (fun u =>
    bitOf (u.fld (R.FCU_STICKY (src.val / 32))) (src.val % 32) = true)) ∧
  (∀ (s : State) (g : Bool), Runs (.readClear g 0x401A005C) s (fun u => u.mem14.respBus = ⟨.ok, FMap.get 0 s.fcu.count (s.fld R.FCU_SRC_SEL) * 0x10000 +
    FMap.get 0 s.fcu.sev (s.fld R.FCU_SRC_SEL) * 0x4000 + FMap.get 0 s.fcu.kind (s.fld R.FCU_SRC_SEL) * 16⟩ ∧ u.regs = s.regs ∧ u.mem = s.mem)) ∧
  (∀ (s : State) (src : Fin 128) (kind : Fin 32) (a : Nat), a < 0x1000000000 → severityOf src.val kind.val ≠ 4 →
    (s.shadowed src.val = false ∨ severityOf src.val kind.val = 3) → s.fcu.lastNew = false → s.fcu.firstNew = false → Runs (.faultMessage src kind a) s (fun u =>
      bitOf (u.fld (R.FCU_STICKY (src.val / 32))) (src.val % 32) = true ∧
      u.fld R.FCU_LAST_LO = a % 0x100000000 ∧ u.fld R.FCU_LAST_HI_ADDR_HI = a / 0x100000000 ∧ u.fld R.FCU_LAST_HI_SOURCE = src.val ∧
      u.fld R.FCU_LAST_HI_KIND = kind.val ∧ u.fld R.FCU_LAST_HI_SEV = severityOf src.val kind.val ∧ u.fld R.FCU_LAST_HI_VALID = 1 ∧
      FMap.get 0 u.fcu.kind src.val = kind.val ∧ FMap.get 0 u.fcu.sev src.val = severityOf src.val kind.val ∧
      FMap.get 0 u.fcu.count src.val = Nat.min (FMap.get 0 s.fcu.count src.val + 1) 0xFFFF ∧
      (s.fld R.FCU_FIRST_HI_VALID = 0 → u.fld R.FCU_FIRST_LO = a % 0x100000000 ∧ u.fld R.FCU_FIRST_HI_SOURCE = src.val ∧ u.fld R.FCU_FIRST_HI_KIND = kind.val ∧
        u.fld R.FCU_FIRST_HI_VALID = 1 ∧ u.reg64 R.FCU_FIRST_TICK_LO R.FCU_FIRST_TICK_HI = s.tick.num % 0x10000000000000000) ∧
      (s.fld R.FCU_FIRST_HI_VALID = 1 → ∀ f ∈ [R.FCU_FIRST_LO, R.FCU_FIRST_HI_ADDR_HI, R.FCU_FIRST_HI_SOURCE, R.FCU_FIRST_HI_KIND, R.FCU_FIRST_HI_SEV,
        R.FCU_FIRST_HI_VALID, R.FCU_FIRST_TICK_LO, R.FCU_FIRST_TICK_HI], u.fld f = s.fld f) ∧
      (s.reactionOf src.val kind.val = 0 → u.fcu.todo = s.fcu.todo ∧ u.fcu.pulse = s.fcu.pulse ∧ u.fld R.FCU_IRQ_STATUS = s.fld R.FCU_IRQ_STATUS) ∧
      (s.reactionOf src.val kind.val ≠ 0 → u.fld R.FCU_IRQ_STATUS % 2 = 1 ∧ (2 ≤ severityOf src.val kind.val → u.fcu.pulse = true)) ∧
      (2 ≤ s.reactionOf src.val kind.val → u.fcu.todo = s.fcu.todo ++ [⟨s.reactionOf src.val kind.val, src.val, a⟩]) ∧
      KeptF s u [] ∧ u.mem = s.mem ∧ u.cores = s.cores ∧ u.tick = s.tick)) ∧
  (∀ (s : State) (src : Fin 128) (kind : Fin 32) (a : Nat), a < 0x1000000000 → severityOf src.val kind.val < 3 → s.shadowed src.val = true → s.fcu.lastNew = false →
    s.fld R.FCU_SHADOW_CNT < 0xFFFFFFFF → Runs (.faultMessage src kind a) s (fun u => bitOf (u.fld (R.FCU_STICKY (src.val / 32))) (src.val % 32) = true ∧
      u.fld R.FCU_LAST_HI_SOURCE = src.val ∧ u.fld R.FCU_LAST_HI_KIND = 31 ∧ FMap.get 0 u.fcu.kind src.val = 31 ∧
      u.fld R.FCU_SHADOW_CNT = s.fld R.FCU_SHADOW_CNT + 1 ∧ u.fld R.FCU_IRQ_STATUS / 4 % 2 = 1 ∧ u.fcu.todo = s.fcu.todo ∧ u.fcu.pulse = s.fcu.pulse ∧
      u.fld R.FCU_FIRST_HI_VALID = s.fld R.FCU_FIRST_HI_VALID ∧ u.fld R.FCU_FIRST_LO = s.fld R.FCU_FIRST_LO ∧
      u.fld R.FCU_LAST_HI_SEV = severityOf src.val kind.val ∧ u.fld R.FCU_LAST_LO = a % 0x100000000 ∧ FMap.get 0 u.fcu.sev src.val = severityOf src.val kind.val ∧
      (s.grng.logBuf.length < 256 → ∃ r, u.grng.logBuf = s.grng.logBuf ++ [r] ∧ r.type = 1 ∧
        r.pay = leBytes 4 (a % 0x100000000) ++ leBytes 4 (faultWord src.val 31 (severityOf src.val kind.val) a false)) ∧
      KeptF s u [] ∧ u.mem = s.mem))

/-- From R383, R385–R387, R389, R391–R393: the collector's commands. A pulse ends; windows that have counted their boundaries close; CLEAR_FIRST
empties FIRST; RELEASE_HOLD asks for the end of the hold; ENTER_SAFE sets SAFE, interrupts the Grange, withholds transmission, lets the claim go and
puts every amplifier channel in FAULT; a write of INJECT with the key arms one of the checkers that the table lists, any other is ignored; a
self-fault sets its bit. A message whose reaction is HOLD has the hold taken, and a window opened, when the command ends; one of a hopper whose
reaction is BLOCK_RESET empties it. It rests on the model's choices of log 9, 52, 53, 54. -/
def Obligations.CollectorCommands : Prop :=
  (∀ (s : State), Runs .errPulseEnd s (fun u => u = { s with fcu := { s.fcu with pulse := false } })) ∧
  (∀ (s : State), Runs .shadowWindowClose s (fun u => u = { s with fcu := { s.fcu with windows := s.fcu.windows.filter (fun w => w.left != 0) } })) ∧
  (∀ (s : State), Runs .releaseHold s (fun u => u.fcu.relNext = true ∧ u.fcu.holdNext = false ∧ u.regs = s.regs ∧ u.mem = s.mem)) ∧
  (∀ (s : State), Runs .clearFirst s (fun u => u.fld R.FCU_FIRST_HI_VALID = 0 ∧ u.fld R.FCU_FIRST_LO = 0 ∧ u.fld R.FCU_FIRST_HI_KIND = 0 ∧
    u.fld R.FCU_FIRST_HI_SOURCE = 0 ∧ u.fld R.FCU_FIRST_TICK_LO = 0 ∧ u.fld R.FCU_FIRST_TICK_HI = 0 ∧ KeptF s u [] ∧
    (∀ k : Fin 4, u.fld (R.FCU_STICKY k.val) = s.fld (R.FCU_STICKY k.val)) ∧ u.fcu = s.fcu ∧ u.mem = s.mem)) ∧
  (∀ (s : State), s.bit R.FCU_STATUS_SAFE = true → Runs .enterSafe s (fun u => u = s.respond .ok 0)) ∧
  (∀ (s : State), s.bit R.FCU_STATUS_SAFE = false → Runs .enterSafe s (fun u => u.fld R.FCU_STATUS_SAFE = 1 ∧
    u.grng.nmi = true ∧ u.fld R.FCU_IRQ_STATUS / 2 % 2 = 1 ∧ (∀ n : Fin 4, u.fld (R.NET_STATUS_TX_GATED n.val) = 1) ∧ u.fld R.PAIR_STATUS_CLAIM_HELD = 0 ∧
    (s.hasAmp = true → ∀ n : Fin 32, u.ampState n.val = 7 ∧ u.fld (R.AMP_CH_STATE_REASON n.val) = 6) ∧ u.cores = s.cores ∧ u.tick = s.tick)) ∧
  (∀ (s : State) (v : Word), v.toNat / 256 % 256 = 0x5A → v.toNat % 16 ≤ 5 ∨ v.toNat % 16 = 7 ∨ (v.toNat % 16 = 6 ∧ s.bit R.SYS_REMAP = false) → s.bit R.FCU_INJECT_ARMED = false → Runs (.injectArm v) s (fun u =>
    u.fld R.FCU_INJECT_CHECKER = v.toNat % 16 ∧ u.fld R.FCU_INJECT_ARMED = 1 ∧ u.fld R.FCU_INJECT_DONE = 0 ∧
    Kept s u [R.FCU_INJECT_CHECKER, R.FCU_INJECT_ARMED, R.FCU_INJECT_DONE] ∧ u.fcu = s.fcu)) ∧
  (∀ (s : State) (v : Word), v.toNat / 256 % 256 = 0x5A → v.toNat % 16 = 8 ∨ v.toNat % 16 = 9 → s.bit R.FCU_INJECT_ARMED = false → Runs (.injectArm v) s (fun u =>
    u.fld (if v.toNat % 16 = 8 then R.FCU_SELF_PARITY else R.FCU_SELF_DUAL) = 1 ∧ u.fld R.FCU_INJECT_ARMED = 0 ∧ u.fld R.FCU_INJECT_DONE = 1 ∧
    u.fld R.FCU_IRQ_STATUS / 8 % 2 = 1)) ∧
  (∀ (s : State) (v : Word), v.toNat / 256 % 256 ≠ 0x5A ∨ 10 ≤ v.toNat % 16 ∨ s.bit R.FCU_INJECT_ARMED = true → Runs (.injectArm v) s (fun u => u = s.respond .ok 0)) ∧
  (∀ (s : State) (d : Bool), s.bit R.FCU_STATUS_SAFE = true → Runs (.selfFault d) s (fun u => u.fld (if d then R.FCU_SELF_DUAL else R.FCU_SELF_PARITY) = 1 ∧
    Kept s u [if d then R.FCU_SELF_DUAL else R.FCU_SELF_PARITY] ∧ u.fcu = s.fcu)) ∧
  (∀ (s : State) (d : Bool), s.bit R.FCU_STATUS_SAFE = false → s.fcu.todo = [] → Runs (.selfFault d) s (fun u =>
    (∃ a, u.fcu.todo = [⟨4, 0, a⟩]) ∧ bitOf (u.fld (R.FCU_STICKY 0)) 0 = true ∧ u.fcu.pulse = true ∧ KeptF s u [] ∧ u.mem = s.mem)) ∧
  (∀ (s : State) (src : Fin 128) (kind : Fin 32) (a : Nat), s.fcu.todo = [] → s.shadowed src.val = false → s.reactionOf src.val kind.val = 3 → s.fld R.FCU_SHADOW_TICKS ≠ 0 →
    ∃ t, exec (.faultMessage src kind a) s = .next t ∧ t.fcu.holdNext = true ∧ t.fcu.windows = s.fcu.windows ++ [⟨s.conseqOf src.val, s.fld R.FCU_SHADOW_TICKS⟩] ∧
      t.fcu.todo = [] ∧ t.pending = s.pending ∧ t.mem = s.mem) ∧
  (∀ (s : State) (h : Fin 64) (kind : Fin 32), s.fcu.todo = [] → s.shadowed 46 = false → s.reactionOf 46 kind.val = 2 →
    ∃ t, exec (.faultMessage 46 kind h.val) s = .next t ∧ t.hop h.val = Hop.empty ∧ (∀ n, n ≠ h.val → t.hop n = s.hop n) ∧ t.mem = s.mem)

/-- From R406: the mailbox. A command that comes while the Grange takes none has no effect; an unknown CMD is answered UNKNOWN, a length above 63
BAD_ARG. An answer of the host's mailbox stands in its words and rings doorbell bit 0, one to MGMT goes to the sender. INFO, LOG_READ, LOG_DUMP,
LOG_WRITE, CFG_READ, CFG_WRITE, CFG_COMMIT and SENS_READ do what Table 16-4 gives, and answer; arguments out of their range are answered BAD_ARG. It
rests on the model's choices of log 55, 56, 57, 58. -/
def Obligations.MailboxCommands : Prop :=
  (∀ (s : State) (via : Mbx), s.mbxOpen via = false → Runs (.info via) s (fun u => u = s) ∧ Runs (.cfgCommit via) s (fun u => u = s)) ∧
  (∀ (s : State) (via : Mbx) (c t n : Nat), s.mbxOpen via = true → mbxKnown c = false → t < 256 → n < 65536 →
    arg (s.mbxWords via) 0 = c * 0x1000000 + t * 0x10000 + n → Runs (.info via) s (fun u => u = s.mbxAnswer (mgmtOf via) c t (1, []))) ∧
  (∀ (s : State) (via : Mbx) (t n : Nat), s.mbxOpen via = true → s.fld R.LCS_STATE_STATE ≠ 4 → t < 256 → 63 < n → n < 65536 →
    arg (s.mbxWords via) 0 = 0x1000000 + t * 0x10000 + n → Runs (.info via) s (fun u => u = s.mbxAnswer (mgmtOf via) 1 t (2, []))) ∧
  (∀ (s : State) (c t st : Nat), c < 256 → t < 256 → st < 256 → (s.mbxAnswer false c t (st, [])).fld (R.PCIE_MBX_G2H 0) = c * 0x1000000 + t * 0x10000 + st * 0x100 ∧
    bitOf ((s.mbxAnswer false c t (st, [])).fld R.PCIE_DB_G2H) 0 = true ∧ Kept s (s.mbxAnswer false c t (st, [])) [R.PCIE_MBX_G2H 0, R.PCIE_DB_G2H] ∧
    (s.mbxAnswer true c t (st, [])).grng.mgmtAns = [c * 0x1000000 + t * 0x10000 + st * 0x100] ∧ (s.mbxAnswer true c t (st, [])).regs = s.regs) ∧
  (∀ (s : State) (via : Mbx) (t : Nat), s.mbxHas via 1 t [] → Runs (.info via) s (fun u => u = s.mbxAnswer (mgmtOf via) 1 t
    (0, [s.regWord 0x401D0000, s.fld R.GRNG_FW_VER, s.regWord 0x401B0004, Config.uid % 0x100000000, Config.uid / 0x100000000 % 0x100000000]))) ∧
  (∀ (s : State) (via : Mbx) (t q : Nat) (r : List Byte), s.mbxHas via 2 t [q, 1] → s.injArmed 7 = false → s.logRead q = some r →
    Runs (.logRead via) s (fun u => u = s.mbxAnswer (mgmtOf via) 2 t (0, wordsOf r))) ∧
  (∀ (s : State) (via : Mbx) (t q lo hi : Nat) (r : List Byte), s.mbxHas via 3 t [q, 1, lo, hi] → s.injArmed 7 = false → s.bit R.GRNG_ODMA_CTRL_START = false →
    s.logRead q = some r → Runs (.logDump via true) s (fun u => ∃ x : State, x = { s with grng := { s.grng with hostOut := s.grng.hostOut ++ [(lo + hi * 0x100000000, r)] } } ∧
      u = (x.setFld R.GRNG_ODMA_CTRL_DONE 1).mbxAnswer (mgmtOf via) 3 t (0, []))) ∧
  (∀ (s : State) (via : Mbx) (t : Nat) (a : List Nat) (ok : Bool), s.mbxHas via 3 t a → a.length ≠ 4 → Runs (.logDump via ok) s (fun u => u = s.mbxAnswer (mgmtOf via) 3 t (2, []))) ∧
  (∀ (s : State) (via : Mbx) (t : Nat) (a : List Nat), s.mbxHas via 4 t a → a.length = 7 → s.grng.logBuf.length < 256 → Runs (.logWrite via) s (fun u =>
    u = (s.logOffer 6 (bytesOf a)).mbxAnswer (mgmtOf via) 4 t (0, [(s.fld R.GRNG_LOG_HEAD + s.grng.logBuf.length) % 0x100000000]) ∧
    (s.logOffer 6 (bytesOf a)).grng.logBuf.length = s.grng.logBuf.length + 1)) ∧
  (∀ (s : State) (via : Mbx) (t o n : Nat), s.mbxHas via 5 t [o, n] → 1 ≤ n → n ≤ 60 → o + 4 * n ≤ 16368 →
    Runs (.cfgRead via) s (fun u => u = s.mbxAnswer (mgmtOf via) 5 t (0, wordsOf (FMap.getRun 0 s.grng.work o (4 * n))))) ∧
  (∀ (s : State) (via : Mbx) (t o w : Nat), s.mbxHas via 6 t [o, w] → o + 4 ≤ 16368 →
    Runs (.cfgWrite via) s (fun u => ∃ x : State, x = { s with grng := { s.grng with
        work := FMap.setRun 0 s.grng.work o (leBytes 4 w), workLen := Nat.max s.grng.workLen (o + 4) } } ∧ u = x.mbxAnswer (mgmtOf via) 6 t (0, []))) ∧
  (∀ (s : State) (via : Mbx) (t g : Nat) (b : List Byte), s.mbxHas via 7 t [] → s.cfgValid 0 = some (g, b) → s.cfgValid 1 = none →
    Runs (.cfgCommit via) s (fun u => ∃ w, w = s.setBytes (cfgBase 1) (cfgImage (g + 1) s.cfgWork) ∧ u = w.mbxAnswer (mgmtOf via) 7 t (0, [(g + 1) % 0x100000000]))) ∧
  (∀ (s : State) (via : Mbx) (t : Nat) (k : Fin 34), s.mbxHas via 8 t [k.val, 1] → Runs (.sensRead via) s (fun u =>
    u = (s.setFld (R.SENS_S_STATUS_REJ_CNT k.val) 0).mbxAnswer (mgmtOf via) 8 t (0, [s.fld (R.SENS_S_VALUE k.val), s.regWord (0x401E0108 + 0x10 * k.val)]))) ∧
  (∀ (s : State) (via : Mbx) (t a n : Nat), s.mbxHas via 8 t [a, n] → 34 < a + n → Runs (.sensRead via) s (fun u => u = s.mbxAnswer (mgmtOf via) 8 t (2, [])))

/-- From R406–R410: updates and the life cycle. UPD_STAGE takes a package that verifies, refuses the active slot, and a second one while the first is
programmed; its end answers it. UPD_ACTIVATE, UPD_CONFIRM and the trial's timeout; LIB_LOAD, SNAP_SAVE and SNAP_LOAD; LC_REQUEST and KEY_WRITE, which
MGMT may not send; CNT_INC, WIPE_CFG, RESTART and CHIP_RESET. An UPD_STAGE or a LIB_LOAD whose address overlaps memory in use is the host error of
R416 (log 55). It rests on the model's choices of log 55, 59, 60. -/
def Obligations.UpdatesAndLifeCycle : Prop :=
  (∀ (s : State) (via : Mbx) (t k lo hi n : Nat), s.mbxHas via 0x10 t [k, lo, hi, n] → k ≤ 1 → k = s.grng.active →
    Runs (.updStage via) s (fun u => u = s.mbxAnswer (mgmtOf via) 0x10 t (2, []))) ∧
  (∀ (s : State) (via : Mbx) (t k lo hi n : Nat), s.mbxHas via 0x10 t [k, lo, hi, n] → k ≤ 1 → k ≠ s.grng.active → 0 < n → n ≤ 0x100000 → s.grng.staging.isSome = true →
    Runs (.updStage via) s (fun u => u = s.mbxAnswer (mgmtOf via) 0x10 t (3, []))) ∧
  (∀ (s : State) (via : Mbx) (t k lo hi n : Nat) (l : List Byte), s.mbxHas via 0x10 t [k, lo, hi, n] → k ≤ 1 → k ≠ s.grng.active → 0 < n → n ≤ 0x100000 →
    s.packageClash (lo + hi * 0x100000000) n = false → s.grng.staging = none → s.bit R.GRNG_STATUS_TRIAL = false → s.readShared 0 (lo + hi * 0x100000000) n 0 = (some l, s) → s.pkgVerifies l = true →
    s.fld (R.LCS_CNT 0) ≤ pkgSecVer l → Runs (.updStage via) s (fun u => u = { s with grng := { s.grng with staging := some (k, l, t, mgmtOf via), staged := none } })) ∧
  (∀ (s : State) (via : Mbx) (t k lo hi n : Nat), s.mbxHas via 0x10 t [k, lo, hi, n] → k ≤ 1 → k ≠ s.grng.active → 0 < n → n ≤ 0x100000 →
    s.grng.staging = none → s.bit R.GRNG_STATUS_TRIAL = false → s.packageClash (lo + hi * 0x100000000) n = true →
    exec (.updStage via) s = .refused (.unpredictable 416)) ∧
  (∀ (s : State) (ok : Bool), s.grng.staging = none → Runs (.updStageComplete ok) s (fun u => u = s)) ∧
  (∀ (s : State) (ok m : Bool) (j t : Nat) (l : List Byte), s.grng.staging = some (2 + 256 * j, l, t, m) → j ≤ 255 → l.length < 0x100000000 →
    Runs (.updStageComplete ok) s (fun u => u.grng.staging = none ∧ u.norLe (libEntry j + 4) = (if ok then l.length else 0) ∧ u.mem = s.mem ∧
      (∀ i, u.fwSlot i = s.fwSlot i) ∧ ∃ w : State, u = w.mbxAnswer m 0x10 t (if ok then 0 else 7, []))) ∧
  (∀ (s : State) (ok m : Bool) (k t : Nat) (l : List Byte), s.grng.staging = some (k, l, t, m) → k ≤ 1 → Runs (.updStageComplete ok) s (fun u => u.grng.staging = none ∧
    u.grng.staged = (if ok then some k else none) ∧ u.fwSlot k = (if ok then ⟨true, l⟩ else FwSlot.none) ∧ u.fwSlot (1 - k) = s.fwSlot (1 - k) ∧ u.mem = s.mem ∧
    ∃ w : State, u = w.mbxAnswer m 0x10 t (if ok then 0 else 7, []))) ∧
  (∀ (s : State) (via : Mbx) (t : Nat), s.mbxHas via 0x11 t [] → s.grng.staged = none → Runs (.updActivate via) s (fun u => u = s.mbxAnswer (mgmtOf via) 0x11 t (6, []))) ∧
  (∀ (s : State) (via : Mbx) (t k : Nat), s.mbxHas via 0x11 t [] → s.grng.staged = some k → Runs (.updActivate via) s (fun u =>
    u = ((s.mbxAnswer (mgmtOf via) 0x11 t (0, [])).grangeDown).slotStart k true)) ∧
  (∀ (s : State) (via : Mbx) (t : Nat), s.mbxHas via 0x12 t [] → s.bit R.GRNG_STATUS_TRIAL = false → Runs (.updConfirm via) s (fun u =>
    u = s.mbxAnswer (mgmtOf via) 0x12 t (6, []))) ∧
  (∀ (s : State) (t : Nat) (ws : List Word), s.mbxHas (.mgmt ws) 0x12 t [] → s.bit R.GRNG_STATUS_TRIAL = true → s.fld (R.LCS_CNT 0) < 0x100000000 →
    Runs (.updConfirm (.mgmt ws)) s (fun u => u.fld R.GRNG_STATUS_TRIAL = 0 ∧ u.grng.active = s.fld R.GRNG_STATUS_SLOT ∧
      u.fld (R.LCS_CNT 0) = Nat.max (s.fld (R.LCS_CNT 0)) (pkgSecVer (s.fwSlot (s.fld R.GRNG_STATUS_SLOT)).bytes) ∧ u.grng.mgmtAns = [0x12 * 0x1000000 + t * 0x10000])) ∧
  (∀ (s : State), s.bit R.GRNG_STATUS_TRIAL = false → Runs .trialTimeout s (fun u => u = s)) ∧
  (∀ (s : State), s.bit R.GRNG_STATUS_TRIAL = true → Runs .trialTimeout s (fun u => u = s.rollBack ∧ u.fld R.GRNG_STATUS_ROLLED_BACK = 1 ∧
    u.fld R.GRNG_STATUS_TRIAL = 0 ∧ u.fld R.GRNG_STATUS_RUN = 0 ∧ ((s.fwSlot s.grng.active).ok = false → u.fld R.SYS_REMAP = 0))) ∧
  (∀ (s : State) (via : Mbx) (t k lo hi : Nat), s.mbxHas via 0x13 t [k, lo, hi] → 255 < k ∨ s.norLe (libEntry k + 4) = 0 →
    Runs (.libLoad via) s (fun u => u = s.mbxAnswer (mgmtOf via) 0x13 t (2, []))) ∧
  (∀ (s v : State) (via : Mbx) (t k lo hi n : Nat) (l : List Byte), s.mbxHas via 0x13 t [k, lo, hi] → k ≤ 255 → n = s.norLe (libEntry k + 4) → 0 < n → n ≤ 0x10000000 →
    l = s.norBytes (s.norLe (libEntry k)) n → crc32c l = s.norLe (libEntry k + 12) → s.packageClash (lo + hi * 0x100000000) n = false →
    s.writeShared 0 (lo + hi * 0x100000000) l 0 = (true, v) →
    Runs (.libLoad via) s (fun u => u = v.mbxAnswer (mgmtOf via) 0x13 t (0, [n]))) ∧
  (∀ (s : State) (via : Mbx) (t k lo hi n : Nat) (l : List Byte), s.mbxHas via 0x13 t [k, lo, hi] → k ≤ 255 → n = s.norLe (libEntry k + 4) → 0 < n → n ≤ 0x10000000 →
    l = s.norBytes (s.norLe (libEntry k)) n → (crc32c l ≠ s.norLe (libEntry k + 12) → Runs (.libLoad via) s (fun u => u = s.mbxAnswer (mgmtOf via) 0x13 t (7, []))) ∧
    (crc32c l = s.norLe (libEntry k + 12) → s.packageClash (lo + hi * 0x100000000) n = true → exec (.libLoad via) s = .refused (.unpredictable 416))) ∧
  (∀ (s : State) (via : Mbx) (t : Nat) (k : Fin 8), s.mbxHas via 0x14 t [k.val] → Runs (.snapSave via) s (fun u =>
    ∃ w, w = s.setNor (0x200000 + 0x10000 * k.val) (cfgImage 0 s.cfgWork) ∧ u = w.mbxAnswer (mgmtOf via) 0x14 t (0, []))) ∧
  (∀ (s : State) (via : Mbx) (t k : Nat), s.mbxHas via 0x15 t [k] → 7 < k → Runs (.snapLoad via) s (fun u => u = s.mbxAnswer (mgmtOf via) 0x15 t (2, []))) ∧
  (∀ (s : State) (via : Mbx) (t : Nat) (k : Fin 8) (b : List Byte), s.mbxHas via 0x15 t [k.val] →
    cfgBody (s.norBytes (0x200000 + 0x10000 * k.val) (16 + Nat.min (s.norLe (0x200000 + 0x10000 * k.val + 8)) 16368)) = some b →
    Runs (.snapLoad via) s (fun u => ∃ w, w = (s.cfgTake b).cfgCommit.2 ∧ u = w.mbxAnswer (mgmtOf via) 0x15 t (0, []))) ∧
  (∀ (s : State) (ws : List Word) (t : Nat) (a : List Nat), (s.mbxHas (.mgmt ws) 0x20 t a → Runs (.lcRequest (.mgmt ws)) s (fun u => u = s.mbxAnswer true 0x20 t (6, []))) ∧
    (s.mbxHas (.mgmt ws) 0x21 t a → Runs (.keyWrite (.mgmt ws)) s (fun u => u = s.mbxAnswer true 0x21 t (6, []))) ∧
    (s.mbxHas (.mgmt ws) 0x23 t a → Runs (.wipeCfg (.mgmt ws)) s (fun u => u = s.mbxAnswer true 0x23 t (6, [])))) ∧
  (∀ (s : State) (t n : Nat), s.mbxHas .host 0x20 t [n] → s.grng.staging = none → lcPath (s.fld R.LCS_STATE_STATE) n = some false → (n = 1 → s.fld R.LCS_KEYVALID ≠ 0) →
    Runs (.lcRequest .host) s (fun u => u.fld R.LCS_STATE_PENDING = 1 ∧ u.lcs.target = n ∧ u.fld R.LCS_STATE_STATE = s.fld R.LCS_STATE_STATE ∧
      u.fld R.SYS_RSTCAUSE_LAST = 6 ∧ u.fld R.TICK_CTRL_RUN = 0)) ∧
  (∀ (s : State) (t n : Nat), s.mbxHas .host 0x20 t [n] → s.grng.staging = none → lcPath (s.fld R.LCS_STATE_STATE) n = none →
    Runs (.lcRequest .host) s (fun u => u = (s.setFld R.LCS_LC_STATUS 0x70).mbxAnswer false 0x20 t (6, []))) ∧
  (∀ (s : State) (t k : Nat) (a : List Nat), s.mbxHas .host 0x21 t (k :: a) → s.fld R.LCS_STATE_STATE ≤ 1 → a.length = 16 → k ≤ 3 → Runs (.keyWrite .host) s (fun u =>
    FMap.get [] u.lcs.keys k = bytesOf a ∧ bitOf (u.fld R.LCS_KEYVALID) k = true ∧ (∀ j, j ≠ k → FMap.get [] u.lcs.keys j = FMap.get [] s.lcs.keys j) ∧ u.mem = s.mem)) ∧
  (∀ (s : State) (via : Mbx) (t k : Nat), s.mbxHas via 0x22 t [k] → 2 ≤ k → k ≤ 7 → s.fld (R.LCS_CNT k) < 0xFFFFFFFF → Runs (.cntInc via) s (fun u =>
    u = (s.setFld (R.LCS_CNT k) (s.fld (R.LCS_CNT k) + 1)).mbxAnswer (mgmtOf via) 0x22 t (0, [s.fld (R.LCS_CNT k) + 1]))) ∧
  (∀ (s : State) (via : Mbx) (t k : Nat), s.mbxHas via 0x22 t [k] → k < 2 ∨ 7 < k → Runs (.cntInc via) s (fun u => u = s.mbxAnswer (mgmtOf via) 0x22 t (2, []))) ∧
  (∀ (s : State) (t v : Nat), s.mbxHas .host 0x23 t [v] → v ≤ 1 → Runs (.wipeCfg .host) s (fun u =>
    ∃ o, u = ({ s.setFld R.LCS_CTRL v with lcs := { s.lcs with wiping := some (o, 0) } } : State).mbxAnswer false 0x23 t (0, [v]))) ∧
  (∀ (s : State) (via : Mbx) (t n : Nat), s.mbxOpen via = true → s.fld R.LCS_STATE_STATE = 4 → t < 256 → n ≤ 63 →
    arg (s.mbxWords via) 0 = 0x23000000 + t * 0x10000 + n → Runs (.wipeCfg via) s (fun u => u = s.mbxAnswer (mgmtOf via) 0x23 t (6, []))) ∧
  (∀ (s : State) (via : Mbx) (t : Nat) (a : List Nat), s.mbxHas via 0x30 t a → Runs (.restart via) s (fun u => u = (s.mbxAnswer (mgmtOf via) 0x30 t (0, [])).grangeRestart)) ∧
  (∀ (s : State) (via : Mbx) (t : Nat) (a : List Nat), s.mbxHas via 0x31 t a → Runs (.chipReset via) s (fun u => u = (s.mbxAnswer (mgmtOf via) 0x31 t (0, [])).warmReset 5))

/-- From R400–R404: the watchdog, sensors and the log. A kick with the key restarts the count, any other value is ignored; an expiry releases the
claim, reports WDOG and restarts the Grange or resets the chip. A reading outside its window is rejected, counted and reported, and the value stays;
one inside it is accepted. A buffered log record goes to its place in the ring. It rests on the model's choices of log 56, 58. -/
def Obligations.GrangeCommands : Prop :=
  (∀ (s : State) (v : Word), v.toNat % 65536 ≠ 0xC35A ∨ s.bit R.GRNG_WDOG_EN = false → Runs (.wdogKick v) s (fun u => u = s.respond .ok 0)) ∧
  (∀ (s : State) (v : Word), v.toNat % 65536 = 0xC35A → s.bit R.GRNG_WDOG_EN = true → s.fld R.GRNG_WDOG_TIMEOUT < 65536 → Runs (.wdogKick v) s (fun u =>
    u.fld R.GRNG_WDOG_LEFT = Nat.max 1 (s.fld R.GRNG_WDOG_TIMEOUT) ∧ Kept s u [R.GRNG_WDOG_LEFT] ∧ u.mem = s.mem)) ∧
  (∀ (s : State), s.bit R.GRNG_WDOG_EN = false ∨ s.grng.waitHost = true → Runs .watchdogExpiry s (fun u => u = s)) ∧
  (∀ (s : State), s.bit R.GRNG_WDOG_EN = true → s.grng.waitHost = false → s.holdsClaim = true → s.bit R.GRNG_WDOG_ACTION = false →
    Runs .watchdogExpiry s (fun u => u.pins.claimDrive = false ∧ u.fld R.PAIR_STATUS_CLAIM_HELD = 0)) ∧
  (∀ (s : State), s.bit R.GRNG_WDOG_EN = true → s.grng.waitHost = false → s.holdsClaim = false → s.bit R.GRNG_STATUS_TRIAL = false → s.bit R.GRNG_WDOG_ACTION = false →
    Runs .watchdogExpiry s (fun u => u = s.grangeRestart.fcu' 50 1 0)) ∧
  (∀ (s : State), s.bit R.GRNG_WDOG_EN = true → s.grng.waitHost = false → s.bit R.GRNG_WDOG_ACTION = true → s.holdsClaim = false → s.bit R.GRNG_STATUS_TRIAL = false →
    Runs .watchdogExpiry s (fun u => u = (s.fcu' 50 1 0).warmReset 4 ∧ u.fld R.SYS_RSTCAUSE_LAST = 4 ∧ bitOf (u.fld R.SYS_RSTCAUSE_CAUSE) 4 = true)) ∧
  (∀ (s : State), s.fld R.LCS_STATE_STATE = 4 → s.grng.staging = none → s.grng.owed = [] → Runs .grangeRestart s (fun u => u.fld R.GRNG_STATUS_RUN = 0 ∧ u.fld R.GRNG_STATUS_TRIAL = 0 ∧
    u.fld R.SYS_REMAP = 0 ∧ (∀ a, sramBase ≤ a → a < sramBase + 0x40000 → u.byte a = 0) ∧ (∀ a, a < sramBase ∨ sramBase + 0x40000 ≤ a → u.byte a = s.byte a) ∧
    u.grng.logBuf = [] ∧ KeptF s u [R.GRNG_STATUS_RUN, R.GRNG_STATUS_TRIAL, R.SYS_REMAP, R.GRNG_RESTART_CNT, R.GRNG_LOG_HEAD] ∧ u.cores = s.cores ∧ u.tick = s.tick)) ∧
  (∀ (s : State) (k : Nat) (p : List Byte), (s.fwSlot k).ok = true → s.pkgVerifies (s.fwSlot k).bytes = true → p = ((s.fwSlot k).bytes.drop 64).take (pkgLength (s.fwSlot k).bytes) →
    (s.slotStart k false).bytes sramBase p.length = p ∧ (s.slotStart k false).fld R.SYS_REMAP = 1 ∧ (s.slotStart k false).fld R.GRNG_WDOG_EN = 1 ∧
    (s.slotStart k false).grng.waitHost = false ∧ (s.slotStart k false).grng.bootSlot = k) ∧
  (∀ (s : State) (n : Fin 20) (v : Int), 8 ≤ n.val → s.sens = [] → s.fld (R.SENS_S_STATUS_REJ_CNT n.val) = 0 → v < 0 ∨ 1200 < v →
    Runs (.sensorSample ⟨n.val, by omega⟩ v) s (fun u => u.fld (R.SENS_S_VALUE n.val) = s.fld (R.SENS_S_VALUE n.val) ∧ u.fld (R.SENS_S_STATUS_REJ_CNT n.val) = 1 ∧
      u.fld R.SENS_IRQ_STATUS / 2 % 2 = 1 ∧ (u.sensor n.val).rejects = 1)) ∧
  (∀ (s : State) (n : Fin 8) (v : Int), s.sens = [] → -6000 ≤ v → v ≤ 16000 → v < s.fld R.SENS_T_LIM_HIGH → v < s.fld R.SENS_T_LIM_CRIT →
    s.fld (R.SENS_S_STATUS_FAILED n.val) = 0 → s.fld (R.SENS_S_STATUS_HIGH n.val) = 0 → s.fld (R.SENS_S_STATUS_LOW n.val) = 0 →
    Runs (.sensorSample ⟨n.val, by omega⟩ v) s (fun u => u.sfld (R.SENS_S_VALUE n.val) = v ∧ u.fld (R.SENS_S_STATUS_VALID n.val) = 1 ∧
      Kept s u [R.SENS_S_VALUE n.val, R.SENS_S_STATUS_VALID n.val, R.SENS_S_STATUS_FAILED n.val])) ∧
  (∀ (s : State), s.grng.logBuf = [] → Runs .logRecordWrite s (fun u => u = s)) ∧
  (∀ (s : State) (r : LogRec) (rest : List LogRec), s.grng.logBuf = r :: rest → s.grng.dropped = 0 → s.fld R.GRNG_LOG_HEAD < 0xFFFFFFFF →
    Runs .logRecordWrite s (fun u => u.grng.logBuf = rest ∧ u.fld R.GRNG_LOG_HEAD = s.fld R.GRNG_LOG_HEAD + 1 ∧
      u.bytes (logAddr (s.fld R.GRNG_LOG_HEAD)) 64 = r.image (s.fld R.GRNG_LOG_HEAD) ∧ Kept s u [R.GRNG_LOG_HEAD] ∧
      ∀ a, a < logAddr (s.fld R.GRNG_LOG_HEAD) ∨ logAddr (s.fld R.GRNG_LOG_HEAD) + 64 ≤ a → u.byte a = s.byte a))

/-- From R419–R426: feeds, domains, the core supply and standby. A feed's comparator sets and clears its OK bit with hysteresis; a switch of feeds
begins with the first of its two pin changes and ends, counted, with the second, and the delays and FORCE begin one only under their conditions; the
AON switch shows its input. A request of domains is kept while AUTO = 1, and with AUTO = 0 a domain that an image needs stays on with REFUSED; a
domain that is wanted comes on. A supply change is confirmed within its tolerance. Standby is refused while the engine runs, and a wake event that is
enabled ends it. It rests on the model's choices of log 8, 64. -/
def Obligations.PowerCommands : Prop :=
  (∀ (s : State) (m : Nat), s.fld R.PWR_VIN_CFG_THRESH < m → Runs (.feedComparatorChange true m) s (fun u => u.fld R.PWR_STATUS_BACK_OK = 1 ∧ Kept s u [R.PWR_STATUS_BACK_OK]) ∧
    (s.bit R.PWR_STATUS_STANDBY = false → Runs (.feedComparatorChange false m) s (fun u => u.fld R.PWR_STATUS_MAIN_OK = 1 ∧ Kept s u [R.PWR_STATUS_MAIN_OK]))) ∧
  (∀ (s : State) (m : Nat), m < s.fld R.PWR_VIN_CFG_THRESH - s.fld R.PWR_VIN_CFG_HYST →
    Runs (.feedComparatorChange true m) s (fun u => u.fld R.PWR_STATUS_BACK_OK = 0 ∧ Kept s u [R.PWR_STATUS_BACK_OK]) ∧
    Runs (.feedComparatorChange false m) s (fun u => u.fld R.PWR_STATUS_MAIN_OK = 0 ∧ Kept s u [R.PWR_STATUS_MAIN_OK])) ∧
  (∀ (s : State) (b : Bool) (m : Nat), s.fld R.PWR_VIN_CFG_THRESH - s.fld R.PWR_VIN_CFG_HYST ≤ m → m ≤ s.fld R.PWR_VIN_CFG_THRESH →
    Runs (.feedComparatorChange b m) s (fun u => u = s)) ∧
  (∀ (s : State), s.fld R.PWR_CTRL_FORCE = 0 → s.fld R.PWR_STATUS_FEED = 0 → s.fld R.PWR_STATUS_MAIN_OK = 0 → s.fld R.PWR_STATUS_BACK_OK = 1 →
    Runs .switchDelayExpiry s (fun u => u.fld R.PWR_STATUS_FEED = 2 ∧ u.pwr.incoming = some 1 ∧ Kept s u [R.PWR_STATUS_FEED] ∧
      u.pins = (if s.bit R.PWR_CTRL_MBB then { s.pins with pselBack := true } else { s.pins with pselMain := false }))) ∧
  (∀ (s : State), s.bit R.PWR_STATUS_MAIN_OK = true ∨ s.bit R.PWR_STATUS_BACK_OK = false ∨ s.fld R.PWR_STATUS_FEED ≠ 0 → Runs .switchDelayExpiry s (fun u => u = s)) ∧
  (∀ (s : State), s.fld R.PWR_CTRL_FORCE = 0 → s.fld R.PWR_STATUS_FEED = 1 → s.fld R.PWR_STATUS_MAIN_OK = 1 → Runs .returnDelayExpiry s (fun u =>
    u.fld R.PWR_STATUS_FEED = 2 ∧ u.pwr.incoming = some 0 ∧ Kept s u [R.PWR_STATUS_FEED] ∧
    u.pins = (if s.bit R.PWR_CTRL_MBB then { s.pins with pselMain := true } else { s.pins with pselBack := false }))) ∧
  (∀ (s : State), s.bit R.PWR_STATUS_MAIN_OK = false ∨ s.fld R.PWR_STATUS_FEED ≠ 1 → Runs .returnDelayExpiry s (fun u => u = s)) ∧
  (∀ (s : State), s.pwr.incoming = none → Runs .feedPinChange s (fun u => u = s)) ∧
  (∀ (s : State) (t : Fin 2), s.pwr.incoming = some t.val → s.pwr.forceNext = false → Runs .feedPinChange s (fun u => u.fld R.PWR_STATUS_FEED = t.val ∧
    u.pins = { s.pins with pselMain := decide (t.val = 0), pselBack := decide (t.val = 1) } ∧ u.pwr.incoming = none ∧ u.fld R.PWR_IRQ_STATUS % 2 = 1 ∧
    KeptF s u [R.PWR_STATUS_FEED, R.PWR_FEED_CNT_TO_MAIN, R.PWR_FEED_CNT_TO_BACKUP, R.PWR_IRQ_STATUS])) ∧
  (∀ (s : State), s.pwr.incoming = none → s.fld R.PWR_STATUS_FEED = 1 → Runs (.feedForceWrite 1) s (fun u => u.fld R.PWR_CTRL_FORCE = 1 ∧ u.fld R.PWR_STATUS_FEED = 2 ∧
    u.pwr.incoming = some 0)) ∧
  (∀ (s : State) (f : Fin 4), s.pwr.incoming.isSome = true → Runs (.feedForceWrite f) s (fun u => u.fld R.PWR_CTRL_FORCE = f.val ∧ u.pwr.forceNext = true ∧
    u.pwr.incoming = s.pwr.incoming ∧ Kept s u [R.PWR_CTRL_FORCE])) ∧
  (∀ (s : State) (b : Bool), (s.bit R.PWR_STATUS_AON_SRC = b → Runs (.aonSwitch b) s (fun u => u = s)) ∧
    (s.bit R.PWR_STATUS_AON_SRC ≠ b → Runs (.aonSwitch b) s (fun u => u.bit R.PWR_STATUS_AON_SRC = b ∧ u.fld R.PWR_IRQ_STATUS / 16 % 2 = 1 ∧
      Kept s u [R.PWR_STATUS_AON_SRC, R.PWR_IRQ_STATUS]))) ∧
  (∀ (s : State) (v : Word), s.bit R.PWR_CTRL_AUTO = true → s.writeUnsafe true 0x40010008 v.toNat = none → Runs (.domReqWrite v) s (fun u =>
    u.fld R.PWR_DOM_REQ = (v.toNat % 4096 ||| 1) % 4096 ∧ Kept s u [R.PWR_DOM_REQ] ∧ u.mem = s.mem)) ∧
  (∀ (s : State) (v : Word), s.bit R.PWR_CTRL_AUTO = false → s.domReqUnsafe v.toNat = true → exec (.domReqWrite v) s = .refused (.unpredictable 437)) ∧
  (∀ (s : State) (v : Word) (d : Fin 12), s.bit R.PWR_CTRL_AUTO = false → s.domReqUnsafe v.toNat = false → d.val ≠ 0 → d.val ≠ 7 → d.val ≠ 8 → bitOf v.toNat d.val = false →
    s.domOn d.val = true → bitOf s.domHeld d.val = true → Runs (.domReqWrite v) s (fun u => u.domOn d.val = true ∧ bitOf (u.fld R.PWR_DOM_REQ) d.val = true ∧
      u.fld R.PWR_IRQ_STATUS / 2 % 2 = 1)) ∧
  (∀ (s : State) (d : Fin 12), d.val ≠ 7 → d.val ≠ 8 → bitOf s.domWanted d.val = true → s.domOn d.val = false → s.bit R.PWR_STATUS_STANDBY = false →
    Runs (.domainPowerUpComplete d) s (fun u => u.domOn d.val = true ∧ bitOf (u.fld R.PWR_DOM_STATUS_BUSY) d.val = false ∧ Kept s u [R.PWR_DOM_STATUS_ON, R.PWR_DOM_STATUS_BUSY])) ∧
  (∀ (s : State) (d : Fin 12), s.domOn d.val = true ∨ bitOf s.domWanted d.val = false → Runs (.domainPowerUpComplete d) s (fun u => u = s)) ∧
  (∀ (s : State), (s.pwr.vout = none → Runs .pmbusVoutChange s (fun u => u = s) ∧ ∀ m, Runs (.pmbusConfirm m) s (fun u => u = s)) ∧
    (s.pwr.vout.isSome = true → Runs .pmbusVoutChange s (fun u => u.fld R.PWR_STATUS_PMB_BUSY = 1 ∧ Kept s u [R.PWR_STATUS_PMB_BUSY]))) ∧
  (∀ (s : State) (t m : Nat) (up : Bool), s.pwr.vout = some (t, up) → s.bit R.PWR_STATUS_PMB_BUSY = true → m < 65536 → Runs (.pmbusConfirm m) s (fun u =>
    u.fld R.PWR_PMB_STATUS_VOUT = m ∧ (t ≤ m + s.fld R.PWR_PMB_CFG_TOL ∧ m ≤ t + s.fld R.PWR_PMB_CFG_TOL → u.fld R.PWR_STATUS_PMB_BUSY = 0 ∧ u.pwr.vout = none) ∧
    (¬ (t ≤ m + s.fld R.PWR_PMB_CFG_TOL ∧ m ≤ t + s.fld R.PWR_PMB_CFG_TOL) → u.fld R.PWR_STATUS_PMB_BUSY = s.fld R.PWR_STATUS_PMB_BUSY ∧ u.pwr.vout = s.pwr.vout))) ∧
  (∀ (s : State) (b : Bool), Runs (.pmbAlert b) s (fun u => u.bit R.PWR_PMB_STATUS_ALERT = b ∧ u.fld R.PWR_PMB_STATUS_ERR = 1 ∧ u.fld R.PWR_IRQ_STATUS / 4 % 2 = 1 ∧
    KeptF s u [R.PWR_PMB_STATUS_ALERT, R.PWR_PMB_STATUS_ERR, R.PWR_IRQ_STATUS] ∧ u.pwr = s.pwr)) ∧
  (∀ (s : State), s.bit R.TICK_CTRL_RUN = true ∨ s.bit R.PAIR_CTRL_EN = true → Runs .standby s (fun u => u.fld R.PWR_IRQ_STATUS / 2 % 2 = 1 ∧ Kept s u [R.PWR_IRQ_STATUS] ∧
    u.img = s.img ∧ u.mem = s.mem)) ∧
  (∀ (s : State), s.bit R.TICK_CTRL_RUN = false → s.bit R.PAIR_CTRL_EN = false → s.bit R.PWR_STATUS_STANDBY = false → (∀ n : Fin 4, s.bit (R.NET_STATUS_LINK n.val) = false) →
    Runs .standby s (fun u => u.fld R.PWR_STATUS_STANDBY = 1 ∧ u.img.slotA = none ∧ u.img.slotB = none ∧ (∀ d ∈ [1, 2, 3, 4, 5, 6, 10, 11], u.domOn d = false) ∧
      (u.halfState 0 = 1 ∨ u.halfState 0 = 2) ∧ (u.halfState 1 = 1 ∨ u.halfState 1 = 2))) ∧
  (∀ (s : State), s.bit R.TICK_CTRL_RUN = false → s.bit R.PAIR_CTRL_EN = false → s.bit R.PWR_STATUS_STANDBY = false →
    Runs .standby s (fun u => u.fld R.PWR_STATUS_STANDBY = 1 ∧ u.img.slotA = none ∧ u.img.slotB = none)) ∧
  (∀ (s : State) (k : Fin 6), s.bit R.PWR_STATUS_STANDBY = false → Runs (.wakeEvent k) s (fun u => u = s)) ∧
  (∀ (s : State) (k : Fin 6), s.bit R.PWR_STATUS_STANDBY = true → k.val = 5 ∨ bitOf (s.fld R.PWR_WAKE_EN) k.val = true → s.pwr.savedA < 8 → s.pwr.savedB < 8 →
    Runs (.wakeEvent k) s (fun u => u.fld R.PWR_STATUS_STANDBY = 0 ∧ bitOf (u.fld R.PWR_WAKE_STATUS) k.val = true ∧ u.fld R.PWR_IRQ_STATUS / 8 % 2 = 1 ∧
      u.halfState 0 = s.pwr.savedA ∧ u.halfState 1 = s.pwr.savedB ∧ u.mem = s.mem)) ∧
  (∀ (s : State), (s.fld R.PWR_WAKE_TIMER = 0 → Runs .wakeTimerExpiry s (fun u => u = s)) ∧
    (s.fld R.PWR_WAKE_TIMER ≠ 0 → s.bit R.PWR_STATUS_STANDBY = true → bitOf (s.fld R.PWR_WAKE_EN) 4 = true →
      Runs .wakeTimerExpiry s (fun u => u.fld R.PWR_STATUS_STANDBY = 0 ∧ bitOf (u.fld R.PWR_WAKE_STATUS) 4 = true)))

/-- From R427–R432, R447: resets, boot and the TAP. A power-on reset leaves the MRAM, the NOR, the life-cycle record and POR as its only cause; a chip
warm reset also the LPDDR5, and adds its cause; both return every other register, the cores, the hoppers and the images to their reset state. PERST
resets the endpoint alone unless PERST_CHIP says the chip. A block reset counts, unless it meets the block in reset, and names its block as the last
one, or is refused. A boot samples the straps and trains the LPDDR5, once. It rests on the model's choices of log 54, 61, 62, 63. -/
def Obligations.ResetsAndBoot : Prop :=
  (∀ (s : State), Runs .powerOnReset s (fun u => u.fld R.SYS_RSTCAUSE_CAUSE = 1 ∧ u.fld R.SYS_RSTCAUSE_LAST = 0 ∧ u.fld R.SYS_RSTCAUSE_COUNT = 0 ∧
    (∀ a, inMram a = true → u.byte a = s.byte a) ∧ (∀ a, inMram a = false → u.byte a = 0) ∧ u.lcs = s.lcs ∧ u.grng.nor = s.grng.nor ∧
    (∀ f : Fld, f.lo < 32 → keptReg f.addr = false → u.fld f = f.rst) ∧ (∀ f : Fld, f.lo < 32 → keptReg f.addr = true → f.addr ≠ 0x40000010 → u.fld f = s.fld f) ∧
    u.cores = [] ∧ u.hops = [] ∧ u.img = ImgSt.reset ∧ u.bind = BindSt.reset ∧ u.tick = State.reset.tick)) ∧
  (∀ (s : State), Runs .pinReset s (fun u => bitOf (u.fld R.SYS_RSTCAUSE_CAUSE) 1 = true ∧ u.fld R.SYS_RSTCAUSE_LAST = 1 ∧
    (∀ k : Fin 7, bitOf (s.fld R.SYS_RSTCAUSE_CAUSE) k.val = true → bitOf (u.fld R.SYS_RSTCAUSE_CAUSE) k.val = true) ∧
    (∀ a, inMram a = true ∨ ddrBase ≤ a → u.byte a = s.byte a) ∧ (∀ a, inMram a = false → a < ddrBase → u.byte a = 0) ∧ u.lcs = s.lcs ∧
    (∀ f : Fld, f.lo < 32 → keptReg f.addr = false → f.addr ≠ 0x40010004 → u.fld f = f.rst) ∧
    (∀ f : Fld, f.lo < 32 → keptReg f.addr = true → f.addr ≠ 0x40000010 → u.fld f = s.fld f) ∧
    u.cores = [] ∧ u.hops = [] ∧ u.img = ImgSt.reset ∧ u.pins.pselMain = s.pins.pselMain ∧ u.pins.pselBack = s.pins.pselBack)) ∧
  (∀ (s : State) (g : Bool) (v : Word), v.toNat % 65536 ≠ 0xA5C3 → Runs (.hostReset g v) s (fun u => u = s.respond .ok 0)) ∧
  (∀ (s : State) (g : Bool) (v : Word), v.toNat % 65536 = 0xA5C3 → Runs (.hostReset g v) s (fun u => u = (s.warmReset (if g then 5 else 2)).respond .ok 0)) ∧
  (∀ (s : State), s.bit R.RST_CTRL = true → Runs .perst s (fun u => u = s.warmReset 3)) ∧
  (∀ (s : State), s.bit R.RST_CTRL = false → Runs .perst s (fun u => u.fld R.PCIE_LINK_UP = 0 ∧ u.mem = s.mem ∧ u.cores = s.cores ∧ u.tick = s.tick ∧ u.img = s.img ∧
      (∀ f : Fld, Fld.ofFault f = false → f.addr / 0x10000 ≠ 0x401C → f.lo < 32 → u.fld f = s.fld f))) ∧
  (∀ (s : State) (b : Fin 128) (h : Fin 64), resets b.val = false → Runs (.blockReset b h) s (fun u => u.fld R.RST_BLOCK_STATUS_REFUSED = 1 ∧
    Kept s u [R.RST_BLOCK_STATUS_REFUSED] ∧ u.mem = s.mem)) ∧
  (∀ (s : State) (b : Fin 128) (h : Fin 64), resets b.val = true → Runs (.blockReset b h) s (fun u => u.fld R.RST_BLOCK_STATUS_LAST = b.val ∧
    (s.pwr.resets.any (fun x => x.1 == resetKey b.val h.val) = false → s.fld R.RST_BLOCK_STATUS_COUNT < 0xFFFF →
      u.fld R.RST_BLOCK_STATUS_COUNT = s.fld R.RST_BLOCK_STATUS_COUNT + 1 ∧ u.pwr.resets.any (fun x => x == (resetKey b.val h.val, 0)) = true))) ∧
  (∀ (s : State) (h : Fin 64), Runs (.blockReset 46 h) s (fun u => u.hop h.val = Hop.empty ∧ (∀ n, n ≠ h.val → u.hop n = s.hop n) ∧ u.hopEn h.val = s.hopEn h.val ∧
    u.fld (R.HOP_Q_STATUS_UNDERRUN h.val) = 0 ∧ u.fld (R.HOP_Q_STATUS_OVERFLOW h.val) = 0 ∧ u.mem = s.mem)) ∧
  (∀ (s : State) (e : BootEnv), s.grng.booted = false → Runs (.boot e) s (fun u => u.grng.booted = true ∧ u.fld R.SYS_BOOT_STRAP = e.mode.val ∧
    u.fld R.SYS_BOOT_STRAP_BAD = (if 4 ≤ e.mode.val then 1 else 0) ∧ u.fld R.PAIR_STATUS_SIDE = (if e.side then 1 else 0) ∧
    u.fld R.SYS_BOOT_MODE = (if e.mode.val = 3 then (if s.fld R.LCS_STATE_STATE = 0 then 3 else 0) else if 4 ≤ e.mode.val then 0 else e.mode.val))) ∧
  (∀ (s : State) (e : BootEnv), s.grng.booted = true → Runs (.boot e) s (fun u => u = s)) ∧
  (∀ (s : State) (e : BootEnv), s.grng.booted = false → s.fld R.LCS_STATE_STATE = 4 → s.bit R.LCS_STATE_PENDING = false → Runs (.boot e) s (fun u => u.grng.booted = true ∧
    u.fld R.SYS_BOOT_STRAP = e.mode.val ∧ u.fld R.SYS_BOOT_STRAP_BAD = (if 4 ≤ e.mode.val then 1 else 0) ∧
    u.fld R.SYS_BOOT_MODE = (if 3 ≤ e.mode.val then 0 else e.mode.val) ∧ u.fld R.PAIR_STATUS_SIDE = (if e.side then 1 else 0) ∧
    (e.trained = true → u.fld R.DDR_STATUS_TRAINED = 1 ∧ u.fld R.DDR_CFG_SIZE = e.size.val) ∧ (∀ a, inMram a = false → a < ddrBase → u.byte a = 0) ∧
    (∀ a, inMram a = true → u.byte a = s.byte a))) ∧
  (∀ (s : State) (i : TapInstr), Runs (.tapInstruction i) s (fun u => u.regs = s.regs ∧ u.mem = s.mem ∧
    (i = .bypass ∨ i = .idcode ∨ i = .samplePreload ∨ i = .extestPulse → u.jtag.ir = i) ∧
    (i = .debug → u.jtag.ir = (if s.fullDebug then .debug else .bypass)) ∧
    (i = .extest ∨ i = .clamp ∨ i = .highz → u.jtag.ir = (if s.bit R.TICK_CTRL_RUN then .bypass else i)))) ∧
  (∀ (s : State), Runs .tapReset s (fun u => u.jtag.ir = .idcode ∧ u.regs = s.regs ∧ u.mem = s.mem))

/-- From R44, R51, R56, R62, R70, R75–R96: every Iator instruction issues where it is ready, and then it changes only its own core, the core's state
code, and the words of X and Y memory that its moves store to. A core that does not execute, or at whose program counter another instruction stands,
is left alone; an instruction that touches an unbound window stalls the core. It rests on the model's choices of log 27, 28, 71. -/
def Obligations.IatorInstructionsComplete : Prop :=
  (∀ (s : State) (n : Fin 64) (w : Nat),
    (∀ x y, s.iatorReady n.val (.nop x y) → Runs (.nop n w) s (IatorStep s n.val (.nop x y))) ∧
    (∀ x y, s.iatorReady n.val (.tend x y) → Runs (.tend n w) s (IatorStep s n.val (.tend x y))) ∧
    (∀ x y, s.iatorReady n.val (.rts x y) → Runs (.rts n w) s (IatorStep s n.val (.rts x y))) ∧
    (∀ c a, s.iatorReady n.val (.doI c a) → Runs (.doLoop n w) s (IatorStep s n.val (.doI c a))) ∧
    (∀ r b a, s.iatorReady n.val (.dor r b a) → Runs (.dor n w) s (IatorStep s n.val (.dor r b a))) ∧
    (∀ t, s.iatorReady n.val (.bra t) → Runs (.bra n w) s (IatorStep s n.val (.bra t))) ∧
    (∀ c l t, s.iatorReady n.val (.bcc c l t) → Runs (.bcc n w) s (IatorStep s n.val (.bcc c l t))) ∧
    (∀ t, s.iatorReady n.val (.jsr t) → Runs (.jsr n w) s (IatorStep s n.val (.jsr t))) ∧
    (∀ d v, s.iatorReady n.val (.ldi d v) → Runs (.ldi n w) s (IatorStep s n.val (.ldi d v))) ∧
    (∀ m r d a b x y, s.iatorReady n.val (.mul false m r d a b x y) → Runs (.mpy n w) s (IatorStep s n.val (.mul false m r d a b x y))) ∧
    (∀ m r d a b x y, s.iatorReady n.val (.mul true m r d a b x y) → Runs (.mac n w) s (IatorStep s n.val (.mul true m r d a b x y))) ∧
    (∀ r d x y, s.iatorReady n.val (.two .add r d x y) → Runs (.add n w) s (IatorStep s n.val (.two .add r d x y))) ∧
    (∀ r d x y, s.iatorReady n.val (.two .sub r d x y) → Runs (.sub n w) s (IatorStep s n.val (.two .sub r d x y))) ∧
    (∀ r d x y, s.iatorReady n.val (.two .tfr r d x y) → Runs (.tfr n w) s (IatorStep s n.val (.two .tfr r d x y))) ∧
    (∀ r d x y, s.iatorReady n.val (.two .cmp r d x y) → Runs (.cmp n w) s (IatorStep s n.val (.two .cmp r d x y))) ∧
    (∀ r d x y, s.iatorReady n.val (.two .max r d x y) → Runs (.maxA n w) s (IatorStep s n.val (.two .max r d x y))) ∧
    (∀ r d x y, s.iatorReady n.val (.two .min r d x y) → Runs (.minA n w) s (IatorStep s n.val (.two .min r d x y))) ∧
    (∀ r d x y, s.iatorReady n.val (.two .maxa r d x y) → Runs (.maxa n w) s (IatorStep s n.val (.two .maxa r d x y))) ∧
    (∀ d c x y, s.iatorReady n.val (.one .clr d c x y) → Runs (.clr n w) s (IatorStep s n.val (.one .clr d c x y))) ∧
    (∀ d c x y, s.iatorReady n.val (.one .rnd d c x y) → Runs (.rnd n w) s (IatorStep s n.val (.one .rnd d c x y))) ∧
    (∀ d c x y, s.iatorReady n.val (.one .neg d c x y) → Runs (.neg n w) s (IatorStep s n.val (.one .neg d c x y))) ∧
    (∀ d c x y, s.iatorReady n.val (.one .abs d c x y) → Runs (.absA n w) s (IatorStep s n.val (.one .abs d c x y))) ∧
    (∀ d c x y, s.iatorReady n.val (.one .asl d c x y) → Runs (.asl n w) s (IatorStep s n.val (.one .asl d c x y))) ∧
    (∀ d c x y, s.iatorReady n.val (.one .asr d c x y) → Runs (.asr n w) s (IatorStep s n.val (.one .asr d c x y))) ∧
    (∀ d c x y, s.iatorReady n.val (.one .fold d c x y) → Runs (.fold n w) s (IatorStep s n.val (.one .fold d c x y))) ∧
    (∀ d c x y, s.iatorReady n.val (.one .sat d c x y) → Runs (.sat n w) s (IatorStep s n.val (.one .sat d c x y))) ∧
    (∀ b f r g p x y, s.iatorReady n.val (.gran .gld b f r g p x y) → Runs (.gld n w) s (IatorStep s n.val (.gran .gld b f r g p x y))) ∧
    (∀ b f r g p x y, s.iatorReady n.val (.gran .gst b f r g p x y) → Runs (.gst n w) s (IatorStep s n.val (.gran .gst b f r g p x y))) ∧
    (∀ b f r g p x y, s.iatorReady n.val (.gran .gadd b f r g p x y) → Runs (.gadd n w) s (IatorStep s n.val (.gran .gadd b f r g p x y))) ∧
    (∀ b f r g p x y, s.iatorReady n.val (.gran .gswp b f r g p x y) → Runs (.gswp n w) s (IatorStep s n.val (.gran .gswp b f r g p x y))) ∧
    (∀ b f r h x y, s.iatorReady n.val (.hop false b f r h x y) → Runs (.hpush n w) s (IatorStep s n.val (.hop false b f r h x y))) ∧
    (∀ b f r h x y, s.iatorReady n.val (.hop true b f r h x y) → Runs (.hpop n w) s (IatorStep s n.val (.hop true b f r h x y)))) ∧
  (∀ (s : State) (n : Fin 64) (w : Nat), s.coreRuns n.val = false ∨ s.fetchIop n.val = none → Runs (.nop n w) s (fun u => u = s) ∧ Runs (.mac n w) s (fun u => u = s) ∧
    Runs (.bra n w) s (fun u => u = s) ∧ Runs (.gld n w) s (fun u => u = s)) ∧
  (∀ (s : State) (n : Fin 64) (w : Nat) (x y : Move), s.coreRuns n.val = true → s.fetchIop n.val = some (.nop x y) → Runs (.tend n w) s (fun u => u = s)) ∧
  (∀ (s : State) (n : Fin 64) (w : Nat) (x y : Move), s.coreRuns n.val = true → s.fetchIop n.val = some (.nop x y) → (s.core n.val).waits (.nop x y) = false →
    s.touchesUnbound n.val (s.core n.val) (.nop x y) (Config.freeNat s.free) (Config.freeNat (s.free + 1)) = true →
    Runs (.nop n w) s (fun u => u = (s.setCore n.val { s.core n.val with stalled := true }).setFld (R.IATC_CORE_STAT_STATE n.val) 3))

/-- From R46–R51, R83–R93: what the Iator instructions compute, here without moves and outside any loop. Products, sums, differences, extremes,
negations, absolute values, shifts, roundings and folds are exact and wrapped to 56 bits, in both lanes, with their conditions. SAT clips to 24 bits
and sets the limit bit; MAXA takes the larger magnitude; CMP changes conditions only; LDI loads both lanes or a shared register; branches, calls,
returns, loops and TEND set the program counter as they say. It rests on the model's choices of log 28, 71. -/
def Obligations.IatorResults : Prop :=
  (∀ (s : State) (n : Fin 64) (w : Nat), (s.core n.val).loops = [] → (s.core n.val).buf = none →
    (∀ g d a b, s.iatorReady n.val (.mul false g false d a b .none .none) → Runs (.mpy n w) s (fun u => CoreStep (s.core n.val) ((s.core n.val).waited (.mul false g false d a b .none .none) w) (u.core n.val) ∧ u.mem = s.mem ∧
      CoreWrites (s.core n.val) d.val (fun l => (if g then -1 else 1) * (((s.core n.val).f l a.val).toInt * ((s.core n.val).f l b.val).toInt * 2)) (u.core n.val))) ∧
    (∀ g d a b, s.iatorReady n.val (.mul true g false d a b .none .none) → Runs (.mac n w) s (fun u => CoreStep (s.core n.val) ((s.core n.val).waited (.mul true g false d a b .none .none) w) (u.core n.val) ∧ u.mem = s.mem ∧
      CoreWrites (s.core n.val) d.val (fun l => ((s.core n.val).acc l d.val).toInt + (if g then -1 else 1) * (((s.core n.val).f l a.val).toInt * ((s.core n.val).f l b.val).toInt * 2)) (u.core n.val))) ∧
    (∀ g d a b, s.iatorReady n.val (.mul true g true d a b .none .none) → Runs (.mac n w) s (fun u => CoreStep (s.core n.val) ((s.core n.val).waited (.mul true g true d a b .none .none) w) (u.core n.val) ∧ u.mem = s.mem ∧
      CoreWrites (s.core n.val) d.val (fun l => (((s.core n.val).acc l d.val).toInt + (if g then -1 else 1) * (((s.core n.val).f l a.val).toInt * ((s.core n.val).f l b.val).toInt * 2) + 2 ^ 23) / 2 ^ 24 * 2 ^ 24) (u.core n.val))) ∧
    (∀ r d, s.iatorReady n.val (.two .add r d .none .none) → Runs (.add n w) s (fun u => CoreStep (s.core n.val) ((s.core n.val).waited (.two .add r d .none .none) w) (u.core n.val) ∧ u.mem = s.mem ∧
      CoreWrites (s.core n.val) d.val (fun l => ((s.core n.val).acc l d.val).toInt + ((s.core n.val).src56 l r).toInt) (u.core n.val))) ∧
    (∀ r d, s.iatorReady n.val (.two .sub r d .none .none) → Runs (.sub n w) s (fun u => CoreStep (s.core n.val) ((s.core n.val).waited (.two .sub r d .none .none) w) (u.core n.val) ∧ u.mem = s.mem ∧
      CoreWrites (s.core n.val) d.val (fun l => ((s.core n.val).acc l d.val).toInt - ((s.core n.val).src56 l r).toInt) (u.core n.val))) ∧
    (∀ r d, s.iatorReady n.val (.two .tfr r d .none .none) → Runs (.tfr n w) s (fun u => CoreStep (s.core n.val) ((s.core n.val).waited (.two .tfr r d .none .none) w) (u.core n.val) ∧ u.mem = s.mem ∧
      CoreWrites (s.core n.val) d.val (fun l => ((s.core n.val).src56 l r).toInt) (u.core n.val))) ∧
    (∀ r d, s.iatorReady n.val (.two .max r d .none .none) → Runs (.maxA n w) s (fun u => CoreStep (s.core n.val) ((s.core n.val).waited (.two .max r d .none .none) w) (u.core n.val) ∧ u.mem = s.mem ∧
      CoreWrites (s.core n.val) d.val (fun l => max ((s.core n.val).acc l d.val).toInt ((s.core n.val).src56 l r).toInt) (u.core n.val))) ∧
    (∀ r d, s.iatorReady n.val (.two .min r d .none .none) → Runs (.minA n w) s (fun u => CoreStep (s.core n.val) ((s.core n.val).waited (.two .min r d .none .none) w) (u.core n.val) ∧ u.mem = s.mem ∧
      CoreWrites (s.core n.val) d.val (fun l => min ((s.core n.val).acc l d.val).toInt ((s.core n.val).src56 l r).toInt) (u.core n.val))) ∧
    (∀ d, s.iatorReady n.val (.one .clr d 0 .none .none) → Runs (.clr n w) s (fun u => CoreStep (s.core n.val) ((s.core n.val).waited (.one .clr d 0 .none .none) w) (u.core n.val) ∧ u.mem = s.mem ∧
      CoreWrites (s.core n.val) d.val (fun _ => 0) (u.core n.val))) ∧
    (∀ d, s.iatorReady n.val (.one .rnd d 0 .none .none) → Runs (.rnd n w) s (fun u => CoreStep (s.core n.val) ((s.core n.val).waited (.one .rnd d 0 .none .none) w) (u.core n.val) ∧ u.mem = s.mem ∧
      CoreWrites (s.core n.val) d.val (fun l => (((s.core n.val).acc l d.val).toInt + 2 ^ 23) / 2 ^ 24 * 2 ^ 24) (u.core n.val))) ∧
    (∀ d, s.iatorReady n.val (.one .neg d 0 .none .none) → Runs (.neg n w) s (fun u => CoreStep (s.core n.val) ((s.core n.val).waited (.one .neg d 0 .none .none) w) (u.core n.val) ∧ u.mem = s.mem ∧
      CoreWrites (s.core n.val) d.val (fun l => -((s.core n.val).acc l d.val).toInt) (u.core n.val))) ∧
    (∀ d, s.iatorReady n.val (.one .abs d 0 .none .none) → Runs (.absA n w) s (fun u => CoreStep (s.core n.val) ((s.core n.val).waited (.one .abs d 0 .none .none) w) (u.core n.val) ∧ u.mem = s.mem ∧
      CoreWrites (s.core n.val) d.val (fun l => (((s.core n.val).acc l d.val).toInt.natAbs : Int)) (u.core n.val))) ∧
    (∀ d c, s.iatorReady n.val (.one .asl d c .none .none) → Runs (.asl n w) s (fun u => CoreStep (s.core n.val) ((s.core n.val).waited (.one .asl d c .none .none) w) (u.core n.val) ∧ u.mem = s.mem ∧
      CoreWrites (s.core n.val) d.val (fun l => ((s.core n.val).acc l d.val).toInt * 2 ^ c.toNat) (u.core n.val))) ∧
    (∀ d c, s.iatorReady n.val (.one .asr d c .none .none) → Runs (.asr n w) s (fun u => CoreStep (s.core n.val) ((s.core n.val).waited (.one .asr d c .none .none) w) (u.core n.val) ∧ u.mem = s.mem ∧
      CoreWrites (s.core n.val) d.val (fun l => ((s.core n.val).acc l d.val).toInt / 2 ^ c.toNat) (u.core n.val))) ∧
    (∀ d, s.iatorReady n.val (.one .fold d 0 .none .none) → Runs (.fold n w) s (fun u => CoreStep (s.core n.val) ((s.core n.val).waited (.one .fold d 0 .none .none) w) (u.core n.val) ∧ u.mem = s.mem ∧
      CoreWrites (s.core n.val) d.val (fun _ => ((s.core n.val).acc 0 d.val).toInt + ((s.core n.val).acc 1 d.val).toInt) (u.core n.val)))) ∧
  (∀ (s : State) (n : Fin 64) (w : Nat), (s.core n.val).loops = [] → (s.core n.val).buf = none →
    (s.iatorReady n.val (.nop .none .none) → Runs (.nop n w) s (fun u => u.mem = s.mem ∧ u.core n.val = { s.core n.val with
      pc := (s.core n.val).pc + 1, wrote := [], cycles := (s.core n.val).cycles + 1 + (s.core n.val).waited (.nop .none .none) w, stalls := (s.core n.val).stalls + (s.core n.val).waited (.nop .none .none) w, freed := [], stalled := false })) ∧
    (∀ d, s.iatorReady n.val (.one .sat d 0 .none .none) → Runs (.sat n w) s (fun u => CoreStep (s.core n.val) ((s.core n.val).waited (.one .sat d 0 .none .none) w) (u.core n.val) ∧ ∀ l, l < 2 →
      (fits24 ((s.core n.val).acc l d.val) = true → (u.core n.val).acc l d.val = (s.core n.val).acc l d.val ∧
        bitOf (u.core n.val).csr.toNat (8 + l) = bitOf (s.core n.val).csr.toNat (8 + l)) ∧
      (fits24 ((s.core n.val).acc l d.val) = false → (u.core n.val).acc l d.val = (if ((s.core n.val).acc l d.val).msb then 0xFF800000000000 else 0x007FFFFF000000) ∧
        bitOf (u.core n.val).csr.toNat (8 + l) = true))) ∧
    (∀ r d, s.iatorReady n.val (.two .maxa r d .none .none) → Runs (.maxa n w) s (fun u => CoreStep (s.core n.val) ((s.core n.val).waited (.two .maxa r d .none .none) w) (u.core n.val) ∧ ∀ l, l < 2 →
      ((s.core n.val).src56 l r).toInt ≠ -(2 ^ 55) → ((u.core n.val).acc l d.val).toInt = max ((s.core n.val).acc l d.val).toInt (((s.core n.val).src56 l r).toInt.natAbs : Int))) ∧
    (∀ r d, s.iatorReady n.val (.two .cmp r d .none .none) → Runs (.cmp n w) s (fun u => CoreStep (s.core n.val) ((s.core n.val).waited (.two .cmp r d .none .none) w) (u.core n.val) ∧
      (u.core n.val).lane0 = (s.core n.val).lane0 ∧ (u.core n.val).lane1 = (s.core n.val).lane1 ∧ ∀ l, l < 2 →
      (u.core n.val).shows l (BitVec.ofInt 56 (((s.core n.val).acc l d.val).toInt - ((s.core n.val).src56 l r).toInt))
        (wraps56 (((s.core n.val).acc l d.val).toInt - ((s.core n.val).src56 l r).toInt)))) ∧
    (∀ (d : Fin 4) (v : BitVec 24), s.iatorReady n.val (.ldi (.f d) v) → Runs (.ldi n w) s (fun u => CoreStep (s.core n.val) ((s.core n.val).waited (.ldi (.f d) v) w) (u.core n.val) ∧
      (u.core n.val).csr = (s.core n.val).csr ∧ ∀ l, l < 2 → (u.core n.val).f l d.val = v ∧ ∀ e, e ≠ d.val → (u.core n.val).f l e = (s.core n.val).f l e)) ∧
    (∀ (d : Fin 8) (v : BitVec 24), s.iatorReady n.val (.ldi (.pt d) v) → Runs (.ldi n w) s (fun u => FMap.get 0 (u.core n.val).pt d.val = v.setWidth 15 ∧
      (u.core n.val).pc = (s.core n.val).pc + 1 ∧ (u.core n.val).wrote = [16 + d.val] ∧ (u.core n.val).lane0 = (s.core n.val).lane0))) ∧
  (∀ (s : State) (n : Fin 64) (w : Nat),
    (∀ t, s.iatorReady n.val (.bra t) → Runs (.bra n w) s (fun u => u.core n.val = { s.core n.val with
      pc := t, wrote := [], cycles := (s.core n.val).cycles + 2 + (s.core n.val).waited (.bra t) w, stalls := (s.core n.val).stalls + (s.core n.val).waited (.bra t) w, freed := [], stalled := false })) ∧
    (∀ c l t, s.iatorReady n.val (.bcc c l t) → taken c.val l.val (s.core n.val).csr = true → Runs (.bcc n w) s (fun u => u.core n.val = { s.core n.val with
      pc := t, wrote := [], cycles := (s.core n.val).cycles + 2 + (s.core n.val).waited (.bcc c l t) w, stalls := (s.core n.val).stalls + (s.core n.val).waited (.bcc c l t) w, freed := [], stalled := false })) ∧
    (∀ c l t, s.iatorReady n.val (.bcc c l t) → taken c.val l.val (s.core n.val).csr = false → (s.core n.val).loops = [] → Runs (.bcc n w) s (fun u =>
      u.core n.val = { s.core n.val with
        pc := (s.core n.val).pc + 1, wrote := [], cycles := (s.core n.val).cycles + 1 + (s.core n.val).waited (.bcc c l t) w, stalls := (s.core n.val).stalls + (s.core n.val).waited (.bcc c l t) w, freed := [], stalled := false })) ∧
    (∀ t, s.iatorReady n.val (.jsr t) → Runs (.jsr n w) s (fun u => u.core n.val = { s.core n.val with
      pc := t, calls := ((s.core n.val).pc + 1) :: (s.core n.val).calls, wrote := [], cycles := (s.core n.val).cycles + 2 + (s.core n.val).waited (.jsr t) w, stalls := (s.core n.val).stalls + (s.core n.val).waited (.jsr t) w, freed := [], stalled := false })) ∧
    (∀ a r, s.iatorReady n.val (.rts .none .none) → (s.core n.val).calls = a :: r → Runs (.rts n w) s (fun u => u.core n.val = { s.core n.val with
      pc := a, calls := r, wrote := [], cycles := (s.core n.val).cycles + 2 + (s.core n.val).waited (.rts .none .none) w, stalls := (s.core n.val).stalls + (s.core n.val).waited (.rts .none .none) w, freed := [], stalled := false })) ∧
    (∀ (c : BitVec 16) la, s.iatorReady n.val (.doI c la) → c ≠ 0 → Runs (.doLoop n w) s (fun u => (u.core n.val).pc = (s.core n.val).pc + 1 ∧
      (u.core n.val).loops = ⟨(s.core n.val).pc + 1, la, c⟩ :: (s.core n.val).loops ∧ (u.core n.val).cycles = (s.core n.val).cycles + 2 + (s.core n.val).waited (.doI c la) w)) ∧
    (∀ (i : Fin 4) (b : BitVec 16) la, s.iatorReady n.val (.dor (.f i) b la) → 0 < ((s.core n.val).f 0 i.val).toNat → b ≠ 0 → Runs (.dor n w) s (fun u =>
      (u.core n.val).loops = ⟨(s.core n.val).pc + 1, la, BitVec.ofNat 16 (min ((s.core n.val).f 0 i.val).toNat b.toNat)⟩ :: (s.core n.val).loops)) ∧
    (∀ la, s.iatorReady n.val (.doI 0 la) → (s.core n.val).loops = [] → Runs (.doLoop n w) s (fun u => (u.core n.val).pc = la + 1 ∧ (u.core n.val).loops = [])) ∧
    (∀ l r, s.iatorReady n.val (.nop .none .none) → (s.core n.val).loops = l :: r → l.la = (s.core n.val).pc → 1 < l.lc.toNat → Runs (.nop n w) s (fun u =>
      (u.core n.val).pc = l.start ∧ (u.core n.val).loops = { l with lc := l.lc - 1 } :: r)) ∧
    (s.iatorReady n.val (.tend .none .none) → Runs (.tend n w) s (fun u => (u.core n.val).tend = true ∧ (u.core n.val).pc = (s.core n.val).pc ∧ u.mem = s.mem)))

/-- From R61–R66, R94–R96: long operations. One issues with its operands as they stand, and completes later, in the order of issue where two meet: GLD
reads its container, GST stores, GADD adds and GSWP exchanges, each outside the declared ranges only with a fault message and the result 0; HPUSH and
HPOP act on their hopper. TEND completes once no long operation is outstanding: the cycles of the tick are shown, and more of them than declared, or a
limit bit, raise the core's interrupt; a replayed tick counts nothing. It rests on the model's choices of log 27, 28, 71. -/
def Obligations.LongOperations : Prop :=
  (∀ (s : State) (n : Fin 64) (w : Nat) (g r : Fin 4) (p : Bool), s.iatorReady n.val (.gran .gld true .lane0 (.acc r) g p .none .none) → (s.core n.val).loops = [] →
    Runs (.gld n w) s (fun u => ∃ v0 v1, (u.core n.val).long = (s.core n.val).long ++ [⟨.gld, true, 2, 4 + r.val, (FMap.get 0 (s.core n.val).ga g.val).toNat, v0, v1⟩] ∧
      (u.core n.val).pc = (s.core n.val).pc + 1 ∧ u.mem = s.mem ∧ (p = false → (u.core n.val).ga = (s.core n.val).ga))) ∧
  (∀ (s : State) (n : Fin 64) (w : Nat) (f : Fin 4) (h : BitVec 6) , s.iatorReady n.val (.hop true false .lane0 f h .none .none) → (s.core n.val).loops = [] →
    Runs (.hpop n w) s (fun u => ∃ v0 v1, (u.core n.val).long = (s.core n.val).long ++ [⟨.hpop, false, 2, 4 + f.val, h.toNat, v0, v1⟩] ∧ u.hops = s.hops)) ∧
  (∀ (s : State) (n : Fin 64) (i f : Nat), (s.core n.val).long[i]? = none → Runs (.longOpComplete n i f) s (fun u => u = s)) ∧
  (∀ (s : State) (n : Fin 64) (i f : Nat) (l : LongOp), (s.core n.val).long[i]? = some l → ((s.core n.val).long.take i).any (fun m => m.meets l) = false →
    Runs (.longOpComplete n i f) s (fun u => (u.core n.val).long = (s.core n.val).long.eraseIdx i ∧ (u.core n.val).freed = l :: (s.core n.val).freed ∧
      (u.core n.val).pc = (s.core n.val).pc ∧ (u.core n.val).loops = (s.core n.val).loops ∧ (u.core n.val).csr = (s.core n.val).csr ∧
      (∀ m, m ≠ n.val → u.core m = s.core m) ∧ u.tick = s.tick)) ∧
  (∀ (s : State) (n : Fin 64) (a b : LongOp) (f : Nat), (s.core n.val).long = [a, b] → a.meets b = true → Runs (.longOpComplete n 1 f) s (fun u => u = s)) ∧
  (∀ (s : State) (n : Fin 64) (r a : Nat) (v0 v1 : Word), (s.core n.val).long = [⟨.gld, true, 2, r, a, v0, v1⟩] → 4 ≤ r → s.inRanges n.val a = true → s.granGood 0 (granBase + 4 * a) →
    Runs (.longOpComplete n 0 0) s (fun u => (u.core n.val).acc 0 (r - 4) = load32 (BitVec.ofNat 32 (s.le (granBase + 4 * a) 4)) ∧ (u.core n.val).long = [] ∧
      (∀ m, m ≠ n.val → u.core m = s.core m) ∧ u.regs = s.regs ∧ u.mem = s.mem)) ∧
  (∀ (s : State) (n : Fin 64) (r a : Nat) (v0 v1 : Word), (s.core n.val).long = [⟨.gst, true, 2, r, a, v0, v1⟩] → s.inRanges n.val a = true → s.granGood 0 (granBase + 4 * a) →
    Runs (.longOpComplete n 0 0) s (fun u => u.le (granBase + 4 * a) 4 = v0.toNat ∧ u.core n.val = { s.core n.val with long := [], freed := ⟨.gst, true, 2, r, a, v0, v1⟩ :: (s.core n.val).freed } ∧ u.regs = s.regs ∧
      ∀ x, x < granBase + 4 * a ∨ granBase + 4 * a + 4 ≤ x → u.byte x = s.byte x)) ∧
  (∀ (s : State) (n : Fin 64) (r a : Nat) (v0 v1 : Word), (s.core n.val).long = [⟨.gadd, true, 2, r, a, v0, v1⟩] → 4 ≤ r → s.inRanges n.val a = true →
    s.granGood 0 (granBase + 4 * a) → Runs (.longOpComplete n 0 0) s (fun u => u.le (granBase + 4 * a) 4 = (s.le (granBase + 4 * a) 4 + v0.toNat) % 0x100000000 ∧
      (u.core n.val).acc 0 (r - 4) = load32 (BitVec.ofNat 32 (s.le (granBase + 4 * a) 4)) ∧ u.regs = s.regs ∧
      ∀ x, x < granBase + 4 * a ∨ granBase + 4 * a + 4 ≤ x → u.byte x = s.byte x)) ∧
  (∀ (s : State) (n : Fin 64) (r a : Nat) (v0 v1 : Word), (s.core n.val).long = [⟨.gswp, true, 2, r, a, v0, v1⟩] → 4 ≤ r → s.inRanges n.val a = true →
    s.granGood 0 (granBase + 4 * a) → Runs (.longOpComplete n 0 0) s (fun u => u.le (granBase + 4 * a) 4 = v0.toNat ∧
      (u.core n.val).acc 0 (r - 4) = load32 (BitVec.ofNat 32 (s.le (granBase + 4 * a) 4)) ∧ u.regs = s.regs ∧
      ∀ x, x < granBase + 4 * a ∨ granBase + 4 * a + 4 ≤ x → u.byte x = s.byte x)) ∧
  (∀ (s : State) (n : Fin 64) (r a : Nat) (v0 v1 : Word), (s.core n.val).long = [⟨.gld, true, 2, r, a, v0, v1⟩] → 4 ≤ r → s.inRanges n.val a = false →
    Runs (.longOpComplete n 0 0) s (fun u => (u.core n.val).acc 0 (r - 4) = 0 ∧ u.mem = s.mem ∧ ∃ t : State, t = s.fcu' (64 + n.val) 3 (granBase + 4 * a) ∧ u.regs = t.regs)) ∧
  (∀ (s : State) (n : Fin 64) (r h : Nat) (v0 v1 : Word), h < 64 → (s.core n.val).long = [⟨.hpush, true, 2, r, h, v0, v1⟩] → s.hopEn h = true →
    (s.hop h).entries.length < s.fld (R.HOP_Q_CFG_DEPTH h) → s.bit (R.HOP_Q_CFG_CLK h) = false → Runs (.longOpComplete n 0 0) s (fun u =>
      (u.hop h).entries = (s.hop h).entries ++ [v0.toNat] ∧ (u.core n.val).long = [] ∧ (s.bit (R.HOP_Q_CFG_MEM h) = false → u.mem = s.mem))) ∧
  (∀ (s : State) (n : Fin 64) (r h e : Nat) (es : List Nat) (v0 v1 : Word), h < 64 → 4 ≤ r → (s.core n.val).long = [⟨.hpop, true, 2, r, h, v0, v1⟩] → s.hopEn h = true →
    s.bit (R.HOP_Q_CFG_CLK h) = false → (s.hop h).entries = e :: es → Runs (.longOpComplete n 0 0) s (fun u => (u.hop h).entries = es ∧
      (u.core n.val).acc 0 (r - 4) = load32 (BitVec.ofNat 32 e) ∧ u.mem = s.mem)) ∧
  (∀ (s : State) (n : Fin 64), (s.core n.val).tend = false ∨ (s.core n.val).done = true ∨ (s.core n.val).long ≠ [] → Runs (.tendComplete n) s (fun u => u = s)) ∧
  (∀ (s : State) (n : Fin 64), (s.core n.val).tend = true → (s.core n.val).done = false → (s.core n.val).long = [] → Runs (.tendComplete n) s (fun u =>
    (u.core n.val).done = true ∧ u.fld (R.IATC_CORE_STAT_STATE n.val) = 1 ∧ u.bit (R.IATC_CORE_STAT_L0 n.val) = bitOf (s.core n.val).csr.toNat 8 ∧
    u.bit (R.IATC_CORE_STAT_L1 n.val) = bitOf (s.core n.val).csr.toNat 9 ∧ (∀ m, m ≠ n.val → u.core m = s.core m) ∧ u.mem = s.mem ∧
    (s.core n.val).cycles ≤ (u.core n.val).cycles ∧
    ((s.core n.val).freed = [] → (u.core n.val).cycles = (s.core n.val).cycles ∧ (u.core n.val).stalls = (s.core n.val).stalls) ∧
    (s.pair.replayTick = none → u.fld (R.IATC_CYC_LAST n.val) = min (u.core n.val).cycles 0x1FFFF ∧ u.fld (R.IATC_STALL_LAST n.val) = min (u.core n.val).stalls 0x1FFFF ∧
      (s.fld (R.IATC_DECL n.val) < (u.core n.val).cycles → u.fld R.IATC_IRQ_STATUS / 2 % 2 = 1) ∧
      (bitOf (s.core n.val).csr.toNat 8 = true ∨ bitOf (s.core n.val).csr.toNat 9 = true → u.fld R.IATC_IRQ_STATUS % 2 = 1)) ∧
    (s.pair.replayTick ≠ none → KeptF s u [R.IATC_CORE_STAT_STATE n.val, R.IATC_CORE_STAT_L0 n.val, R.IATC_CORE_STAT_L1 n.val])))

/-- R9: on both ordering codes, both masters that have a path to SYS, the Grange (0) and the host port (1), read the identity registers: SYS.ID is
0x56591024, SYS.STEP the base and metal numbers of the step, those of A0 or of B1, SYS.FEATURE says whether amplifier control is present. Reading them
changes no register and no memory. -/
def Obligations.IdentityRegisters : Prop :=
  ∀ (s : State) (m : Fin 11), m.val ≤ 1 → s.busFull m.val = false →
    Runs (.busTransaction m ⟨0x40000000, 4, none⟩ 0 true) s (fun u => u.mem14.respBus = ⟨.ok, 0x56591024⟩ ∧ u.regs = s.regs ∧ u.mem = s.mem) ∧
    Runs (.busTransaction m ⟨0x40000004, 4, none⟩ 0 true) s (fun u =>
      u.mem14.respBus = ⟨.ok, Config.stepBase * 256 + Config.stepMetal⟩ ∧ (u.mem14.respBus.data = 0x0100 ∨ u.mem14.respBus.data = 0x0201) ∧ u.regs = s.regs ∧
      u.mem = s.mem) ∧
    Runs (.busTransaction m ⟨0x40000008, 4, none⟩ 0 true) s (fun u => u.mem14.respBus = ⟨.ok, if s.part = .ai then 1 else 0⟩ ∧ u.regs = s.regs ∧ u.mem = s.mem)

/-- From R8, R10–R12, R359–R362, R374, R399, R436: register accesses and bus transactions. Access codes take effect field by field, in the blocks
whose registers have no other rule; an offset that holds no register reads as 0 and ignores writes; an access of another size or alignment is refused.
A transaction stalls while its master has 32 in flight, stays in flight until it completes, ends in a decode error where its master has no path, reads
and writes a Granary word, and times out with an error response. It rests on the model's choices of log 8, 12, 15. -/
def Obligations.RegisterCommands : Prop :=
  (∀ (s : State) (g : Bool) (a : Nat) (v : Word), a / 0x10000 = 0x4016 ∨ a / 0x10000 = 0x4019 → a % 4 = 0 →
    Runs (.registerWrite g a v) s (fun u => u.mem14.respBus.status = .ok ∧ u.mem = s.mem ∧ u = { s with regs := u.regs, mem14 := u.mem14 } ∧
      Kept s u (regFieldsAt a) ∧
      ∀ f ∈ regFieldsAt a, (f.acc = .rw → u.fld f = v.toNat / 2 ^ f.lo % 2 ^ (f.hi + 1 - f.lo)) ∧ (f.acc = .ro ∨ f.acc = .rc → u.fld f = s.fld f) ∧
        (f.acc = .w1c → ∀ k, k < f.hi + 1 - f.lo → bitOf (u.fld f) k = (bitOf (s.fld f) k && !bitOf v.toNat (f.lo + k))))) ∧
  (∀ (s : State) (g : Bool),
    Runs (.readClear g 0x40160008) s (fun u => u.mem14.respBus = ⟨.ok, s.fld R.BUSM_ERR_CNT⟩ ∧ u.fld R.BUSM_ERR_CNT = 0 ∧ Kept s u [R.BUSM_ERR_CNT] ∧ u.mem = s.mem) ∧
    Runs (.readClear g 0x40190018) s (fun u => u.mem14.respBus = ⟨.ok, s.fld R.GLEAN_CE_CNT⟩ ∧ u.fld R.GLEAN_CE_CNT = 0 ∧ Kept s u [R.GLEAN_CE_CNT] ∧ u.mem = s.mem) ∧
    Runs (.readClear g 0x40160010) s (fun u => u.mem14.respBus = ⟨.ok, s.fld R.BUSM_IRQ_STATUS⟩ ∧ u.regs = s.regs ∧ u.mem = s.mem) ∧
    Runs (.readClear g 0x40070004) s (fun u => u.mem14.respBus = ⟨.ok, 0⟩ ∧ u.regs = s.regs ∧ u.mem = s.mem)) ∧
  (∀ (s : State) (g : Bool) (m : Fin 11), Runs (.readClear g (0x40160100 + 4 * m.val)) s (fun u =>
    u.mem14.respBus = ⟨.ok, (s.mem14.inflight.filter (fun x => x.1 == m.val)).length⟩ ∧ u.regs = s.regs ∧ u.mem = s.mem)) ∧
  (∀ (s : State) (g : Bool) (a : Nat) (v : Word), 0x40000000 ≤ a → a + 4 ≤ 0x401F0000 → a % 4 ≠ 0 → s.domBlocks a = none →
    exec (.registerWrite g a v) s = .refused (.unpredictable 8) ∧ exec (.readClear g a) s = .refused (.unpredictable 8)) ∧
  (∀ (s : State) (g : Bool) (a d : Nat) (v : Word), 0x40000000 ≤ a → a + 4 ≤ 0x401F0000 → s.domBlocks a = some d →
    Runs (.registerWrite g a v) s (fun u => u.mem14.respBus = ⟨.error, 0⟩ ∧ KeptF s u [] ∧ u.mem = s.mem) ∧
    Runs (.readClear g a) s (fun u => u.mem14.respBus = ⟨.error, 0⟩ ∧ KeptF s u [] ∧ u.mem = s.mem)) ∧
  (∀ (s : State) (v : Word), Runs (.registerWrite false 0x4000000C v) s (fun u => u.regs = s.regs ∧ u.mem = s.mem) ∧
    Runs (.registerWrite true 0x4000000C v) s (fun u => u.fld R.SYS_REMAP = v.toNat % 2 ∧ Kept s u [R.SYS_REMAP] ∧ u.mem = s.mem) ∧
    Runs (.registerWrite false 0x401B0000 v) s (fun u => u.regs = s.regs ∧ u.mem = s.mem)) ∧
  (∀ (s : State) (m : Fin 11) (q : BusReq) (f : Nat) (b : Bool), s.busFull m.val = true →
    Runs (.busTransaction m q f b) s (fun u => u.mem14.respBus = ⟨.stalled, 0⟩ ∧ u = { s with mem14 := u.mem14 } ∧ u.mem14.inflight = s.mem14.inflight)) ∧
  (∀ (s : State) (m : Fin 11) (q : BusReq) (f : Nat), s.busFull m.val = false →
    s.target m.val q.addr q.len ≠ .default → Runs (.busTransaction m q f false) s (fun u =>
    u.mem14.inflight = s.mem14.inflight ++ [(m.val, q.addr, q.data.isSome)] ∧ u.regs = s.regs ∧ u.mem = s.mem)) ∧
  (∀ (s : State) (m : Fin 11) (q : BusReq) (f : Nat) (b : Bool), s.busFull m.val = false → q.len = ((q.data.map List.length).getD q.len) →
    s.target m.val q.addr q.len = .default → Runs (.busTransaction m q f b) s (fun u => u.mem14.respBus = ⟨.decode, 0⟩ ∧ u.fld R.BUSM_ERR_INFO_KIND = 0 ∧
      u.fld R.BUSM_ERR_INFO_MASTER = m.val ∧ u.fld R.BUSM_ERR_ADDR = q.addr % 0x100000000 ∧ u.mem = s.mem)) ∧
  (∀ (s : State) (m : Fin 11) (o : Nat), s.busFull m.val = false → o % 8 ≤ 4 → o + 4 ≤ 0x2000000 → s.granGood (if granPortOf m.val < 4 then 0 else 1) (granBase + o) →
    Runs (.busTransaction m ⟨granBase + o, 4, none⟩ 0 true) s (fun u => u.mem14.respBus = ⟨.ok, s.le (granBase + o) 4⟩ ∧ u.regs = s.regs ∧ u.mem = s.mem)) ∧
  (∀ (s : State) (m : Fin 11) (o : Nat) (l : List Byte), m.val ≠ 1 → s.busFull m.val = false → o % 8 = 0 → o + 8 ≤ 0x2000000 → l.length = 8 →
    s.halfState (granHalf (granBase + o)) = 0 → Runs (.busTransaction m ⟨granBase + o, 8, some l⟩ 0 true) s (fun u => u.mem14.respBus = ⟨.ok, 0⟩ ∧
      u.bytes (granBase + o) 8 = l ∧ u.regs = s.regs ∧ ∀ x, x < granBase + o ∨ granBase + o + 8 ≤ x → u.byte x = s.byte x)) ∧
  (∀ (s : State) (i m a : Nat) (w : Bool), m < 16 → s.mem14.inflight[i]? = some (m, a, w) → Runs (.matrixTimeout i) s (fun u => u.mem14.respBus = ⟨.error, 0⟩ ∧
    u.mem14.inflight = s.mem14.inflight.eraseIdx i ∧ u.fld R.BUSM_ERR_INFO_KIND = 1 ∧ u.fld R.BUSM_ERR_INFO_MASTER = m ∧ u.fld R.BUSM_ERR_ADDR = a % 0x100000000 ∧
    u.fld R.BUSM_ERR_INFO_WRITE = (if w then 1 else 0) ∧ u.fld R.BUSM_IRQ_STATUS / 2 % 2 = 1 ∧ bitOf (u.fld (R.FCU_STICKY 1)) 15 = true ∧ u.mem = s.mem)) ∧
  (∀ (s : State) (i : Nat), s.mem14.inflight[i]? = none → Runs (.matrixTimeout i) s (fun u => u = s))

/-- One step is exec of the command at the front of the queue, on the state with the queue's rest; on an empty queue the block idles. The idling is
the model's choice (log 3). -/
def Obligations.StepRunsTheFrontCommand : Prop :=
  (∀ (s : State) (c : Instr) (r : List Instr), s.pending = c :: r → step s = exec c { s with pending := r }) ∧
  (∀ s : State, s.pending = [] → step s = .next s)

/-- No command faults; only accesses that the spec lists as host errors with unpredictable results are refused, by the commands named here; every
other command answers a next state, in which the queue and the ordering code stay and no reaction of a fault message waits. Where a command's effect u
leaves no reaction, what follows it is u but for the MSI-X messages of R369: one for each vector whose interrupts have risen. It rests on the model's
choices of log 7, 8, 9, 55. -/
def Obligations.EveryCommandAnswers : Prop :=
  (∀ (c : Instr) (s : State), Runs c s (fun _ => True) ∨ ∃ r, exec c s = .refused (.unpredictable r)) ∧
  (∀ (c : Instr) (s : State) (r : Refusal), exec c s = .refused r → match c with
    | .registerWrite _ _ _ => True
    | .readClear _ _ => True
    | .busTransaction _ _ _ _ => True
    | .hostRequest _ _ _ => True
    | .mdioCommand _ => True
    | .domReqWrite _ => True
    | .hopperEnable _ => True
    | .hopperDisable _ => True
    | .hopPushWrite _ _ => True
    | .hopPopRead _ => True
    | .dbH2gSetWrite _ => True
    | .rxEnWrite _ => True
    | .updStage _ => True
    | .libLoad _ => True
    | _ => False) ∧
  (∀ (c : Instr) (s t : State), exec c s = .next t → t.pending = s.pending ∧ t.part = s.part ∧ t.fcu.todo = [] ∧ t.fcu.firstNew = false ∧
    t.fcu.lastNew = false) ∧
  (∀ s u : State, u.fcu.todo = [] → settled s u = { u with
      part := s.part, pending := s.pending, pcie := (settled s u).pcie, fcu := { u.fcu with firstNew := false, lastNew := false } } ∧ (u.msixLevel = u.pcie.level → (settled s u).pcie = u.pcie))

/-- The invariant of memory: its bytes stand in one canonical form, addresses strictly rising and no byte listed that reads as an unlisted one does.
Every step keeps it, so that equal memories are equal data. -/
def Obligations.MemoryStaysCanonical : Prop :=
  ∀ s t : State, FMap.wf 0 s.mem = true → step s = .next t → FMap.wf 0 t.mem = true

/-- What reset leaves (R9, R17, R37, R43, R182, R254, R384, R399, R423 and the reset columns of the register tables): registers at the tables' values,
memory in canonical form, no core executing, no image running, no command waiting. Memory that reads as 0 is the model's choice (log 5). It rests on
the model's choices of log 6, 10. -/
def Obligations.ResetLeavesTheTables : Prop :=
  FMap.wf 0 State.reset.mem = true ∧ State.reset.pending = [] ∧ State.reset.fcu.todo = [] ∧ State.reset.image = none ∧
  (∀ a, State.reset.byte a = 0) ∧ (∀ n, State.reset.coreRuns n = false) ∧
  (∀ p ∈ ([(R.SYS_ID, 0x56591024), (R.SYS_REMAP, 0), (R.TICK_CTRL_RUN, 0), (R.IATC_CORE_STAT_STATE 63, 0), (R.IMG_STATUS_A_STATE, 0),
      (R.IMG_STATUS_B_STATE, 0), (R.SAP_PORT_STATUS_STATE 15, 0), (R.CLK_CTRL_REVERT, 1), (R.FCU_STATUS_SAFE, 0), (R.FCU_FIRST_HI_VALID, 0),
      (R.GLEAN_CTRL_MARCH_EN, 1), (R.GLEAN_SCRUB_DIV, 256), (R.GLEAN_DDR_DIV, 10), (R.GLEAN_MARCH_INT, 1), (R.GLEAN_IRQ_EN_UE, 0),
      (R.BUSM_ERR_CNT, 0), (R.HOP_Q_CFG_EN 7, 0), (R.NET_CTRL_RX_EN 0, 0), (R.PAIR_CTRL_EN, 0), (R.FAB_CTRL_EN, 0), (R.AMP_CH_STATE_STATE 31, 0)] : List (Fld × Nat)),
    State.reset.fld p.1 = p.2)

/-- From R75, R76–R82, R84, R94, R95 and the instruction tables: the encodings of the Iator's instruction words. Every instruction that its fields
admit is read back from its word, and every word that is read as an instruction is that instruction's word: no bit of an encoding is dropped, and none
is free. -/
def Obligations.InstructionWordsRoundTrip : Prop :=
  (∀ i : Iop, i.ok = true → decodeIop (encodeIop i) = some i) ∧
  (∀ (w : IWord) (i : Iop), decodeIop w = some i → encodeIop i = w ∧ i.ok = true)
end

