-- ==== Sys2Proof/Laws/FMap.lean ====
section
/-!
SUPPORT. Finite maps: a read after a write, the canonical form kept by every operation, runs of keys.
-/

namespace Sys2Proof.Machine

theorem FMap.get_drop_of_not {α : Type} (d : α) (m : FMap α) (p : Nat → Bool) (k : Nat) (h : p k = false) :
    FMap.get d (FMap.drop m p) k = FMap.get d m k := by
  induction m with
  | nil => rfl
  | cons e r ih =>
    obtain ⟨j, v⟩ := e
    simp only [FMap.drop] at ih
    by_cases hj : j = k
    · subst hj; simp [FMap.drop, FMap.get, h]
    · by_cases hp : p j = true
      · simp [FMap.drop, FMap.get, hp, hj, ih]
      · simp only [Bool.not_eq_true] at hp; simp [FMap.drop, FMap.get, hp, hj, ih]

theorem FMap.get_drop_of {α : Type} (d : α) (m : FMap α) (p : Nat → Bool) (k : Nat) (h : p k = true) :
    FMap.get d (FMap.drop m p) k = d := by
  induction m with
  | nil => rfl
  | cons e r ih =>
    obtain ⟨j, v⟩ := e
    simp only [FMap.drop] at ih
    by_cases hp : p j = true
    · simp [FMap.drop, hp, ih]
    · have hj : j ≠ k := by intro hj; subst hj; exact hp h
      simp only [Bool.not_eq_true] at hp; simp [FMap.drop, FMap.get, hp, hj, ih]

/-- A read after a write to the same key gives the value written. -/
@[simp] theorem FMap.get_set_same {α : Type} [DecidableEq α] (d : α) (m : FMap α) (k : Nat) (v : α) :
    FMap.get d (FMap.set d m k v) k = v := by
  induction m with
  | nil => by_cases hv : v = d <;> simp [FMap.set, FMap.get, hv]
  | cons e r ih =>
    obtain ⟨j, w⟩ := e
    by_cases hj : j = k
    · by_cases hv : v = d
      · simp [FMap.set, hj, hv, FMap.get_drop_of]
      · simp [FMap.set, FMap.get, hj, hv]
    · by_cases hk : k < j ∧ v ≠ d
      · simp [FMap.set, FMap.get, hj, hk]
      · simp [FMap.set, FMap.get, hj, hk, ih]

/-- A write leaves every other key alone, whatever unlisted keys read as. -/
theorem FMap.get_set_ne' {α : Type} [DecidableEq α] (e d : α) (m : FMap α) (k i : Nat) (v : α) (h : k ≠ i) :
    FMap.get e (FMap.set d m k v) i = FMap.get e m i := by
  induction m with
  | nil => by_cases hv : v = d <;> simp [FMap.set, FMap.get, hv, h]
  | cons x r ih =>
    obtain ⟨j, w⟩ := x
    by_cases hj : j = k
    · subst hj
      by_cases hv : v = d
      · simp only [FMap.set, FMap.get, hv, h, if_true, if_false]
        exact FMap.get_drop_of_not e r _ i (by simp [Ne.symm h])
      · simp [FMap.set, FMap.get, hv, h]
    · by_cases hk : k < j ∧ v ≠ d
      · simp [FMap.set, FMap.get, hj, hk, h]
      · simp only [FMap.set, FMap.get, hj, hk, if_false, ih]

/-- A write leaves every other key alone. -/
theorem FMap.get_set_ne {α : Type} [DecidableEq α] (d : α) (m : FMap α) (k i : Nat) (v : α) (h : k ≠ i) :
    FMap.get d (FMap.set d m k v) i = FMap.get d m i := FMap.get_set_ne' d d m k i v h

theorem FMap.above_trans {α : Type} {a b : Nat} {m : FMap α} (h : a < b) (hb : FMap.above b m = true) : FMap.above a m = true := by
  cases m with
  | nil => rfl
  | cons e r => obtain ⟨j, v⟩ := e; simp only [FMap.above, decide_eq_true_eq] at *; omega

theorem FMap.wf_cons {α : Type} [DecidableEq α] {d : α} {j : Nat} {v : α} {r : FMap α} :
    FMap.wf d ((j, v) :: r) = true ↔ FMap.above j r = true ∧ v ≠ d ∧ FMap.wf d r = true := by
  simp [FMap.wf, Bool.and_eq_true, and_assoc]

theorem FMap.above_drop {α : Type} [DecidableEq α] (d : α) (b : Nat) (m : FMap α) (p : Nat → Bool) (hb : FMap.above b m = true)
    (hw : FMap.wf d m = true) : FMap.above b (FMap.drop m p) = true := by
  induction m with
  | nil => rfl
  | cons e r ih =>
    obtain ⟨j, v⟩ := e
    obtain ⟨h1, _, h3⟩ := FMap.wf_cons.mp hw
    simp only [FMap.above, decide_eq_true_eq] at hb
    by_cases hp : p j = true
    · simpa [FMap.drop, hp] using ih (FMap.above_trans hb h1) h3
    · simp only [Bool.not_eq_true] at hp
      simp [FMap.drop, hp, FMap.above, hb]

/-- Dropping entries keeps the canonical form. -/
theorem FMap.wf_drop {α : Type} [DecidableEq α] (d : α) (m : FMap α) (p : Nat → Bool) (hw : FMap.wf d m = true) :
    FMap.wf d (FMap.drop m p) = true := by
  induction m with
  | nil => rfl
  | cons e r ih =>
    obtain ⟨j, v⟩ := e
    obtain ⟨h1, h2, h3⟩ := FMap.wf_cons.mp hw
    by_cases hp : p j = true
    · simpa [FMap.drop, hp] using ih h3
    · simp only [Bool.not_eq_true] at hp
      have h4 := FMap.above_drop d j r p h1 h3
      have h5 := ih h3
      simp only [FMap.drop] at h4 h5
      simp only [FMap.drop, List.filter_cons, hp, Bool.not_false, if_true]
      exact FMap.wf_cons.mpr ⟨h4, h2, h5⟩

theorem FMap.above_set {α : Type} [DecidableEq α] (d : α) (b : Nat) (m : FMap α) (k : Nat) (v : α) (hb : FMap.above b m = true)
    (hk : b < k) (hw : FMap.wf d m = true) : FMap.above b (FMap.set d m k v) = true := by
  cases m with
  | nil => by_cases hv : v = d <;> simp [FMap.set, hv, FMap.above, hk]
  | cons e r =>
    obtain ⟨j, w⟩ := e
    obtain ⟨h1, _, h3⟩ := FMap.wf_cons.mp hw
    simp only [FMap.above, decide_eq_true_eq] at hb
    by_cases hj : j = k
    · by_cases hv : v = d
      · simpa [FMap.set, hj, hv] using FMap.above_drop d b r _ (FMap.above_trans hb h1) h3
      · simp [FMap.set, hj, hv, FMap.above, hk]
    · by_cases hk' : k < j ∧ v ≠ d
      · simp [FMap.set, hj, hk', FMap.above, hk]
      · simp [FMap.set, hj, hk', FMap.above, hb]

/-- A write keeps the canonical form. -/
theorem FMap.wf_set {α : Type} [DecidableEq α] (d : α) (m : FMap α) (k : Nat) (v : α) (hw : FMap.wf d m = true) :
    FMap.wf d (FMap.set d m k v) = true := by
  induction m with
  | nil => by_cases hv : v = d <;> simp [FMap.set, hv, FMap.wf, FMap.above]
  | cons e r ih =>
    obtain ⟨j, w⟩ := e
    obtain ⟨h1, h2, h3⟩ := FMap.wf_cons.mp hw
    by_cases hj : j = k
    · subst hj
      by_cases hv : v = d
      · simpa [FMap.set, hv] using FMap.wf_drop d r _ h3
      · simp only [FMap.set, if_true, hv, if_false]
        exact FMap.wf_cons.mpr ⟨h1, hv, h3⟩
    · by_cases hk : k < j ∧ v ≠ d
      · have hset : FMap.set d ((j, w) :: r) k v = (k, v) :: (j, w) :: r := by simp [FMap.set, hj, hk]
        rw [hset]
        exact FMap.wf_cons.mpr ⟨by simp [FMap.above, hk.1], hk.2, hw⟩
      · simp only [FMap.set, hj, if_false, hk]
        refine FMap.wf_cons.mpr ⟨?_, h2, ih h3⟩
        by_cases hv : v = d
        · subst hv
          clear ih hw hk
          induction r with
          | nil => simp [FMap.set, FMap.above]
          | cons e' r' ih' =>
            obtain ⟨i, u⟩ := e'
            obtain ⟨g1, g2, g3⟩ := FMap.wf_cons.mp h3
            simp only [FMap.above, decide_eq_true_eq] at h1
            by_cases hi : i = k
            · simpa [FMap.set, hi] using FMap.above_drop v j r' _ (FMap.above_trans h1 g1) g3
            · simp [FMap.set, hi, FMap.above, h1]
        · exact FMap.above_set d j r k v h1 (by simp only [ne_eq, hv, not_false_eq_true, and_true] at hk; omega) h3

/-- A run of writes keeps the canonical form. -/
theorem FMap.wf_setRun {α : Type} [DecidableEq α] (d : α) (vs : List α) (m : FMap α) (k : Nat) (hw : FMap.wf d m = true) :
    FMap.wf d (FMap.setRun d m k vs) = true := by
  induction vs generalizing m k with
  | nil => exact hw
  | cons v r ih => exact ih _ _ (FMap.wf_set d m k v hw)

/-- A run of writes leaves the keys outside it alone. -/
theorem FMap.get_setRun_out {α : Type} [DecidableEq α] (d : α) (vs : List α) (m : FMap α) (k i : Nat)
    (h : i < k ∨ k + vs.length ≤ i) : FMap.get d (FMap.setRun d m k vs) i = FMap.get d m i := by
  induction vs generalizing m k with
  | nil => rfl
  | cons v r ih =>
    simp only [List.length_cons] at h
    rw [FMap.setRun, ih _ _ (by omega), FMap.get_set_ne _ _ _ _ _ (by omega)]

/-- A run of writes gives its values. -/
theorem FMap.get_setRun_in {α : Type} [DecidableEq α] (d : α) (vs : List α) (m : FMap α) (k i : Nat) (h : i < vs.length) :
    FMap.get d (FMap.setRun d m k vs) (k + i) = vs[i] := by
  induction vs generalizing m k i with
  | nil => simp at h
  | cons v r ih =>
    cases i with
    | zero => rw [FMap.setRun, FMap.get_setRun_out _ _ _ _ _ (by omega)]; simp
    | succ n =>
      simp only [List.length_cons] at h
      have h' := ih (FMap.set d m k v) (k + 1) n (by omega)
      rw [FMap.setRun, show k + (n + 1) = k + 1 + n by omega, h']; simp

theorem FMap.getRun_eq {α : Type} (d : α) (m : FMap α) (n k : Nat) :
    FMap.getRun d m k n = (List.range n).map (fun i => FMap.get d m (k + i)) := by
  induction n generalizing k with
  | zero => rfl
  | succ n ih =>
    rw [FMap.getRun, ih, List.range_succ_eq_map]
    simp [Function.comp_def, Nat.add_comm, Nat.add_left_comm]

/-- Reading the run just written gives it back. -/
theorem FMap.getRun_setRun {α : Type} [DecidableEq α] (d : α) (vs : List α) (m : FMap α) (k : Nat) :
    FMap.getRun d (FMap.setRun d m k vs) k vs.length = vs := by
  rw [FMap.getRun_eq]
  apply List.ext_getElem (by simp)
  intro i h1 h2
  simp [FMap.get_setRun_in d vs m k i h2]

end Sys2Proof.Machine
end

