-- ==== Sys2Proof/Laws/State.lean ====
section
/-!
SUPPORT. One lemma per field of the state per update: what a register field, a byte or a core update changes and what it leaves.
-/

namespace Sys2Proof.Machine

/-! A register field -/

@[simp] theorem State.setFld_part (s : State) (f : Fld) (v : Nat) : (s.setFld f v).part = s.part := rfl
@[simp] theorem State.setFld_pins (s : State) (f : Fld) (v : Nat) : (s.setFld f v).pins = s.pins := rfl
@[simp] theorem State.setFld_mem (s : State) (f : Fld) (v : Nat) : (s.setFld f v).mem = s.mem := rfl
@[simp] theorem State.setFld_mem14 (s : State) (f : Fld) (v : Nat) : (s.setFld f v).mem14 = s.mem14 := rfl
@[simp] theorem State.setFld_free (s : State) (f : Fld) (v : Nat) : (s.setFld f v).free = s.free := rfl
@[simp] theorem State.setFld_tick (s : State) (f : Fld) (v : Nat) : (s.setFld f v).tick = s.tick := rfl
@[simp] theorem State.setFld_cores (s : State) (f : Fld) (v : Nat) : (s.setFld f v).cores = s.cores := rfl
@[simp] theorem State.setFld_hops (s : State) (f : Fld) (v : Nat) : (s.setFld f v).hops = s.hops := rfl
@[simp] theorem State.setFld_img (s : State) (f : Fld) (v : Nat) : (s.setFld f v).img = s.img := rfl
@[simp] theorem State.setFld_bind (s : State) (f : Fld) (v : Nat) : (s.setFld f v).bind = s.bind := rfl
@[simp] theorem State.setFld_sil (s : State) (f : Fld) (v : Nat) : (s.setFld f v).sil = s.sil := rfl
@[simp] theorem State.setFld_silo (s : State) (f : Fld) (v : Nat) : (s.setFld f v).silo = s.silo := rfl
@[simp] theorem State.setFld_marv (s : State) (f : Fld) (v : Nat) : (s.setFld f v).marv = s.marv := rfl
@[simp] theorem State.setFld_sap (s : State) (f : Fld) (v : Nat) : (s.setFld f v).sap = s.sap := rfl
@[simp] theorem State.setFld_net (s : State) (f : Fld) (v : Nat) : (s.setFld f v).net = s.net := rfl
@[simp] theorem State.setFld_strm (s : State) (f : Fld) (v : Nat) : (s.setFld f v).strm = s.strm := rfl
@[simp] theorem State.setFld_ptp (s : State) (f : Fld) (v : Nat) : (s.setFld f v).ptp = s.ptp := rfl
@[simp] theorem State.setFld_clk (s : State) (f : Fld) (v : Nat) : (s.setFld f v).clk = s.clk := rfl
@[simp] theorem State.setFld_pair (s : State) (f : Fld) (v : Nat) : (s.setFld f v).pair = s.pair := rfl
@[simp] theorem State.setFld_chain (s : State) (f : Fld) (v : Nat) : (s.setFld f v).chain = s.chain := rfl
@[simp] theorem State.setFld_fab (s : State) (f : Fld) (v : Nat) : (s.setFld f v).fab = s.fab := rfl
@[simp] theorem State.setFld_amp (s : State) (f : Fld) (v : Nat) : (s.setFld f v).amp = s.amp := rfl
@[simp] theorem State.setFld_pcie (s : State) (f : Fld) (v : Nat) : (s.setFld f v).pcie = s.pcie := rfl
@[simp] theorem State.setFld_fcu (s : State) (f : Fld) (v : Nat) : (s.setFld f v).fcu = s.fcu := rfl
@[simp] theorem State.setFld_grng (s : State) (f : Fld) (v : Nat) : (s.setFld f v).grng = s.grng := rfl
@[simp] theorem State.setFld_lcs (s : State) (f : Fld) (v : Nat) : (s.setFld f v).lcs = s.lcs := rfl
@[simp] theorem State.setFld_sens (s : State) (f : Fld) (v : Nat) : (s.setFld f v).sens = s.sens := rfl
@[simp] theorem State.setFld_pwr (s : State) (f : Fld) (v : Nat) : (s.setFld f v).pwr = s.pwr := rfl
@[simp] theorem State.setFld_jtag (s : State) (f : Fld) (v : Nat) : (s.setFld f v).jtag = s.jtag := rfl
@[simp] theorem State.setFld_held (s : State) (f : Fld) (v : Nat) : (s.setFld f v).held = s.held := rfl
@[simp] theorem State.setFld_pending (s : State) (f : Fld) (v : Nat) : (s.setFld f v).pending = s.pending := rfl

/-- A field reads as written, cut to its width. -/
@[simp] theorem State.fld_setFld_same (s : State) (f : Fld) (v : Nat) : (s.setFld f v).fld f = v % f.size := FMap.get_set_same ..
/-- A write of a field leaves every other field alone. -/
@[simp] theorem State.fld_setFld_ne (s : State) (f g : Fld) (v : Nat) (h : f.key ≠ g.key) : (s.setFld f v).fld g = s.fld g :=
  FMap.get_set_ne' _ _ _ _ _ _ h
theorem State.bit_setFld_ne (s : State) (f g : Fld) (v : Nat) (h : f.key ≠ g.key) : (s.setFld f v).bit g = s.bit g := by
  simp [State.bit, h]

/-! A field under an update of another part of the state -/

@[simp] theorem State.fld_with_part (s : State) (x : Part) (f : Fld) : ({ s with part := x } : State).fld f = s.fld f := rfl
@[simp] theorem State.fld_with_pins (s : State) (x : Pins) (f : Fld) : ({ s with pins := x } : State).fld f = s.fld f := rfl
@[simp] theorem State.fld_with_mem (s : State) (x : FMap Byte) (f : Fld) : ({ s with mem := x } : State).fld f = s.fld f := rfl
@[simp] theorem State.fld_with_mem14 (s : State) (x : MemSt) (f : Fld) : ({ s with mem14 := x } : State).fld f = s.fld f := rfl
@[simp] theorem State.fld_with_free (s : State) (x : Nat) (f : Fld) : ({ s with free := x } : State).fld f = s.fld f := rfl
@[simp] theorem State.fld_with_tick (s : State) (x : TickSt) (f : Fld) : ({ s with tick := x } : State).fld f = s.fld f := rfl
@[simp] theorem State.fld_with_cores (s : State) (x : FMap Core) (f : Fld) : ({ s with cores := x } : State).fld f = s.fld f := rfl
@[simp] theorem State.fld_with_hops (s : State) (x : FMap Hop) (f : Fld) : ({ s with hops := x } : State).fld f = s.fld f := rfl
@[simp] theorem State.fld_with_img (s : State) (x : ImgSt) (f : Fld) : ({ s with img := x } : State).fld f = s.fld f := rfl
@[simp] theorem State.fld_with_bind (s : State) (x : BindSt) (f : Fld) : ({ s with bind := x } : State).fld f = s.fld f := rfl
@[simp] theorem State.fld_with_sil (s : State) (x : FMap Sil) (f : Fld) : ({ s with sil := x } : State).fld f = s.fld f := rfl
@[simp] theorem State.fld_with_silo (s : State) (x : SiloSt) (f : Fld) : ({ s with silo := x } : State).fld f = s.fld f := rfl
@[simp] theorem State.fld_with_marv (s : State) (x : MarvSt) (f : Fld) : ({ s with marv := x } : State).fld f = s.fld f := rfl
@[simp] theorem State.fld_with_sap (s : State) (x : SapSt) (f : Fld) : ({ s with sap := x } : State).fld f = s.fld f := rfl
@[simp] theorem State.fld_with_net (s : State) (x : NetSt) (f : Fld) : ({ s with net := x } : State).fld f = s.fld f := rfl
@[simp] theorem State.fld_with_strm (s : State) (x : StrmSt) (f : Fld) : ({ s with strm := x } : State).fld f = s.fld f := rfl
@[simp] theorem State.fld_with_ptp (s : State) (x : PtpSt) (f : Fld) : ({ s with ptp := x } : State).fld f = s.fld f := rfl
@[simp] theorem State.fld_with_clk (s : State) (x : ClkSt) (f : Fld) : ({ s with clk := x } : State).fld f = s.fld f := rfl
@[simp] theorem State.fld_with_pair (s : State) (x : PairSt) (f : Fld) : ({ s with pair := x } : State).fld f = s.fld f := rfl
@[simp] theorem State.fld_with_chain (s : State) (x : ChainSt) (f : Fld) : ({ s with chain := x } : State).fld f = s.fld f := rfl
@[simp] theorem State.fld_with_fab (s : State) (x : FabSt) (f : Fld) : ({ s with fab := x } : State).fld f = s.fld f := rfl
@[simp] theorem State.fld_with_amp (s : State) (x : AmpSt) (f : Fld) : ({ s with amp := x } : State).fld f = s.fld f := rfl
@[simp] theorem State.fld_with_pcie (s : State) (x : PcieSt) (f : Fld) : ({ s with pcie := x } : State).fld f = s.fld f := rfl
@[simp] theorem State.fld_with_fcu (s : State) (x : FcuSt) (f : Fld) : ({ s with fcu := x } : State).fld f = s.fld f := rfl
@[simp] theorem State.fld_with_grng (s : State) (x : GrngSt) (f : Fld) : ({ s with grng := x } : State).fld f = s.fld f := rfl
@[simp] theorem State.fld_with_lcs (s : State) (x : LcsSt) (f : Fld) : ({ s with lcs := x } : State).fld f = s.fld f := rfl
@[simp] theorem State.fld_with_sens (s : State) (x : FMap SensSt) (f : Fld) : ({ s with sens := x } : State).fld f = s.fld f := rfl
@[simp] theorem State.fld_with_pwr (s : State) (x : PwrSt) (f : Fld) : ({ s with pwr := x } : State).fld f = s.fld f := rfl
@[simp] theorem State.fld_with_jtag (s : State) (x : JtagSt) (f : Fld) : ({ s with jtag := x } : State).fld f = s.fld f := rfl
@[simp] theorem State.fld_with_held (s : State) (x : FMap Word) (f : Fld) : ({ s with held := x } : State).fld f = s.fld f := rfl
@[simp] theorem State.fld_with_pending (s : State) (x : List Instr) (f : Fld) : ({ s with pending := x } : State).fld f = s.fld f := rfl

@[simp] theorem State.bit_with_part (s : State) (x : Part) (f : Fld) : ({ s with part := x } : State).bit f = s.bit f := rfl
@[simp] theorem State.bit_with_pins (s : State) (x : Pins) (f : Fld) : ({ s with pins := x } : State).bit f = s.bit f := rfl
@[simp] theorem State.bit_with_mem (s : State) (x : FMap Byte) (f : Fld) : ({ s with mem := x } : State).bit f = s.bit f := rfl
@[simp] theorem State.bit_with_mem14 (s : State) (x : MemSt) (f : Fld) : ({ s with mem14 := x } : State).bit f = s.bit f := rfl
@[simp] theorem State.bit_with_free (s : State) (x : Nat) (f : Fld) : ({ s with free := x } : State).bit f = s.bit f := rfl
@[simp] theorem State.bit_with_tick (s : State) (x : TickSt) (f : Fld) : ({ s with tick := x } : State).bit f = s.bit f := rfl
@[simp] theorem State.bit_with_cores (s : State) (x : FMap Core) (f : Fld) : ({ s with cores := x } : State).bit f = s.bit f := rfl
@[simp] theorem State.bit_with_hops (s : State) (x : FMap Hop) (f : Fld) : ({ s with hops := x } : State).bit f = s.bit f := rfl
@[simp] theorem State.bit_with_img (s : State) (x : ImgSt) (f : Fld) : ({ s with img := x } : State).bit f = s.bit f := rfl
@[simp] theorem State.bit_with_bind (s : State) (x : BindSt) (f : Fld) : ({ s with bind := x } : State).bit f = s.bit f := rfl
@[simp] theorem State.bit_with_sil (s : State) (x : FMap Sil) (f : Fld) : ({ s with sil := x } : State).bit f = s.bit f := rfl
@[simp] theorem State.bit_with_silo (s : State) (x : SiloSt) (f : Fld) : ({ s with silo := x } : State).bit f = s.bit f := rfl
@[simp] theorem State.bit_with_marv (s : State) (x : MarvSt) (f : Fld) : ({ s with marv := x } : State).bit f = s.bit f := rfl
@[simp] theorem State.bit_with_sap (s : State) (x : SapSt) (f : Fld) : ({ s with sap := x } : State).bit f = s.bit f := rfl
@[simp] theorem State.bit_with_net (s : State) (x : NetSt) (f : Fld) : ({ s with net := x } : State).bit f = s.bit f := rfl
@[simp] theorem State.bit_with_strm (s : State) (x : StrmSt) (f : Fld) : ({ s with strm := x } : State).bit f = s.bit f := rfl
@[simp] theorem State.bit_with_ptp (s : State) (x : PtpSt) (f : Fld) : ({ s with ptp := x } : State).bit f = s.bit f := rfl
@[simp] theorem State.bit_with_clk (s : State) (x : ClkSt) (f : Fld) : ({ s with clk := x } : State).bit f = s.bit f := rfl
@[simp] theorem State.bit_with_pair (s : State) (x : PairSt) (f : Fld) : ({ s with pair := x } : State).bit f = s.bit f := rfl
@[simp] theorem State.bit_with_chain (s : State) (x : ChainSt) (f : Fld) : ({ s with chain := x } : State).bit f = s.bit f := rfl
@[simp] theorem State.bit_with_fab (s : State) (x : FabSt) (f : Fld) : ({ s with fab := x } : State).bit f = s.bit f := rfl
@[simp] theorem State.bit_with_amp (s : State) (x : AmpSt) (f : Fld) : ({ s with amp := x } : State).bit f = s.bit f := rfl
@[simp] theorem State.bit_with_pcie (s : State) (x : PcieSt) (f : Fld) : ({ s with pcie := x } : State).bit f = s.bit f := rfl
@[simp] theorem State.bit_with_fcu (s : State) (x : FcuSt) (f : Fld) : ({ s with fcu := x } : State).bit f = s.bit f := rfl
@[simp] theorem State.bit_with_grng (s : State) (x : GrngSt) (f : Fld) : ({ s with grng := x } : State).bit f = s.bit f := rfl
@[simp] theorem State.bit_with_lcs (s : State) (x : LcsSt) (f : Fld) : ({ s with lcs := x } : State).bit f = s.bit f := rfl
@[simp] theorem State.bit_with_sens (s : State) (x : FMap SensSt) (f : Fld) : ({ s with sens := x } : State).bit f = s.bit f := rfl
@[simp] theorem State.bit_with_pwr (s : State) (x : PwrSt) (f : Fld) : ({ s with pwr := x } : State).bit f = s.bit f := rfl
@[simp] theorem State.bit_with_jtag (s : State) (x : JtagSt) (f : Fld) : ({ s with jtag := x } : State).bit f = s.bit f := rfl
@[simp] theorem State.bit_with_held (s : State) (x : FMap Word) (f : Fld) : ({ s with held := x } : State).bit f = s.bit f := rfl
@[simp] theorem State.bit_with_pending (s : State) (x : List Instr) (f : Fld) : ({ s with pending := x } : State).bit f = s.bit f := rfl

/-! The derived updates of fields -/

@[simp] theorem State.setBit_part (s : State) (f : Fld) (b : Bool) : (s.setBit f b).part = s.part := rfl
@[simp] theorem State.setBit_pins (s : State) (f : Fld) (b : Bool) : (s.setBit f b).pins = s.pins := rfl
@[simp] theorem State.setBit_mem (s : State) (f : Fld) (b : Bool) : (s.setBit f b).mem = s.mem := rfl
@[simp] theorem State.setBit_mem14 (s : State) (f : Fld) (b : Bool) : (s.setBit f b).mem14 = s.mem14 := rfl
@[simp] theorem State.setBit_free (s : State) (f : Fld) (b : Bool) : (s.setBit f b).free = s.free := rfl
@[simp] theorem State.setBit_tick (s : State) (f : Fld) (b : Bool) : (s.setBit f b).tick = s.tick := rfl
@[simp] theorem State.setBit_cores (s : State) (f : Fld) (b : Bool) : (s.setBit f b).cores = s.cores := rfl
@[simp] theorem State.setBit_hops (s : State) (f : Fld) (b : Bool) : (s.setBit f b).hops = s.hops := rfl
@[simp] theorem State.setBit_img (s : State) (f : Fld) (b : Bool) : (s.setBit f b).img = s.img := rfl
@[simp] theorem State.setBit_bind (s : State) (f : Fld) (b : Bool) : (s.setBit f b).bind = s.bind := rfl
@[simp] theorem State.setBit_sil (s : State) (f : Fld) (b : Bool) : (s.setBit f b).sil = s.sil := rfl
@[simp] theorem State.setBit_silo (s : State) (f : Fld) (b : Bool) : (s.setBit f b).silo = s.silo := rfl
@[simp] theorem State.setBit_marv (s : State) (f : Fld) (b : Bool) : (s.setBit f b).marv = s.marv := rfl
@[simp] theorem State.setBit_sap (s : State) (f : Fld) (b : Bool) : (s.setBit f b).sap = s.sap := rfl
@[simp] theorem State.setBit_net (s : State) (f : Fld) (b : Bool) : (s.setBit f b).net = s.net := rfl
@[simp] theorem State.setBit_strm (s : State) (f : Fld) (b : Bool) : (s.setBit f b).strm = s.strm := rfl
@[simp] theorem State.setBit_ptp (s : State) (f : Fld) (b : Bool) : (s.setBit f b).ptp = s.ptp := rfl
@[simp] theorem State.setBit_clk (s : State) (f : Fld) (b : Bool) : (s.setBit f b).clk = s.clk := rfl
@[simp] theorem State.setBit_pair (s : State) (f : Fld) (b : Bool) : (s.setBit f b).pair = s.pair := rfl
@[simp] theorem State.setBit_chain (s : State) (f : Fld) (b : Bool) : (s.setBit f b).chain = s.chain := rfl
@[simp] theorem State.setBit_fab (s : State) (f : Fld) (b : Bool) : (s.setBit f b).fab = s.fab := rfl
@[simp] theorem State.setBit_amp (s : State) (f : Fld) (b : Bool) : (s.setBit f b).amp = s.amp := rfl
@[simp] theorem State.setBit_pcie (s : State) (f : Fld) (b : Bool) : (s.setBit f b).pcie = s.pcie := rfl
@[simp] theorem State.setBit_fcu (s : State) (f : Fld) (b : Bool) : (s.setBit f b).fcu = s.fcu := rfl
@[simp] theorem State.setBit_grng (s : State) (f : Fld) (b : Bool) : (s.setBit f b).grng = s.grng := rfl
@[simp] theorem State.setBit_lcs (s : State) (f : Fld) (b : Bool) : (s.setBit f b).lcs = s.lcs := rfl
@[simp] theorem State.setBit_sens (s : State) (f : Fld) (b : Bool) : (s.setBit f b).sens = s.sens := rfl
@[simp] theorem State.setBit_pwr (s : State) (f : Fld) (b : Bool) : (s.setBit f b).pwr = s.pwr := rfl
@[simp] theorem State.setBit_jtag (s : State) (f : Fld) (b : Bool) : (s.setBit f b).jtag = s.jtag := rfl
@[simp] theorem State.setBit_held (s : State) (f : Fld) (b : Bool) : (s.setBit f b).held = s.held := rfl
@[simp] theorem State.setBit_pending (s : State) (f : Fld) (b : Bool) : (s.setBit f b).pending = s.pending := rfl
@[simp] theorem State.setIrq_part (s : State) (f : Fld) (k : Nat) : (s.setIrq f k).part = s.part := rfl
@[simp] theorem State.setIrq_pins (s : State) (f : Fld) (k : Nat) : (s.setIrq f k).pins = s.pins := rfl
@[simp] theorem State.setIrq_mem (s : State) (f : Fld) (k : Nat) : (s.setIrq f k).mem = s.mem := rfl
@[simp] theorem State.setIrq_mem14 (s : State) (f : Fld) (k : Nat) : (s.setIrq f k).mem14 = s.mem14 := rfl
@[simp] theorem State.setIrq_free (s : State) (f : Fld) (k : Nat) : (s.setIrq f k).free = s.free := rfl
@[simp] theorem State.setIrq_tick (s : State) (f : Fld) (k : Nat) : (s.setIrq f k).tick = s.tick := rfl
@[simp] theorem State.setIrq_cores (s : State) (f : Fld) (k : Nat) : (s.setIrq f k).cores = s.cores := rfl
@[simp] theorem State.setIrq_hops (s : State) (f : Fld) (k : Nat) : (s.setIrq f k).hops = s.hops := rfl
@[simp] theorem State.setIrq_img (s : State) (f : Fld) (k : Nat) : (s.setIrq f k).img = s.img := rfl
@[simp] theorem State.setIrq_bind (s : State) (f : Fld) (k : Nat) : (s.setIrq f k).bind = s.bind := rfl
@[simp] theorem State.setIrq_sil (s : State) (f : Fld) (k : Nat) : (s.setIrq f k).sil = s.sil := rfl
@[simp] theorem State.setIrq_silo (s : State) (f : Fld) (k : Nat) : (s.setIrq f k).silo = s.silo := rfl
@[simp] theorem State.setIrq_marv (s : State) (f : Fld) (k : Nat) : (s.setIrq f k).marv = s.marv := rfl
@[simp] theorem State.setIrq_sap (s : State) (f : Fld) (k : Nat) : (s.setIrq f k).sap = s.sap := rfl
@[simp] theorem State.setIrq_net (s : State) (f : Fld) (k : Nat) : (s.setIrq f k).net = s.net := rfl
@[simp] theorem State.setIrq_strm (s : State) (f : Fld) (k : Nat) : (s.setIrq f k).strm = s.strm := rfl
@[simp] theorem State.setIrq_ptp (s : State) (f : Fld) (k : Nat) : (s.setIrq f k).ptp = s.ptp := rfl
@[simp] theorem State.setIrq_clk (s : State) (f : Fld) (k : Nat) : (s.setIrq f k).clk = s.clk := rfl
@[simp] theorem State.setIrq_pair (s : State) (f : Fld) (k : Nat) : (s.setIrq f k).pair = s.pair := rfl
@[simp] theorem State.setIrq_chain (s : State) (f : Fld) (k : Nat) : (s.setIrq f k).chain = s.chain := rfl
@[simp] theorem State.setIrq_fab (s : State) (f : Fld) (k : Nat) : (s.setIrq f k).fab = s.fab := rfl
@[simp] theorem State.setIrq_amp (s : State) (f : Fld) (k : Nat) : (s.setIrq f k).amp = s.amp := rfl
@[simp] theorem State.setIrq_pcie (s : State) (f : Fld) (k : Nat) : (s.setIrq f k).pcie = s.pcie := rfl
@[simp] theorem State.setIrq_fcu (s : State) (f : Fld) (k : Nat) : (s.setIrq f k).fcu = s.fcu := rfl
@[simp] theorem State.setIrq_grng (s : State) (f : Fld) (k : Nat) : (s.setIrq f k).grng = s.grng := rfl
@[simp] theorem State.setIrq_lcs (s : State) (f : Fld) (k : Nat) : (s.setIrq f k).lcs = s.lcs := rfl
@[simp] theorem State.setIrq_sens (s : State) (f : Fld) (k : Nat) : (s.setIrq f k).sens = s.sens := rfl
@[simp] theorem State.setIrq_pwr (s : State) (f : Fld) (k : Nat) : (s.setIrq f k).pwr = s.pwr := rfl
@[simp] theorem State.setIrq_jtag (s : State) (f : Fld) (k : Nat) : (s.setIrq f k).jtag = s.jtag := rfl
@[simp] theorem State.setIrq_held (s : State) (f : Fld) (k : Nat) : (s.setIrq f k).held = s.held := rfl
@[simp] theorem State.setIrq_pending (s : State) (f : Fld) (k : Nat) : (s.setIrq f k).pending = s.pending := rfl
@[simp] theorem State.orFld_part (s : State) (f : Fld) (m : Nat) : (s.orFld f m).part = s.part := rfl
@[simp] theorem State.orFld_pins (s : State) (f : Fld) (m : Nat) : (s.orFld f m).pins = s.pins := rfl
@[simp] theorem State.orFld_mem (s : State) (f : Fld) (m : Nat) : (s.orFld f m).mem = s.mem := rfl
@[simp] theorem State.orFld_mem14 (s : State) (f : Fld) (m : Nat) : (s.orFld f m).mem14 = s.mem14 := rfl
@[simp] theorem State.orFld_free (s : State) (f : Fld) (m : Nat) : (s.orFld f m).free = s.free := rfl
@[simp] theorem State.orFld_tick (s : State) (f : Fld) (m : Nat) : (s.orFld f m).tick = s.tick := rfl
@[simp] theorem State.orFld_cores (s : State) (f : Fld) (m : Nat) : (s.orFld f m).cores = s.cores := rfl
@[simp] theorem State.orFld_hops (s : State) (f : Fld) (m : Nat) : (s.orFld f m).hops = s.hops := rfl
@[simp] theorem State.orFld_img (s : State) (f : Fld) (m : Nat) : (s.orFld f m).img = s.img := rfl
@[simp] theorem State.orFld_bind (s : State) (f : Fld) (m : Nat) : (s.orFld f m).bind = s.bind := rfl
@[simp] theorem State.orFld_sil (s : State) (f : Fld) (m : Nat) : (s.orFld f m).sil = s.sil := rfl
@[simp] theorem State.orFld_silo (s : State) (f : Fld) (m : Nat) : (s.orFld f m).silo = s.silo := rfl
@[simp] theorem State.orFld_marv (s : State) (f : Fld) (m : Nat) : (s.orFld f m).marv = s.marv := rfl
@[simp] theorem State.orFld_sap (s : State) (f : Fld) (m : Nat) : (s.orFld f m).sap = s.sap := rfl
@[simp] theorem State.orFld_net (s : State) (f : Fld) (m : Nat) : (s.orFld f m).net = s.net := rfl
@[simp] theorem State.orFld_strm (s : State) (f : Fld) (m : Nat) : (s.orFld f m).strm = s.strm := rfl
@[simp] theorem State.orFld_ptp (s : State) (f : Fld) (m : Nat) : (s.orFld f m).ptp = s.ptp := rfl
@[simp] theorem State.orFld_clk (s : State) (f : Fld) (m : Nat) : (s.orFld f m).clk = s.clk := rfl
@[simp] theorem State.orFld_pair (s : State) (f : Fld) (m : Nat) : (s.orFld f m).pair = s.pair := rfl
@[simp] theorem State.orFld_chain (s : State) (f : Fld) (m : Nat) : (s.orFld f m).chain = s.chain := rfl
@[simp] theorem State.orFld_fab (s : State) (f : Fld) (m : Nat) : (s.orFld f m).fab = s.fab := rfl
@[simp] theorem State.orFld_amp (s : State) (f : Fld) (m : Nat) : (s.orFld f m).amp = s.amp := rfl
@[simp] theorem State.orFld_pcie (s : State) (f : Fld) (m : Nat) : (s.orFld f m).pcie = s.pcie := rfl
@[simp] theorem State.orFld_fcu (s : State) (f : Fld) (m : Nat) : (s.orFld f m).fcu = s.fcu := rfl
@[simp] theorem State.orFld_grng (s : State) (f : Fld) (m : Nat) : (s.orFld f m).grng = s.grng := rfl
@[simp] theorem State.orFld_lcs (s : State) (f : Fld) (m : Nat) : (s.orFld f m).lcs = s.lcs := rfl
@[simp] theorem State.orFld_sens (s : State) (f : Fld) (m : Nat) : (s.orFld f m).sens = s.sens := rfl
@[simp] theorem State.orFld_pwr (s : State) (f : Fld) (m : Nat) : (s.orFld f m).pwr = s.pwr := rfl
@[simp] theorem State.orFld_jtag (s : State) (f : Fld) (m : Nat) : (s.orFld f m).jtag = s.jtag := rfl
@[simp] theorem State.orFld_held (s : State) (f : Fld) (m : Nat) : (s.orFld f m).held = s.held := rfl
@[simp] theorem State.orFld_pending (s : State) (f : Fld) (m : Nat) : (s.orFld f m).pending = s.pending := rfl
@[simp] theorem State.clrFld_part (s : State) (f : Fld) (m : Nat) : (s.clrFld f m).part = s.part := rfl
@[simp] theorem State.clrFld_pins (s : State) (f : Fld) (m : Nat) : (s.clrFld f m).pins = s.pins := rfl
@[simp] theorem State.clrFld_mem (s : State) (f : Fld) (m : Nat) : (s.clrFld f m).mem = s.mem := rfl
@[simp] theorem State.clrFld_mem14 (s : State) (f : Fld) (m : Nat) : (s.clrFld f m).mem14 = s.mem14 := rfl
@[simp] theorem State.clrFld_free (s : State) (f : Fld) (m : Nat) : (s.clrFld f m).free = s.free := rfl
@[simp] theorem State.clrFld_tick (s : State) (f : Fld) (m : Nat) : (s.clrFld f m).tick = s.tick := rfl
@[simp] theorem State.clrFld_cores (s : State) (f : Fld) (m : Nat) : (s.clrFld f m).cores = s.cores := rfl
@[simp] theorem State.clrFld_hops (s : State) (f : Fld) (m : Nat) : (s.clrFld f m).hops = s.hops := rfl
@[simp] theorem State.clrFld_img (s : State) (f : Fld) (m : Nat) : (s.clrFld f m).img = s.img := rfl
@[simp] theorem State.clrFld_bind (s : State) (f : Fld) (m : Nat) : (s.clrFld f m).bind = s.bind := rfl
@[simp] theorem State.clrFld_sil (s : State) (f : Fld) (m : Nat) : (s.clrFld f m).sil = s.sil := rfl
@[simp] theorem State.clrFld_silo (s : State) (f : Fld) (m : Nat) : (s.clrFld f m).silo = s.silo := rfl
@[simp] theorem State.clrFld_marv (s : State) (f : Fld) (m : Nat) : (s.clrFld f m).marv = s.marv := rfl
@[simp] theorem State.clrFld_sap (s : State) (f : Fld) (m : Nat) : (s.clrFld f m).sap = s.sap := rfl
@[simp] theorem State.clrFld_net (s : State) (f : Fld) (m : Nat) : (s.clrFld f m).net = s.net := rfl
@[simp] theorem State.clrFld_strm (s : State) (f : Fld) (m : Nat) : (s.clrFld f m).strm = s.strm := rfl
@[simp] theorem State.clrFld_ptp (s : State) (f : Fld) (m : Nat) : (s.clrFld f m).ptp = s.ptp := rfl
@[simp] theorem State.clrFld_clk (s : State) (f : Fld) (m : Nat) : (s.clrFld f m).clk = s.clk := rfl
@[simp] theorem State.clrFld_pair (s : State) (f : Fld) (m : Nat) : (s.clrFld f m).pair = s.pair := rfl
@[simp] theorem State.clrFld_chain (s : State) (f : Fld) (m : Nat) : (s.clrFld f m).chain = s.chain := rfl
@[simp] theorem State.clrFld_fab (s : State) (f : Fld) (m : Nat) : (s.clrFld f m).fab = s.fab := rfl
@[simp] theorem State.clrFld_amp (s : State) (f : Fld) (m : Nat) : (s.clrFld f m).amp = s.amp := rfl
@[simp] theorem State.clrFld_pcie (s : State) (f : Fld) (m : Nat) : (s.clrFld f m).pcie = s.pcie := rfl
@[simp] theorem State.clrFld_fcu (s : State) (f : Fld) (m : Nat) : (s.clrFld f m).fcu = s.fcu := rfl
@[simp] theorem State.clrFld_grng (s : State) (f : Fld) (m : Nat) : (s.clrFld f m).grng = s.grng := rfl
@[simp] theorem State.clrFld_lcs (s : State) (f : Fld) (m : Nat) : (s.clrFld f m).lcs = s.lcs := rfl
@[simp] theorem State.clrFld_sens (s : State) (f : Fld) (m : Nat) : (s.clrFld f m).sens = s.sens := rfl
@[simp] theorem State.clrFld_pwr (s : State) (f : Fld) (m : Nat) : (s.clrFld f m).pwr = s.pwr := rfl
@[simp] theorem State.clrFld_jtag (s : State) (f : Fld) (m : Nat) : (s.clrFld f m).jtag = s.jtag := rfl
@[simp] theorem State.clrFld_held (s : State) (f : Fld) (m : Nat) : (s.clrFld f m).held = s.held := rfl
@[simp] theorem State.clrFld_pending (s : State) (f : Fld) (m : Nat) : (s.clrFld f m).pending = s.pending := rfl
@[simp] theorem State.countSat_part (s : State) (f : Fld) (n : Nat) : (s.countSat f n).part = s.part := rfl
@[simp] theorem State.countSat_pins (s : State) (f : Fld) (n : Nat) : (s.countSat f n).pins = s.pins := rfl
@[simp] theorem State.countSat_mem (s : State) (f : Fld) (n : Nat) : (s.countSat f n).mem = s.mem := rfl
@[simp] theorem State.countSat_mem14 (s : State) (f : Fld) (n : Nat) : (s.countSat f n).mem14 = s.mem14 := rfl
@[simp] theorem State.countSat_free (s : State) (f : Fld) (n : Nat) : (s.countSat f n).free = s.free := rfl
@[simp] theorem State.countSat_tick (s : State) (f : Fld) (n : Nat) : (s.countSat f n).tick = s.tick := rfl
@[simp] theorem State.countSat_cores (s : State) (f : Fld) (n : Nat) : (s.countSat f n).cores = s.cores := rfl
@[simp] theorem State.countSat_hops (s : State) (f : Fld) (n : Nat) : (s.countSat f n).hops = s.hops := rfl
@[simp] theorem State.countSat_img (s : State) (f : Fld) (n : Nat) : (s.countSat f n).img = s.img := rfl
@[simp] theorem State.countSat_bind (s : State) (f : Fld) (n : Nat) : (s.countSat f n).bind = s.bind := rfl
@[simp] theorem State.countSat_sil (s : State) (f : Fld) (n : Nat) : (s.countSat f n).sil = s.sil := rfl
@[simp] theorem State.countSat_silo (s : State) (f : Fld) (n : Nat) : (s.countSat f n).silo = s.silo := rfl
@[simp] theorem State.countSat_marv (s : State) (f : Fld) (n : Nat) : (s.countSat f n).marv = s.marv := rfl
@[simp] theorem State.countSat_sap (s : State) (f : Fld) (n : Nat) : (s.countSat f n).sap = s.sap := rfl
@[simp] theorem State.countSat_net (s : State) (f : Fld) (n : Nat) : (s.countSat f n).net = s.net := rfl
@[simp] theorem State.countSat_strm (s : State) (f : Fld) (n : Nat) : (s.countSat f n).strm = s.strm := rfl
@[simp] theorem State.countSat_ptp (s : State) (f : Fld) (n : Nat) : (s.countSat f n).ptp = s.ptp := rfl
@[simp] theorem State.countSat_clk (s : State) (f : Fld) (n : Nat) : (s.countSat f n).clk = s.clk := rfl
@[simp] theorem State.countSat_pair (s : State) (f : Fld) (n : Nat) : (s.countSat f n).pair = s.pair := rfl
@[simp] theorem State.countSat_chain (s : State) (f : Fld) (n : Nat) : (s.countSat f n).chain = s.chain := rfl
@[simp] theorem State.countSat_fab (s : State) (f : Fld) (n : Nat) : (s.countSat f n).fab = s.fab := rfl
@[simp] theorem State.countSat_amp (s : State) (f : Fld) (n : Nat) : (s.countSat f n).amp = s.amp := rfl
@[simp] theorem State.countSat_pcie (s : State) (f : Fld) (n : Nat) : (s.countSat f n).pcie = s.pcie := rfl
@[simp] theorem State.countSat_fcu (s : State) (f : Fld) (n : Nat) : (s.countSat f n).fcu = s.fcu := rfl
@[simp] theorem State.countSat_grng (s : State) (f : Fld) (n : Nat) : (s.countSat f n).grng = s.grng := rfl
@[simp] theorem State.countSat_lcs (s : State) (f : Fld) (n : Nat) : (s.countSat f n).lcs = s.lcs := rfl
@[simp] theorem State.countSat_sens (s : State) (f : Fld) (n : Nat) : (s.countSat f n).sens = s.sens := rfl
@[simp] theorem State.countSat_pwr (s : State) (f : Fld) (n : Nat) : (s.countSat f n).pwr = s.pwr := rfl
@[simp] theorem State.countSat_jtag (s : State) (f : Fld) (n : Nat) : (s.countSat f n).jtag = s.jtag := rfl
@[simp] theorem State.countSat_held (s : State) (f : Fld) (n : Nat) : (s.countSat f n).held = s.held := rfl
@[simp] theorem State.countSat_pending (s : State) (f : Fld) (n : Nat) : (s.countSat f n).pending = s.pending := rfl
@[simp] theorem State.setSFld_part (s : State) (f : Fld) (i : Int) : (s.setSFld f i).part = s.part := rfl
@[simp] theorem State.setSFld_pins (s : State) (f : Fld) (i : Int) : (s.setSFld f i).pins = s.pins := rfl
@[simp] theorem State.setSFld_mem (s : State) (f : Fld) (i : Int) : (s.setSFld f i).mem = s.mem := rfl
@[simp] theorem State.setSFld_mem14 (s : State) (f : Fld) (i : Int) : (s.setSFld f i).mem14 = s.mem14 := rfl
@[simp] theorem State.setSFld_free (s : State) (f : Fld) (i : Int) : (s.setSFld f i).free = s.free := rfl
@[simp] theorem State.setSFld_tick (s : State) (f : Fld) (i : Int) : (s.setSFld f i).tick = s.tick := rfl
@[simp] theorem State.setSFld_cores (s : State) (f : Fld) (i : Int) : (s.setSFld f i).cores = s.cores := rfl
@[simp] theorem State.setSFld_hops (s : State) (f : Fld) (i : Int) : (s.setSFld f i).hops = s.hops := rfl
@[simp] theorem State.setSFld_img (s : State) (f : Fld) (i : Int) : (s.setSFld f i).img = s.img := rfl
@[simp] theorem State.setSFld_bind (s : State) (f : Fld) (i : Int) : (s.setSFld f i).bind = s.bind := rfl
@[simp] theorem State.setSFld_sil (s : State) (f : Fld) (i : Int) : (s.setSFld f i).sil = s.sil := rfl
@[simp] theorem State.setSFld_silo (s : State) (f : Fld) (i : Int) : (s.setSFld f i).silo = s.silo := rfl
@[simp] theorem State.setSFld_marv (s : State) (f : Fld) (i : Int) : (s.setSFld f i).marv = s.marv := rfl
@[simp] theorem State.setSFld_sap (s : State) (f : Fld) (i : Int) : (s.setSFld f i).sap = s.sap := rfl
@[simp] theorem State.setSFld_net (s : State) (f : Fld) (i : Int) : (s.setSFld f i).net = s.net := rfl
@[simp] theorem State.setSFld_strm (s : State) (f : Fld) (i : Int) : (s.setSFld f i).strm = s.strm := rfl
@[simp] theorem State.setSFld_ptp (s : State) (f : Fld) (i : Int) : (s.setSFld f i).ptp = s.ptp := rfl
@[simp] theorem State.setSFld_clk (s : State) (f : Fld) (i : Int) : (s.setSFld f i).clk = s.clk := rfl
@[simp] theorem State.setSFld_pair (s : State) (f : Fld) (i : Int) : (s.setSFld f i).pair = s.pair := rfl
@[simp] theorem State.setSFld_chain (s : State) (f : Fld) (i : Int) : (s.setSFld f i).chain = s.chain := rfl
@[simp] theorem State.setSFld_fab (s : State) (f : Fld) (i : Int) : (s.setSFld f i).fab = s.fab := rfl
@[simp] theorem State.setSFld_amp (s : State) (f : Fld) (i : Int) : (s.setSFld f i).amp = s.amp := rfl
@[simp] theorem State.setSFld_pcie (s : State) (f : Fld) (i : Int) : (s.setSFld f i).pcie = s.pcie := rfl
@[simp] theorem State.setSFld_fcu (s : State) (f : Fld) (i : Int) : (s.setSFld f i).fcu = s.fcu := rfl
@[simp] theorem State.setSFld_grng (s : State) (f : Fld) (i : Int) : (s.setSFld f i).grng = s.grng := rfl
@[simp] theorem State.setSFld_lcs (s : State) (f : Fld) (i : Int) : (s.setSFld f i).lcs = s.lcs := rfl
@[simp] theorem State.setSFld_sens (s : State) (f : Fld) (i : Int) : (s.setSFld f i).sens = s.sens := rfl
@[simp] theorem State.setSFld_pwr (s : State) (f : Fld) (i : Int) : (s.setSFld f i).pwr = s.pwr := rfl
@[simp] theorem State.setSFld_jtag (s : State) (f : Fld) (i : Int) : (s.setSFld f i).jtag = s.jtag := rfl
@[simp] theorem State.setSFld_held (s : State) (f : Fld) (i : Int) : (s.setSFld f i).held = s.held := rfl
@[simp] theorem State.setSFld_pending (s : State) (f : Fld) (i : Int) : (s.setSFld f i).pending = s.pending := rfl
@[simp] theorem State.setReg64_part (s : State) (f g : Fld) (v : Nat) : (s.setReg64 f g v).part = s.part := rfl
@[simp] theorem State.setReg64_pins (s : State) (f g : Fld) (v : Nat) : (s.setReg64 f g v).pins = s.pins := rfl
@[simp] theorem State.setReg64_mem (s : State) (f g : Fld) (v : Nat) : (s.setReg64 f g v).mem = s.mem := rfl
@[simp] theorem State.setReg64_mem14 (s : State) (f g : Fld) (v : Nat) : (s.setReg64 f g v).mem14 = s.mem14 := rfl
@[simp] theorem State.setReg64_free (s : State) (f g : Fld) (v : Nat) : (s.setReg64 f g v).free = s.free := rfl
@[simp] theorem State.setReg64_tick (s : State) (f g : Fld) (v : Nat) : (s.setReg64 f g v).tick = s.tick := rfl
@[simp] theorem State.setReg64_cores (s : State) (f g : Fld) (v : Nat) : (s.setReg64 f g v).cores = s.cores := rfl
@[simp] theorem State.setReg64_hops (s : State) (f g : Fld) (v : Nat) : (s.setReg64 f g v).hops = s.hops := rfl
@[simp] theorem State.setReg64_img (s : State) (f g : Fld) (v : Nat) : (s.setReg64 f g v).img = s.img := rfl
@[simp] theorem State.setReg64_bind (s : State) (f g : Fld) (v : Nat) : (s.setReg64 f g v).bind = s.bind := rfl
@[simp] theorem State.setReg64_sil (s : State) (f g : Fld) (v : Nat) : (s.setReg64 f g v).sil = s.sil := rfl
@[simp] theorem State.setReg64_silo (s : State) (f g : Fld) (v : Nat) : (s.setReg64 f g v).silo = s.silo := rfl
@[simp] theorem State.setReg64_marv (s : State) (f g : Fld) (v : Nat) : (s.setReg64 f g v).marv = s.marv := rfl
@[simp] theorem State.setReg64_sap (s : State) (f g : Fld) (v : Nat) : (s.setReg64 f g v).sap = s.sap := rfl
@[simp] theorem State.setReg64_net (s : State) (f g : Fld) (v : Nat) : (s.setReg64 f g v).net = s.net := rfl
@[simp] theorem State.setReg64_strm (s : State) (f g : Fld) (v : Nat) : (s.setReg64 f g v).strm = s.strm := rfl
@[simp] theorem State.setReg64_ptp (s : State) (f g : Fld) (v : Nat) : (s.setReg64 f g v).ptp = s.ptp := rfl
@[simp] theorem State.setReg64_clk (s : State) (f g : Fld) (v : Nat) : (s.setReg64 f g v).clk = s.clk := rfl
@[simp] theorem State.setReg64_pair (s : State) (f g : Fld) (v : Nat) : (s.setReg64 f g v).pair = s.pair := rfl
@[simp] theorem State.setReg64_chain (s : State) (f g : Fld) (v : Nat) : (s.setReg64 f g v).chain = s.chain := rfl
@[simp] theorem State.setReg64_fab (s : State) (f g : Fld) (v : Nat) : (s.setReg64 f g v).fab = s.fab := rfl
@[simp] theorem State.setReg64_amp (s : State) (f g : Fld) (v : Nat) : (s.setReg64 f g v).amp = s.amp := rfl
@[simp] theorem State.setReg64_pcie (s : State) (f g : Fld) (v : Nat) : (s.setReg64 f g v).pcie = s.pcie := rfl
@[simp] theorem State.setReg64_fcu (s : State) (f g : Fld) (v : Nat) : (s.setReg64 f g v).fcu = s.fcu := rfl
@[simp] theorem State.setReg64_grng (s : State) (f g : Fld) (v : Nat) : (s.setReg64 f g v).grng = s.grng := rfl
@[simp] theorem State.setReg64_lcs (s : State) (f g : Fld) (v : Nat) : (s.setReg64 f g v).lcs = s.lcs := rfl
@[simp] theorem State.setReg64_sens (s : State) (f g : Fld) (v : Nat) : (s.setReg64 f g v).sens = s.sens := rfl
@[simp] theorem State.setReg64_pwr (s : State) (f g : Fld) (v : Nat) : (s.setReg64 f g v).pwr = s.pwr := rfl
@[simp] theorem State.setReg64_jtag (s : State) (f g : Fld) (v : Nat) : (s.setReg64 f g v).jtag = s.jtag := rfl
@[simp] theorem State.setReg64_held (s : State) (f g : Fld) (v : Nat) : (s.setReg64 f g v).held = s.held := rfl
@[simp] theorem State.setReg64_pending (s : State) (f g : Fld) (v : Nat) : (s.setReg64 f g v).pending = s.pending := rfl

@[simp] theorem State.fld_setBit_same (s : State) (f : Fld) (b : Bool) : (s.setBit f b).fld f = (if b then 1 else 0) % f.size := by
  simp [State.setBit]
@[simp] theorem State.fld_setBit_ne (s : State) (f g : Fld) (b : Bool) (h : f.key ≠ g.key) : (s.setBit f b).fld g = s.fld g := by
  simp [State.setBit, h]
@[simp] theorem State.fld_setIrq_ne (s : State) (f g : Fld) (k : Nat) (h : f.key ≠ g.key) : (s.setIrq f k).fld g = s.fld g := by
  simp [State.setIrq, State.orFld, h]
@[simp] theorem State.fld_setIrq_same (s : State) (f : Fld) (k : Nat) : (s.setIrq f k).fld f = (s.fld f ||| 2 ^ k) % f.size := by
  simp [State.setIrq, State.orFld]
@[simp] theorem State.fld_countSat_ne (s : State) (f g : Fld) (n : Nat) (h : f.key ≠ g.key) : (s.countSat f n).fld g = s.fld g := by
  simp [State.countSat, h]
@[simp] theorem State.fld_setSFld_ne (s : State) (f g : Fld) (i : Int) (h : f.key ≠ g.key) : (s.setSFld f i).fld g = s.fld g := by
  simp [State.setSFld, h]
@[simp] theorem State.fld_setReg64_ne (s : State) (lo hi g : Fld) (v : Nat) (h : lo.key ≠ g.key) (h' : hi.key ≠ g.key) :
    (s.setReg64 lo hi v).fld g = s.fld g := by
  simp [State.setReg64, h, h']
/-- A counter leaves every other field alone. -/
@[simp] theorem State.fld_count_ne (s : State) (f g : Fld) (n : Nat) (h : f.key ≠ g.key) : (s.count f n).fld g = s.fld g := by
  unfold State.count; split <;> simp [State.takeFree, h]
/-- A counter below its top counts. -/
theorem State.fld_count_same (s : State) (f : Fld) (n : Nat) (h : s.fld f + n < f.size) : (s.count f n).fld f = s.fld f + n := by
  simp [State.count, h, Nat.mod_eq_of_lt h]

@[simp] theorem State.count_part (s : State) (f : Fld) (n : Nat) : (s.count f n).part = s.part := by unfold State.count; split <;> rfl
@[simp] theorem State.count_pins (s : State) (f : Fld) (n : Nat) : (s.count f n).pins = s.pins := by unfold State.count; split <;> rfl
@[simp] theorem State.count_mem (s : State) (f : Fld) (n : Nat) : (s.count f n).mem = s.mem := by unfold State.count; split <;> rfl
@[simp] theorem State.count_mem14 (s : State) (f : Fld) (n : Nat) : (s.count f n).mem14 = s.mem14 := by unfold State.count; split <;> rfl
@[simp] theorem State.count_tick (s : State) (f : Fld) (n : Nat) : (s.count f n).tick = s.tick := by unfold State.count; split <;> rfl
@[simp] theorem State.count_cores (s : State) (f : Fld) (n : Nat) : (s.count f n).cores = s.cores := by unfold State.count; split <;> rfl
@[simp] theorem State.count_hops (s : State) (f : Fld) (n : Nat) : (s.count f n).hops = s.hops := by unfold State.count; split <;> rfl
@[simp] theorem State.count_img (s : State) (f : Fld) (n : Nat) : (s.count f n).img = s.img := by unfold State.count; split <;> rfl
@[simp] theorem State.count_bind (s : State) (f : Fld) (n : Nat) : (s.count f n).bind = s.bind := by unfold State.count; split <;> rfl
@[simp] theorem State.count_sil (s : State) (f : Fld) (n : Nat) : (s.count f n).sil = s.sil := by unfold State.count; split <;> rfl
@[simp] theorem State.count_silo (s : State) (f : Fld) (n : Nat) : (s.count f n).silo = s.silo := by unfold State.count; split <;> rfl
@[simp] theorem State.count_marv (s : State) (f : Fld) (n : Nat) : (s.count f n).marv = s.marv := by unfold State.count; split <;> rfl
@[simp] theorem State.count_sap (s : State) (f : Fld) (n : Nat) : (s.count f n).sap = s.sap := by unfold State.count; split <;> rfl
@[simp] theorem State.count_net (s : State) (f : Fld) (n : Nat) : (s.count f n).net = s.net := by unfold State.count; split <;> rfl
@[simp] theorem State.count_strm (s : State) (f : Fld) (n : Nat) : (s.count f n).strm = s.strm := by unfold State.count; split <;> rfl
@[simp] theorem State.count_ptp (s : State) (f : Fld) (n : Nat) : (s.count f n).ptp = s.ptp := by unfold State.count; split <;> rfl
@[simp] theorem State.count_clk (s : State) (f : Fld) (n : Nat) : (s.count f n).clk = s.clk := by unfold State.count; split <;> rfl
@[simp] theorem State.count_pair (s : State) (f : Fld) (n : Nat) : (s.count f n).pair = s.pair := by unfold State.count; split <;> rfl
@[simp] theorem State.count_chain (s : State) (f : Fld) (n : Nat) : (s.count f n).chain = s.chain := by unfold State.count; split <;> rfl
@[simp] theorem State.count_fab (s : State) (f : Fld) (n : Nat) : (s.count f n).fab = s.fab := by unfold State.count; split <;> rfl
@[simp] theorem State.count_amp (s : State) (f : Fld) (n : Nat) : (s.count f n).amp = s.amp := by unfold State.count; split <;> rfl
@[simp] theorem State.count_pcie (s : State) (f : Fld) (n : Nat) : (s.count f n).pcie = s.pcie := by unfold State.count; split <;> rfl
@[simp] theorem State.count_fcu (s : State) (f : Fld) (n : Nat) : (s.count f n).fcu = s.fcu := by unfold State.count; split <;> rfl
@[simp] theorem State.count_grng (s : State) (f : Fld) (n : Nat) : (s.count f n).grng = s.grng := by unfold State.count; split <;> rfl
@[simp] theorem State.count_lcs (s : State) (f : Fld) (n : Nat) : (s.count f n).lcs = s.lcs := by unfold State.count; split <;> rfl
@[simp] theorem State.count_sens (s : State) (f : Fld) (n : Nat) : (s.count f n).sens = s.sens := by unfold State.count; split <;> rfl
@[simp] theorem State.count_pwr (s : State) (f : Fld) (n : Nat) : (s.count f n).pwr = s.pwr := by unfold State.count; split <;> rfl
@[simp] theorem State.count_jtag (s : State) (f : Fld) (n : Nat) : (s.count f n).jtag = s.jtag := by unfold State.count; split <;> rfl
@[simp] theorem State.count_held (s : State) (f : Fld) (n : Nat) : (s.count f n).held = s.held := by unfold State.count; split <;> rfl
@[simp] theorem State.count_pending (s : State) (f : Fld) (n : Nat) : (s.count f n).pending = s.pending := by unfold State.count; split <;> rfl

/-! Memory bytes -/

@[simp] theorem State.setBytes_regs (s : State) (a : Nat) (bs : List Byte) : (s.setBytes a bs).regs = s.regs := rfl
@[simp] theorem State.setBytes_part (s : State) (a : Nat) (bs : List Byte) : (s.setBytes a bs).part = s.part := rfl
@[simp] theorem State.setBytes_pins (s : State) (a : Nat) (bs : List Byte) : (s.setBytes a bs).pins = s.pins := rfl
@[simp] theorem State.setBytes_mem14 (s : State) (a : Nat) (bs : List Byte) : (s.setBytes a bs).mem14 = s.mem14 := rfl
@[simp] theorem State.setBytes_free (s : State) (a : Nat) (bs : List Byte) : (s.setBytes a bs).free = s.free := rfl
@[simp] theorem State.setBytes_tick (s : State) (a : Nat) (bs : List Byte) : (s.setBytes a bs).tick = s.tick := rfl
@[simp] theorem State.setBytes_cores (s : State) (a : Nat) (bs : List Byte) : (s.setBytes a bs).cores = s.cores := rfl
@[simp] theorem State.setBytes_hops (s : State) (a : Nat) (bs : List Byte) : (s.setBytes a bs).hops = s.hops := rfl
@[simp] theorem State.setBytes_img (s : State) (a : Nat) (bs : List Byte) : (s.setBytes a bs).img = s.img := rfl
@[simp] theorem State.setBytes_bind (s : State) (a : Nat) (bs : List Byte) : (s.setBytes a bs).bind = s.bind := rfl
@[simp] theorem State.setBytes_sil (s : State) (a : Nat) (bs : List Byte) : (s.setBytes a bs).sil = s.sil := rfl
@[simp] theorem State.setBytes_silo (s : State) (a : Nat) (bs : List Byte) : (s.setBytes a bs).silo = s.silo := rfl
@[simp] theorem State.setBytes_marv (s : State) (a : Nat) (bs : List Byte) : (s.setBytes a bs).marv = s.marv := rfl
@[simp] theorem State.setBytes_sap (s : State) (a : Nat) (bs : List Byte) : (s.setBytes a bs).sap = s.sap := rfl
@[simp] theorem State.setBytes_net (s : State) (a : Nat) (bs : List Byte) : (s.setBytes a bs).net = s.net := rfl
@[simp] theorem State.setBytes_strm (s : State) (a : Nat) (bs : List Byte) : (s.setBytes a bs).strm = s.strm := rfl
@[simp] theorem State.setBytes_ptp (s : State) (a : Nat) (bs : List Byte) : (s.setBytes a bs).ptp = s.ptp := rfl
@[simp] theorem State.setBytes_clk (s : State) (a : Nat) (bs : List Byte) : (s.setBytes a bs).clk = s.clk := rfl
@[simp] theorem State.setBytes_pair (s : State) (a : Nat) (bs : List Byte) : (s.setBytes a bs).pair = s.pair := rfl
@[simp] theorem State.setBytes_chain (s : State) (a : Nat) (bs : List Byte) : (s.setBytes a bs).chain = s.chain := rfl
@[simp] theorem State.setBytes_fab (s : State) (a : Nat) (bs : List Byte) : (s.setBytes a bs).fab = s.fab := rfl
@[simp] theorem State.setBytes_amp (s : State) (a : Nat) (bs : List Byte) : (s.setBytes a bs).amp = s.amp := rfl
@[simp] theorem State.setBytes_pcie (s : State) (a : Nat) (bs : List Byte) : (s.setBytes a bs).pcie = s.pcie := rfl
@[simp] theorem State.setBytes_fcu (s : State) (a : Nat) (bs : List Byte) : (s.setBytes a bs).fcu = s.fcu := rfl
@[simp] theorem State.setBytes_grng (s : State) (a : Nat) (bs : List Byte) : (s.setBytes a bs).grng = s.grng := rfl
@[simp] theorem State.setBytes_lcs (s : State) (a : Nat) (bs : List Byte) : (s.setBytes a bs).lcs = s.lcs := rfl
@[simp] theorem State.setBytes_sens (s : State) (a : Nat) (bs : List Byte) : (s.setBytes a bs).sens = s.sens := rfl
@[simp] theorem State.setBytes_pwr (s : State) (a : Nat) (bs : List Byte) : (s.setBytes a bs).pwr = s.pwr := rfl
@[simp] theorem State.setBytes_jtag (s : State) (a : Nat) (bs : List Byte) : (s.setBytes a bs).jtag = s.jtag := rfl
@[simp] theorem State.setBytes_held (s : State) (a : Nat) (bs : List Byte) : (s.setBytes a bs).held = s.held := rfl
@[simp] theorem State.setBytes_pending (s : State) (a : Nat) (bs : List Byte) : (s.setBytes a bs).pending = s.pending := rfl
@[simp] theorem State.fld_setBytes (s : State) (a : Nat) (bs : List Byte) (f : Fld) : (s.setBytes a bs).fld f = s.fld f := rfl
/-- The bytes just written are read back. -/
theorem State.bytes_setBytes (s : State) (a : Nat) (bs : List Byte) : (s.setBytes a bs).bytes a bs.length = bs := FMap.getRun_setRun ..
/-- A write leaves every byte outside it alone. -/
theorem State.byte_setBytes_out (s : State) (a : Nat) (bs : List Byte) (b : Nat) (h : b < a ∨ a + bs.length ≤ b) :
    (s.setBytes a bs).byte b = s.byte b := FMap.get_setRun_out _ _ _ _ _ h
/-- A write keeps the canonical form of memory. -/
theorem State.mem_wf_setBytes (s : State) (a : Nat) (bs : List Byte) (h : FMap.wf 0 s.mem = true) : FMap.wf 0 (s.setBytes a bs).mem = true :=
  FMap.wf_setRun _ _ _ _ h
theorem State.mem_wf_setByte (s : State) (a : Nat) (b : Byte) (h : FMap.wf 0 s.mem = true) : FMap.wf 0 (s.setByte a b).mem = true :=
  FMap.wf_set _ _ _ _ h

/-! Cores -/

@[simp] theorem State.setCore_regs (s : State) (n : Nat) (k : Core) : (s.setCore n k).regs = s.regs := rfl
@[simp] theorem State.setCore_part (s : State) (n : Nat) (k : Core) : (s.setCore n k).part = s.part := rfl
@[simp] theorem State.setCore_pins (s : State) (n : Nat) (k : Core) : (s.setCore n k).pins = s.pins := rfl
@[simp] theorem State.setCore_mem (s : State) (n : Nat) (k : Core) : (s.setCore n k).mem = s.mem := rfl
@[simp] theorem State.setCore_mem14 (s : State) (n : Nat) (k : Core) : (s.setCore n k).mem14 = s.mem14 := rfl
@[simp] theorem State.setCore_free (s : State) (n : Nat) (k : Core) : (s.setCore n k).free = s.free := rfl
@[simp] theorem State.setCore_tick (s : State) (n : Nat) (k : Core) : (s.setCore n k).tick = s.tick := rfl
@[simp] theorem State.setCore_hops (s : State) (n : Nat) (k : Core) : (s.setCore n k).hops = s.hops := rfl
@[simp] theorem State.setCore_img (s : State) (n : Nat) (k : Core) : (s.setCore n k).img = s.img := rfl
@[simp] theorem State.setCore_bind (s : State) (n : Nat) (k : Core) : (s.setCore n k).bind = s.bind := rfl
@[simp] theorem State.setCore_sil (s : State) (n : Nat) (k : Core) : (s.setCore n k).sil = s.sil := rfl
@[simp] theorem State.setCore_silo (s : State) (n : Nat) (k : Core) : (s.setCore n k).silo = s.silo := rfl
@[simp] theorem State.setCore_marv (s : State) (n : Nat) (k : Core) : (s.setCore n k).marv = s.marv := rfl
@[simp] theorem State.setCore_sap (s : State) (n : Nat) (k : Core) : (s.setCore n k).sap = s.sap := rfl
@[simp] theorem State.setCore_net (s : State) (n : Nat) (k : Core) : (s.setCore n k).net = s.net := rfl
@[simp] theorem State.setCore_strm (s : State) (n : Nat) (k : Core) : (s.setCore n k).strm = s.strm := rfl
@[simp] theorem State.setCore_ptp (s : State) (n : Nat) (k : Core) : (s.setCore n k).ptp = s.ptp := rfl
@[simp] theorem State.setCore_clk (s : State) (n : Nat) (k : Core) : (s.setCore n k).clk = s.clk := rfl
@[simp] theorem State.setCore_pair (s : State) (n : Nat) (k : Core) : (s.setCore n k).pair = s.pair := rfl
@[simp] theorem State.setCore_chain (s : State) (n : Nat) (k : Core) : (s.setCore n k).chain = s.chain := rfl
@[simp] theorem State.setCore_fab (s : State) (n : Nat) (k : Core) : (s.setCore n k).fab = s.fab := rfl
@[simp] theorem State.setCore_amp (s : State) (n : Nat) (k : Core) : (s.setCore n k).amp = s.amp := rfl
@[simp] theorem State.setCore_pcie (s : State) (n : Nat) (k : Core) : (s.setCore n k).pcie = s.pcie := rfl
@[simp] theorem State.setCore_fcu (s : State) (n : Nat) (k : Core) : (s.setCore n k).fcu = s.fcu := rfl
@[simp] theorem State.setCore_grng (s : State) (n : Nat) (k : Core) : (s.setCore n k).grng = s.grng := rfl
@[simp] theorem State.setCore_lcs (s : State) (n : Nat) (k : Core) : (s.setCore n k).lcs = s.lcs := rfl
@[simp] theorem State.setCore_sens (s : State) (n : Nat) (k : Core) : (s.setCore n k).sens = s.sens := rfl
@[simp] theorem State.setCore_pwr (s : State) (n : Nat) (k : Core) : (s.setCore n k).pwr = s.pwr := rfl
@[simp] theorem State.setCore_jtag (s : State) (n : Nat) (k : Core) : (s.setCore n k).jtag = s.jtag := rfl
@[simp] theorem State.setCore_held (s : State) (n : Nat) (k : Core) : (s.setCore n k).held = s.held := rfl
@[simp] theorem State.setCore_pending (s : State) (n : Nat) (k : Core) : (s.setCore n k).pending = s.pending := rfl
@[simp] theorem State.fld_setCore (s : State) (n : Nat) (k : Core) (f : Fld) : (s.setCore n k).fld f = s.fld f := rfl
@[simp] theorem State.core_setCore_same (s : State) (n : Nat) (k : Core) : (s.setCore n k).core n = k := FMap.get_set_same ..
theorem State.core_setCore_ne (s : State) (n m : Nat) (k : Core) (h : n ≠ m) : (s.setCore n k).core m = s.core m := FMap.get_set_ne _ _ _ _ _ h
@[simp] theorem State.core_setFld (s : State) (f : Fld) (v n : Nat) : (s.setFld f v).core n = s.core n := rfl

end Sys2Proof.Machine
end

