-- ==== Sys2Proof/Laws/Fcu.lean ====
section
/-!
SUPPORT. What a fault message touches (R379–R394): the collector's registers and state, the log buffer with its drop counter, and the free
values; every other register and part of the state stays.
-/

namespace Sys2Proof.FaultStep

open Machine

theorem refl (s : State) : FaultStep s s := ⟨rfl, fun _ _ => rfl⟩
theorem trans {s t u : State} (h : FaultStep s t) (k : FaultStep t u) : FaultStep s u :=
  ⟨by rw [k.rest]; rw [h.rest], fun f hf => (k.keep f hf).trans (h.keep f hf)⟩
theorem fcu (s : State) (x : FcuSt) : FaultStep s { s with fcu := x } := ⟨rfl, fun _ _ => rfl⟩
theorem grng (s : State) (x : GrngSt) : FaultStep s { s with grng := x } := ⟨rfl, fun _ _ => rfl⟩
theorem free (s : State) (x : Nat) : FaultStep s { s with free := x } := ⟨rfl, fun _ _ => rfl⟩
theorem set (s : State) (f : Fld) (v : Nat) (h : Fld.ofFault f = true) : FaultStep s (s.setFld f v) :=
  ⟨rfl, fun g hg => State.fld_setFld_ne s f g v (fun e => by
    unfold Fld.ofFault at h hg; rw [e, hg] at h; exact Bool.false_ne_true h)⟩
theorem count (s : State) (f : Fld) (n : Nat) (h : Fld.ofFault f = true) : FaultStep s (s.count f n) := by
  unfold State.count
  split
  · exact set _ _ _ h
  · exact (free s _).trans (set _ _ _ h)
theorem irq (s : State) (f : Fld) (k : Nat) (h : Fld.ofFault f = true) : FaultStep s (s.setIrq f k) := set _ _ _ h
theorem bit (s : State) (f : Fld) (b : Bool) (h : Fld.ofFault f = true) : FaultStep s (s.setBit f b) := set _ _ _ h
theorem reg64 (s : State) (f g : Fld) (v : Nat) (h : Fld.ofFault f = true) (k : Fld.ofFault g = true) : FaultStep s (s.setReg64 f g v) :=
  (set _ _ _ h).trans (set _ _ _ k)

theorem putFirst (s : State) (a b c d : Nat) (i : Bool) : FaultStep s (s.putFirst a b c d i) := by
  unfold State.putFirst
  refine trans (trans (trans (trans (trans (trans (trans (set _ _ _ ?_) (set _ _ _ ?_)) (set _ _ _ ?_)) (set _ _ _ ?_)) (set _ _ _ ?_))
    (bit _ _ _ ?_)) (set _ _ _ ?_)) (reg64 _ _ _ _ ?_ ?_) <;> decide
theorem putLast (s : State) (a b c d : Nat) (i : Bool) : FaultStep s (s.putLast a b c d i) := by
  unfold State.putLast
  refine trans (trans (trans (trans (trans (trans (set _ _ _ ?_) (set _ _ _ ?_)) (set _ _ _ ?_)) (set _ _ _ ?_)) (set _ _ _ ?_))
    (bit _ _ _ ?_)) (set _ _ _ ?_) <;> decide
theorem logOffer (s : State) (a : Nat) (b : List Byte) : FaultStep s (s.logOffer a b) := by
  unfold State.logOffer
  split
  · exact grng _ _
  · exact (grng _ _).trans (count _ _ _ (by decide))

/-- A source that Table 15-1 lists has a number below 128. -/
theorem source_lt (src kind : Nat) (h : severityOf src kind ≠ 4) : src < 128 := by
  rcases Nat.lt_or_ge src 128 with k | k
  · exact k
  · exact absurd (by unfold severityOf; repeat (first | rw [if_neg (by omega)])) h

theorem sticky (src : Nat) (h : src < 128) : Fld.ofFault (stickyOf src) = true := by
  have : src / 32 = 0 ∨ src / 32 = 1 ∨ src / 32 = 2 ∨ src / 32 = 3 := by omega
  unfold stickyOf
  rcases this with e | e | e | e <;> rw [e] <;> decide

theorem record (s : State) (src kind sev addr : Nat) (i : Bool) (h : src < 128) : FaultStep s (s.fcuRecord src kind sev addr i) := by
  unfold State.fcuRecord
  extract_lets s1 s2 q s3 keep s4 q5 s5
  have h3 : FaultStep s s3 := ((irq s _ (src % 32) (sticky src h)).trans (count s1 R.FCU_MSG_CNT 1 (by decide))).trans (fcu s2 _)
  have h4 : FaultStep s3 s4 := by
    simp only [s4]; split
    · exact refl _
    · exact putLast ..
  exact ((h3.trans h4).trans (fcu s4 _)).trans (logOffer s5 _ _)

end Sys2Proof.FaultStep

namespace Sys2Proof.Machine


/-- A fault message. -/
theorem State.fcuInj_step (s : State) (src kind addr : Nat) (i : Bool) : FaultStep s (s.fcuInj src kind addr i) := by
  unfold State.fcuInj
  extract_lets sev s1 v q2 s2 r s3 q4 s4 q5 s5
  split
  · exact .refl _
  rename_i hs
  have hl : src < 128 := FaultStep.source_lt src kind hs
  split
  · exact ((FaultStep.record s src 31 sev addr i hl).trans (.count _ R.FCU_SHADOW_CNT 1 (by decide))).trans (.irq _ R.FCU_IRQ_STATUS 2 (by decide))
  · have h1 : FaultStep s s1 := .record s src kind sev addr i hl
    have h2 : FaultStep s1 s2 := by
      simp only [s2]; split
      · exact (FaultStep.putFirst ..).trans (.fcu _ _)
      · exact .refl _
    have h3 : FaultStep s2 s3 := by
      simp only [s3]; split
      · exact .refl _
      · exact .irq _ R.FCU_IRQ_STATUS 0 (by decide)
    have h4 : FaultStep s3 s4 := by
      simp only [s4]; split
      · exact .fcu _ _
      · exact .refl _
    have h := ((h1.trans h2).trans h3).trans h4
    split
    · have h5 : FaultStep s s5 := h.trans (.fcu s4 _)
      split
      · exact h5.trans (.set _ R.FCU_ERR_HOLD 1 (by decide))
      · exact h5
    · exact h
theorem State.fcu'_step (s : State) (src kind addr : Nat) : FaultStep s (s.fcu' src kind addr) := s.fcuInj_step src kind addr false

@[simp] theorem State.fld_fcuInj (s : State) (a b c : Nat) (i : Bool) (f : Fld) (h : Fld.ofFault f = false) : (s.fcuInj a b c i).fld f = s.fld f :=
  (s.fcuInj_step a b c i).keep f h
@[simp] theorem State.fld_fcu' (s : State) (a b c : Nat) (f : Fld) (h : Fld.ofFault f = false) : (s.fcu' a b c).fld f = s.fld f :=
  (s.fcu'_step a b c).keep f h
@[simp] theorem State.bit_fcu' (s : State) (a b c : Nat) (f : Fld) (h : Fld.ofFault f = false) : (s.fcu' a b c).bit f = s.bit f := by
  simp [State.bit, h]

@[simp] theorem State.fcuInj_part (s : State) (a b c : Nat) (i : Bool) : (s.fcuInj a b c i).part = s.part := by rw [(s.fcuInj_step a b c i).rest]
@[simp] theorem State.fcu'_part (s : State) (a b c : Nat) : (s.fcu' a b c).part = s.part := by rw [(s.fcu'_step a b c).rest]
@[simp] theorem State.fcuInj_pins (s : State) (a b c : Nat) (i : Bool) : (s.fcuInj a b c i).pins = s.pins := by rw [(s.fcuInj_step a b c i).rest]
@[simp] theorem State.fcu'_pins (s : State) (a b c : Nat) : (s.fcu' a b c).pins = s.pins := by rw [(s.fcu'_step a b c).rest]
@[simp] theorem State.fcuInj_mem (s : State) (a b c : Nat) (i : Bool) : (s.fcuInj a b c i).mem = s.mem := by rw [(s.fcuInj_step a b c i).rest]
@[simp] theorem State.fcu'_mem (s : State) (a b c : Nat) : (s.fcu' a b c).mem = s.mem := by rw [(s.fcu'_step a b c).rest]
@[simp] theorem State.fcuInj_mem14 (s : State) (a b c : Nat) (i : Bool) : (s.fcuInj a b c i).mem14 = s.mem14 := by rw [(s.fcuInj_step a b c i).rest]
@[simp] theorem State.fcu'_mem14 (s : State) (a b c : Nat) : (s.fcu' a b c).mem14 = s.mem14 := by rw [(s.fcu'_step a b c).rest]
@[simp] theorem State.fcuInj_tick (s : State) (a b c : Nat) (i : Bool) : (s.fcuInj a b c i).tick = s.tick := by rw [(s.fcuInj_step a b c i).rest]
@[simp] theorem State.fcu'_tick (s : State) (a b c : Nat) : (s.fcu' a b c).tick = s.tick := by rw [(s.fcu'_step a b c).rest]
@[simp] theorem State.fcuInj_cores (s : State) (a b c : Nat) (i : Bool) : (s.fcuInj a b c i).cores = s.cores := by rw [(s.fcuInj_step a b c i).rest]
@[simp] theorem State.fcu'_cores (s : State) (a b c : Nat) : (s.fcu' a b c).cores = s.cores := by rw [(s.fcu'_step a b c).rest]
@[simp] theorem State.fcuInj_hops (s : State) (a b c : Nat) (i : Bool) : (s.fcuInj a b c i).hops = s.hops := by rw [(s.fcuInj_step a b c i).rest]
@[simp] theorem State.fcu'_hops (s : State) (a b c : Nat) : (s.fcu' a b c).hops = s.hops := by rw [(s.fcu'_step a b c).rest]
@[simp] theorem State.fcuInj_img (s : State) (a b c : Nat) (i : Bool) : (s.fcuInj a b c i).img = s.img := by rw [(s.fcuInj_step a b c i).rest]
@[simp] theorem State.fcu'_img (s : State) (a b c : Nat) : (s.fcu' a b c).img = s.img := by rw [(s.fcu'_step a b c).rest]
@[simp] theorem State.fcuInj_bind (s : State) (a b c : Nat) (i : Bool) : (s.fcuInj a b c i).bind = s.bind := by rw [(s.fcuInj_step a b c i).rest]
@[simp] theorem State.fcu'_bind (s : State) (a b c : Nat) : (s.fcu' a b c).bind = s.bind := by rw [(s.fcu'_step a b c).rest]
@[simp] theorem State.fcuInj_sil (s : State) (a b c : Nat) (i : Bool) : (s.fcuInj a b c i).sil = s.sil := by rw [(s.fcuInj_step a b c i).rest]
@[simp] theorem State.fcu'_sil (s : State) (a b c : Nat) : (s.fcu' a b c).sil = s.sil := by rw [(s.fcu'_step a b c).rest]
@[simp] theorem State.fcuInj_silo (s : State) (a b c : Nat) (i : Bool) : (s.fcuInj a b c i).silo = s.silo := by rw [(s.fcuInj_step a b c i).rest]
@[simp] theorem State.fcu'_silo (s : State) (a b c : Nat) : (s.fcu' a b c).silo = s.silo := by rw [(s.fcu'_step a b c).rest]
@[simp] theorem State.fcuInj_marv (s : State) (a b c : Nat) (i : Bool) : (s.fcuInj a b c i).marv = s.marv := by rw [(s.fcuInj_step a b c i).rest]
@[simp] theorem State.fcu'_marv (s : State) (a b c : Nat) : (s.fcu' a b c).marv = s.marv := by rw [(s.fcu'_step a b c).rest]
@[simp] theorem State.fcuInj_sap (s : State) (a b c : Nat) (i : Bool) : (s.fcuInj a b c i).sap = s.sap := by rw [(s.fcuInj_step a b c i).rest]
@[simp] theorem State.fcu'_sap (s : State) (a b c : Nat) : (s.fcu' a b c).sap = s.sap := by rw [(s.fcu'_step a b c).rest]
@[simp] theorem State.fcuInj_net (s : State) (a b c : Nat) (i : Bool) : (s.fcuInj a b c i).net = s.net := by rw [(s.fcuInj_step a b c i).rest]
@[simp] theorem State.fcu'_net (s : State) (a b c : Nat) : (s.fcu' a b c).net = s.net := by rw [(s.fcu'_step a b c).rest]
@[simp] theorem State.fcuInj_strm (s : State) (a b c : Nat) (i : Bool) : (s.fcuInj a b c i).strm = s.strm := by rw [(s.fcuInj_step a b c i).rest]
@[simp] theorem State.fcu'_strm (s : State) (a b c : Nat) : (s.fcu' a b c).strm = s.strm := by rw [(s.fcu'_step a b c).rest]
@[simp] theorem State.fcuInj_ptp (s : State) (a b c : Nat) (i : Bool) : (s.fcuInj a b c i).ptp = s.ptp := by rw [(s.fcuInj_step a b c i).rest]
@[simp] theorem State.fcu'_ptp (s : State) (a b c : Nat) : (s.fcu' a b c).ptp = s.ptp := by rw [(s.fcu'_step a b c).rest]
@[simp] theorem State.fcuInj_clk (s : State) (a b c : Nat) (i : Bool) : (s.fcuInj a b c i).clk = s.clk := by rw [(s.fcuInj_step a b c i).rest]
@[simp] theorem State.fcu'_clk (s : State) (a b c : Nat) : (s.fcu' a b c).clk = s.clk := by rw [(s.fcu'_step a b c).rest]
@[simp] theorem State.fcuInj_pair (s : State) (a b c : Nat) (i : Bool) : (s.fcuInj a b c i).pair = s.pair := by rw [(s.fcuInj_step a b c i).rest]
@[simp] theorem State.fcu'_pair (s : State) (a b c : Nat) : (s.fcu' a b c).pair = s.pair := by rw [(s.fcu'_step a b c).rest]
@[simp] theorem State.fcuInj_chain (s : State) (a b c : Nat) (i : Bool) : (s.fcuInj a b c i).chain = s.chain := by rw [(s.fcuInj_step a b c i).rest]
@[simp] theorem State.fcu'_chain (s : State) (a b c : Nat) : (s.fcu' a b c).chain = s.chain := by rw [(s.fcu'_step a b c).rest]
@[simp] theorem State.fcuInj_fab (s : State) (a b c : Nat) (i : Bool) : (s.fcuInj a b c i).fab = s.fab := by rw [(s.fcuInj_step a b c i).rest]
@[simp] theorem State.fcu'_fab (s : State) (a b c : Nat) : (s.fcu' a b c).fab = s.fab := by rw [(s.fcu'_step a b c).rest]
@[simp] theorem State.fcuInj_amp (s : State) (a b c : Nat) (i : Bool) : (s.fcuInj a b c i).amp = s.amp := by rw [(s.fcuInj_step a b c i).rest]
@[simp] theorem State.fcu'_amp (s : State) (a b c : Nat) : (s.fcu' a b c).amp = s.amp := by rw [(s.fcu'_step a b c).rest]
@[simp] theorem State.fcuInj_pcie (s : State) (a b c : Nat) (i : Bool) : (s.fcuInj a b c i).pcie = s.pcie := by rw [(s.fcuInj_step a b c i).rest]
@[simp] theorem State.fcu'_pcie (s : State) (a b c : Nat) : (s.fcu' a b c).pcie = s.pcie := by rw [(s.fcu'_step a b c).rest]
@[simp] theorem State.fcuInj_lcs (s : State) (a b c : Nat) (i : Bool) : (s.fcuInj a b c i).lcs = s.lcs := by rw [(s.fcuInj_step a b c i).rest]
@[simp] theorem State.fcu'_lcs (s : State) (a b c : Nat) : (s.fcu' a b c).lcs = s.lcs := by rw [(s.fcu'_step a b c).rest]
@[simp] theorem State.fcuInj_sens (s : State) (a b c : Nat) (i : Bool) : (s.fcuInj a b c i).sens = s.sens := by rw [(s.fcuInj_step a b c i).rest]
@[simp] theorem State.fcu'_sens (s : State) (a b c : Nat) : (s.fcu' a b c).sens = s.sens := by rw [(s.fcu'_step a b c).rest]
@[simp] theorem State.fcuInj_pwr (s : State) (a b c : Nat) (i : Bool) : (s.fcuInj a b c i).pwr = s.pwr := by rw [(s.fcuInj_step a b c i).rest]
@[simp] theorem State.fcu'_pwr (s : State) (a b c : Nat) : (s.fcu' a b c).pwr = s.pwr := by rw [(s.fcu'_step a b c).rest]
@[simp] theorem State.fcuInj_jtag (s : State) (a b c : Nat) (i : Bool) : (s.fcuInj a b c i).jtag = s.jtag := by rw [(s.fcuInj_step a b c i).rest]
@[simp] theorem State.fcu'_jtag (s : State) (a b c : Nat) : (s.fcu' a b c).jtag = s.jtag := by rw [(s.fcu'_step a b c).rest]
@[simp] theorem State.fcuInj_held (s : State) (a b c : Nat) (i : Bool) : (s.fcuInj a b c i).held = s.held := by rw [(s.fcuInj_step a b c i).rest]
@[simp] theorem State.fcu'_held (s : State) (a b c : Nat) : (s.fcu' a b c).held = s.held := by rw [(s.fcu'_step a b c).rest]
@[simp] theorem State.fcuInj_pending (s : State) (a b c : Nat) (i : Bool) : (s.fcuInj a b c i).pending = s.pending := by rw [(s.fcuInj_step a b c i).rest]
@[simp] theorem State.fcu'_pending (s : State) (a b c : Nat) : (s.fcu' a b c).pending = s.pending := by rw [(s.fcu'_step a b c).rest]

end Sys2Proof.Machine
end

