-- ==== Sys2Proof/Laws/Mem.lean ====
section
/-!
SUPPORT. What an access to the Granary or to LPDDR5 touches (R348, R351, R365): memory and its error marks, the registers of the two units
with those a fault message may change, and the free values; every other register and part of the state stays.
-/

namespace Sys2Proof

open Machine

/-- A register that a memory access may change. -/
def Fld.ofMem (f : Fld) : Bool := Fld.ofFault f || decide (f.key / 0x200000 = 0x4015) || decide (f.key / 0x200000 = 0x4016) || decide (f.key / 0x200000 = 0x4017)

/-- u differs from s at most as memory accesses make it differ. -/
structure MemStep (s u : State) : Prop where
  rest : u = { s with regs := u.regs, mem := u.mem, mem14 := u.mem14, fcu := u.fcu, grng := u.grng, free := u.free }
  keep : ∀ f : Fld, Fld.ofMem f = false → u.fld f = s.fld f

namespace MemStep

theorem refl (s : State) : MemStep s s := ⟨rfl, fun _ _ => rfl⟩
theorem trans {s t u : State} (h : MemStep s t) (k : MemStep t u) : MemStep s u :=
  ⟨by rw [k.rest]; rw [h.rest], fun f hf => (k.keep f hf).trans (h.keep f hf)⟩
theorem mem (s : State) (x : FMap Byte) : MemStep s { s with mem := x } := ⟨rfl, fun _ _ => rfl⟩
theorem mem14 (s : State) (x : MemSt) : MemStep s { s with mem14 := x } := ⟨rfl, fun _ _ => rfl⟩
theorem free (s : State) (x : Nat) : MemStep s { s with free := x } := ⟨rfl, fun _ _ => rfl⟩
theorem set (s : State) (f : Fld) (v : Nat) (h : Fld.ofMem f = true) : MemStep s (s.setFld f v) :=
  ⟨rfl, fun g hg => State.fld_setFld_ne s f g v (fun e => by
    unfold Fld.ofMem Fld.ofFault at h hg; rw [e, hg] at h; exact Bool.false_ne_true h)⟩
theorem count (s : State) (f : Fld) (n : Nat) (h : Fld.ofMem f = true) : MemStep s (s.count f n) := by
  unfold State.count
  split
  · exact set _ _ _ h
  · exact (free s _).trans (set _ _ _ h)
theorem irq (s : State) (f : Fld) (k : Nat) (h : Fld.ofMem f = true) : MemStep s (s.setIrq f k) := set _ _ _ h
theorem reg64 (s : State) (f g : Fld) (v : Nat) (h : Fld.ofMem f = true) (k : Fld.ofMem g = true) : MemStep s (s.setReg64 f g v) :=
  (set _ _ _ h).trans (set _ _ _ k)
theorem fault {s u : State} (h : FaultStep s u) : MemStep s u :=
  ⟨by rw [h.rest], fun f hf => h.keep f (by unfold Fld.ofMem at hf; simp at hf; exact hf.1.1.1)⟩
theorem injDone (s : State) : MemStep s s.injDone := by
  unfold State.injDone
  exact ((set _ _ _ (by decide)).trans (set _ _ _ (by decide))).trans (irq _ _ _ (by decide))
theorem markBad (s : State) (a : Nat) : MemStep s (s.markBad a) := by
  unfold State.markBad; split
  · exact refl _
  · exact mem14 _ _
theorem clearBad (s : State) (a : Nat) : MemStep s (s.clearBad a) := mem14 _ _
theorem setBytes (s : State) (a : Nat) (bs : List Byte) : MemStep s (s.setBytes a bs) := mem _ _
theorem granError (s : State) (p k a : Nat) (i : Bool) : MemStep s (s.granError p k a i) := by
  unfold State.granError
  extract_lets s1 s2
  have h1 : MemStep s s1 := ((set _ _ _ (by decide)).trans (set _ _ _ (by decide))).trans (set _ _ _ (by decide))
  have h2 : MemStep s s2 := by
    simp only [s2]; split
    · exact (h1.trans (count _ _ _ (by decide))).trans (irq _ _ _ (by decide))
    · exact h1.trans (irq _ _ _ (by decide))
  exact h2.trans (fault (State.fcuInj_step ..))
theorem granCheck (s : State) (p a f : Nat) : MemStep s (s.granCheck p a f).2 := by
  unfold State.granCheck
  extract_lets w
  split
  · exact granError s p 1 w false
  split
  · exact (granError s p 0 w true).trans (injDone _)
  split
  · exact (granError s p 0 w true).trans (injDone _)
  split
  · exact granError s p 0 w false
  split
  · exact (markBad s w).trans (granError (s.markBad w) p 0 w false)
  split
  · exact ((count s R.GRAN_ECC_CE 1 (by decide)).trans (irq _ R.GRAN_IRQ_STATUS 0 (by decide))).trans (fault (State.fcu'_step _ 44 1 w))
  · exact refl s
theorem granWrite (s : State) (p a : Nat) (bs : List Byte) (f : Nat) : MemStep s (s.granWrite p a bs f).2 := by
  unfold State.granWrite
  split
  · exact granError s p 1 (granAlign a) false
  split
  · exact (setBytes s a bs).trans (clearBad _ a)
  have h := granCheck s p a f
  generalize s.granCheck p a f = q at h ⊢
  obtain ⟨b, t⟩ := q
  cases b
  · exact h
  · exact h.trans (setBytes t a bs)
theorem granRead (s : State) (p a f : Nat) : MemStep s (s.granRead p a f).2.2 := by
  unfold State.granRead
  have h := granCheck s p a f
  generalize s.granCheck p a f = q at h ⊢
  obtain ⟨b, t⟩ := q
  cases b <;> (dsimp only at h ⊢; exact h)
theorem ddrError (s : State) (l : Nat) (i : Bool) : MemStep s (s.ddrError l i) := by
  unfold State.ddrError
  exact (((count _ _ _ (by decide)).trans (reg64 _ _ _ _ (by decide) (by decide))).trans (irq _ _ _ (by decide))).trans (fault (State.fcuInj_step ..))
theorem ddrCheck (s : State) (a f : Nat) : MemStep s (s.ddrCheck a f).2 := by
  unfold State.ddrCheck
  extract_lets line
  split
  · exact (ddrError s line true).trans (injDone _)
  split
  · exact ddrError s line false
  split
  · exact (markBad s line).trans (ddrError (s.markBad line) line false)
  split
  · exact ((count s R.DDR_ECC_CE 1 (by decide)).trans (irq _ R.DDR_IRQ_STATUS 0 (by decide))).trans (fault (State.fcu'_step _ 48 1 line))
  · exact refl s
theorem ddrWrite (s : State) (a : Nat) (bs : List Byte) (f : Nat) : MemStep s (s.ddrWrite a bs f).2 := by
  unfold State.ddrWrite
  split
  · exact (setBytes s a bs).trans (clearBad _ a)
  have h := ddrCheck s a f
  generalize s.ddrCheck a f = q at h ⊢
  obtain ⟨b, t⟩ := q
  cases b
  · exact h
  · exact h.trans (setBytes t a bs)
theorem checkUnits (chk : State → Nat → Nat → Bool × State) (hc : ∀ t u f, MemStep t (chk t u f).2) :
    ∀ (l : List Nat) (f : Nat) (s : State), MemStep s (s.checkUnits chk f l).2
  | [], _, s => refl s
  | u :: r, f, s => by
    unfold State.checkUnits
    exact (hc s u f).trans (checkUnits chk hc r 0 _)
theorem writeChunks (wr : State → Nat → List Byte → Bool × State) (hw : ∀ t x b, MemStep t (wr t x b).2) :
    ∀ (l : List (Nat × List Byte)) (s : State), MemStep s (s.writeChunks wr l).2
  | [], s => refl s
  | (a, bs) :: r, s => by
    unfold State.writeChunks
    exact (hw s a bs).trans (writeChunks wr hw r _)
theorem busError (s : State) (k m a : Nat) (w : Bool) : MemStep s (s.busError k m a w) := by
  unfold State.busError
  extract_lets s1 s2
  have h1 : MemStep s s1 := (set s R.BUSM_ERR_ADDR _ (by decide)).trans (set _ R.BUSM_ERR_INFO_ADDR_HI _ (by decide))
  have h2 : MemStep s s2 := ((h1.trans (set _ R.BUSM_ERR_INFO_KIND _ (by decide))).trans (set _ R.BUSM_ERR_INFO_MASTER _ (by decide))).trans
    (set _ R.BUSM_ERR_INFO_WRITE _ (by decide))
  exact ((h2.trans (count s2 R.BUSM_ERR_CNT 1 (by decide))).trans (irq _ R.BUSM_IRQ_STATUS k (by decide))).trans (fault (State.fcu'_step _ 47 _ a))
theorem readShared (s : State) (m a n f : Nat) : MemStep s (s.readShared m a n f).2 := by
  unfold State.readShared
  split
  · exact refl s
  split
  · exact busError s 0 m _ false
  have h : MemStep s (if inGran a then s.checkUnits (fun t u f => t.granCheck (bankPortOf m) u f) f (unitsOf 8 a n)
      else s.checkUnits (fun t u f => t.ddrCheck u f) f (unitsOf 64 a n)).2 := by
    split
    · exact checkUnits _ (fun t u f => granCheck t (bankPortOf m) u f) _ _ _
    · exact checkUnits _ (fun t u f => ddrCheck t u f) _ _ _
  split <;> (rename_i e; rw [e] at h; exact h)
theorem writeShared (s : State) (m a : Nat) (bs : List Byte) (f : Nat) : MemStep s (s.writeShared m a bs f).2 := by
  unfold State.writeShared
  extract_lets k
  have h : MemStep s (if inGran a then s.writeChunks (fun t x b => t.granWrite (bankPortOf m) x b f) (chunks 8 k a (bs.take k))
      else s.writeChunks (fun t x b => t.ddrWrite x b f) (chunks 64 k a (bs.take k))).2 := by
    split
    · exact writeChunks _ (fun t x b => granWrite t (bankPortOf m) x b f) _ _
    · exact writeChunks _ (fun t x b => ddrWrite t x b f) _ _
  split
  rename_i b t e
  rw [e] at h
  split
  · exact h
  · exact h.trans (busError t 0 m (a + k) true)
/-- Writing an entry of a hopper to its storage is a memory access, and no register changes. -/
theorem hopStore (s : State) (n e : Nat) : MemStep s (s.hopStore n e) := by
  unfold State.hopStore
  split
  · exact (free s (s.free + 1)).trans (setBytes _ _ _)
  · exact refl s

end MemStep

@[simp] theorem State.hopStore_fld (s : State) (n e : Nat) (f : Fld) : (s.hopStore n e).fld f = s.fld f := by
  unfold State.hopStore; split <;> rfl
/-- Where its storage is not in the Granary, an entry changes nothing outside the hopper. -/
theorem State.hopStore_inside (s : State) (n e : Nat) (h : s.bit (R.HOP_Q_CFG_MEM n) = false) : s.hopStore n e = s := by
  unfold State.hopStore; rw [h]; rfl

end Sys2Proof
end

