-- ==== Sys2Proof/Laws/Bits.lean ====
section
/-!
SUPPORT. Single bits of a number, status bits that a command sets, and numbers stored in little-endian bytes.
-/

namespace Sys2Proof
open Machine

theorem bitOf_tb (y i : Nat) : bitOf y i = y.testBit i := by rw [Nat.testBit_eq_decide_div_mod_eq]; rfl
/-- A bit that is taken off is clear. -/
theorem sub_and (x k : Nat) : (x - (x &&& 2 ^ k)).testBit k = false := by
  by_cases h : x.testBit k = true
  · have e : x &&& 2 ^ k = 2 ^ k := by
      apply Nat.eq_of_testBit_eq; intro i
      rw [Nat.testBit_and, Nat.testBit_two_pow]
      by_cases hi : k = i
      · subst hi; simp [h]
      · simp [hi]
    rw [e]
    have h1 := Nat.testBit_eq_decide_div_mod_eq (x := x) (i := k)
    rw [h, eq_comm, decide_eq_true_eq] at h1
    rw [Nat.testBit_eq_decide_div_mod_eq, decide_eq_false_iff_not]
    have h2 : x / 2 ^ k = (x - 2 ^ k) / 2 ^ k + 1 := by
      have hp := Nat.two_pow_pos k
      have hx : 2 ^ k ≤ x := by
        rcases Nat.lt_or_ge x (2 ^ k) with hl | hl
        · rw [Nat.div_eq_of_lt hl] at h1; omega
        · exact hl
      rw [Nat.div_eq_sub_div hp hx]
    omega
  · have e : x &&& 2 ^ k = 0 := by
      apply Nat.eq_of_testBit_eq; intro i
      rw [Nat.testBit_and, Nat.testBit_two_pow, Nat.zero_testBit]
      by_cases hi : k = i
      · subst hi; simp [h]
      · simp [hi]
    rw [e, Nat.sub_zero]; simpa using h
theorem clr_bit (x k n : Nat) (_h : k < n) : bitOf ((x - (x &&& 2 ^ k)) % 2 ^ n) k = false := by
  rw [bitOf_tb, Nat.testBit_mod_two_pow, sub_and]; simp
/-- A bit that is put reads as it was put. -/
theorem bitOf_put (x k n : Nat) (b : Bool) (h : k < n) : bitOf (putBit x k b % 2 ^ n) k = b := by
  unfold putBit; cases b
  · rw [if_neg (by decide)]; exact clr_bit _ _ _ h
  · rw [if_pos rfl, bitOf_tb, Nat.testBit_mod_two_pow, Nat.testBit_or, Nat.testBit_two_pow_self]; simp [h]
theorem or_bit (x k : Nat) : (x ||| 2 ^ k) / 2 ^ k % 2 = 1 := by
  have := Nat.testBit_or x (2 ^ k) k
  rw [Nat.testBit_two_pow_self, Bool.or_true, Nat.testBit_eq_decide_div_mod_eq] at this
  exact of_decide_eq_true this
/-- A status bit that is set reads 1. -/
theorem bit_of_irq (s : State) (f : Fld) (k : Nat) (h : k < f.hi + 1 - f.lo) : (s.setIrq f k).fld f / 2 ^ k % 2 = 1 := by
  rw [State.fld_setIrq_same]
  have h1 := or_bit (s.fld f) k
  have e : (s.fld f ||| 2 ^ k) % f.size = (s.fld f ||| 2 ^ k) % 2 ^ (f.hi + 1 - f.lo) := rfl
  rw [e]
  have h2 : ((s.fld f ||| 2 ^ k) % 2 ^ (f.hi + 1 - f.lo)).testBit k = (s.fld f ||| 2 ^ k).testBit k := by
    rw [Nat.testBit_mod_two_pow]; simp [h]
  rw [Nat.testBit_eq_decide_div_mod_eq, Nat.testBit_eq_decide_div_mod_eq, decide_eq_decide] at h2
  exact h2.mpr h1
/-- The little-endian bytes of a number give it back, modulo their width. -/
theorem leNat_leBytes (n v : Nat) : leNat (leBytes n v) = v % 256 ^ n := by
  induction n generalizing v with
  | zero => simp [leNat, leBytes, Nat.mod_one]
  | succ n ih =>
    unfold leBytes leNat; rw [ih, BitVec.toNat_ofNat, Nat.pow_succ 256 n, Nat.mul_comm (256 ^ n) 256, Nat.mod_mul]
theorem leBytes_length (n v : Nat) : (leBytes n v).length = n := by
  induction n generalizing v with
  | zero => rfl
  | succ n ih => unfold leBytes; rw [List.length_cons, ih]
/-- A number stored reads back, modulo its width. -/
theorem le_setLe (s : State) (a n v : Nat) : (s.setLe a n v).le a n = v % 256 ^ n := by
  unfold State.le State.setLe
  have := State.bytes_setBytes s a (leBytes n v)
  rw [leBytes_length] at this
  rw [this, leNat_leBytes]
/-- Storing it changes no other byte. -/
theorem byte_setLe (s : State) (a n v x : Nat) (h : x < a ∨ a + n ≤ x) : (s.setLe a n v).byte x = s.byte x :=
  State.byte_setBytes_out _ _ _ _ (by rw [leBytes_length]; exact h)

end Sys2Proof
end

