-- ==== Sys2Proof/Laws/Kept.lean ====
section
/-!
SUPPORT. The frames of the statements (KeptF, Kept), followed through every operation that writes a register field, and how a command that
runs is shown to run.
-/

namespace Sys2Proof
open Machine

/-- A property of both branches is one of the choice. -/
theorem ite_cases {α : Type} {P : α → Prop} (c : Prop) [Decidable c] (a b : α) (h1 : c → P a) (h2 : ¬c → P b) : P (if c then a else b) := by
  split
  · exact h1 ‹_›
  · exact h2 ‹_›
/-- What every step of a fold keeps, the fold keeps. -/
theorem foldl_keeps {α β : Type} (P : β → Prop) (f : β → α → β) (h : ∀ b a, P b → P (f b a)) (l : List α) (b : β) (hb : P b) : P (l.foldl f b) := by
  induction l generalizing b with
  | nil => exact hb
  | cons a r ih => exact ih _ (h _ _ hb)
@[simp] theorem fld_respond (s : State) (a : RespStatus) (b : Nat) (f : Fld) : (s.respond a b).fld f = s.fld f := rfl
@[simp] theorem bit_respond (s : State) (a : RespStatus) (b : Nat) (f : Fld) : (s.respond a b).bit f = s.bit f := rfl
theorem key_ne (f g : Fld) (h : f.addr * 32 + f.lo ≠ g.addr * 32 + g.lo) : f.key ≠ g.key := h
/-- Taking a free value changes the counter of free values and nothing else. -/
theorem takeFree_form (s : State) : ∃ v f, s.takeFree = (v, { s with free := f }) := ⟨_, _, rfl⟩
/-- Counting changes the counter, and the counter of free values where it is past its top. -/
theorem count_form (s : State) (f : Fld) (k : Nat) : ∃ v x, s.count f k = { s.setFld f v with free := x } := by
  unfold State.count; split
  · exact ⟨_, _, rfl⟩
  · exact ⟨_, _, rfl⟩
theorem count_fld (s : State) (f : Fld) (k : Nat) (h : s.fld f + k < f.size) : s.count f k = s.setFld f (s.fld f + k) := by unfold State.count; rw [if_pos h]
/-- A frame over nothing done. -/
theorem KeptF.refl (s : State) (fs : List Fld) : KeptF s s fs := fun _ _ _ => rfl
/-- Two frames, one after the other. -/
theorem KeptF.trans {s t u : State} {fs : List Fld} (a : KeptF s t fs) (b : KeptF t u fs) : KeptF s u fs := fun f h h' => (b f h h').trans (a f h h')
theorem KeptF.mono {s t : State} {fs gs : List Fld} (a : KeptF s t fs) (h : ∀ f ∈ fs, f ∈ gs) : KeptF s t gs := fun f h1 h2 => a f h1 (fun hm => by
  obtain ⟨g, hg, e⟩ := List.mem_map.mp hm
  exact h2 (List.mem_map.mpr ⟨g, h g hg, e⟩))
theorem KeptF.setFld {s t : State} {fs : List Fld} (a : KeptF s t fs) (f : Fld) (v : Nat) (h : f ∈ fs) : KeptF s (t.setFld f v) fs := fun g h1 h2 => by
  rw [State.fld_setFld_ne _ _ _ _ (fun e => h2 (List.mem_map.mpr ⟨f, h, e⟩))]; exact a g h1 h2
theorem KeptF.setIrq {s t : State} {fs : List Fld} (a : KeptF s t fs) (f : Fld) (v : Nat) (h : f ∈ fs) : KeptF s (t.setIrq f v) fs := a.setFld _ _ h
theorem KeptF.orFld {s t : State} {fs : List Fld} (a : KeptF s t fs) (f : Fld) (v : Nat) (h : f ∈ fs) : KeptF s (t.orFld f v) fs := a.setFld _ _ h
theorem KeptF.clrFld {s t : State} {fs : List Fld} (a : KeptF s t fs) (f : Fld) (v : Nat) (h : f ∈ fs) : KeptF s (t.clrFld f v) fs := a.setFld _ _ h
theorem KeptF.setBit {s t : State} {fs : List Fld} (a : KeptF s t fs) (f : Fld) (v : Bool) (h : f ∈ fs) : KeptF s (t.setBit f v) fs := a.setFld _ _ h
theorem KeptF.setSFld {s t : State} {fs : List Fld} (a : KeptF s t fs) (f : Fld) (v : Int) (h : f ∈ fs) : KeptF s (t.setSFld f v) fs := a.setFld _ _ h
theorem KeptF.setReg64 {s t : State} {fs : List Fld} (a : KeptF s t fs) (f g : Fld) (v : Nat) (h : f ∈ fs) (h' : g ∈ fs) : KeptF s (t.setReg64 f g v) fs := (a.setFld _ _ h).setFld _ _ h'
theorem KeptF.countSat {s t : State} {fs : List Fld} (a : KeptF s t fs) (f : Fld) (v : Nat) (h : f ∈ fs) : KeptF s (t.countSat f v) fs := a.setFld _ _ h
theorem KeptF.count {s t : State} {fs : List Fld} (a : KeptF s t fs) (f : Fld) (v : Nat) (h : f ∈ fs) : KeptF s (t.count f v) fs := by
  unfold State.count; split
  · exact a.setFld _ _ h
  · exact KeptF.setFld (t := { t with free := t.free + 1 }) (fun g h1 h2 => a g h1 h2) _ _ h
theorem KeptF.fcu' {s t : State} {fs : List Fld} (a : KeptF s t fs) (x y z : Nat) : KeptF s (t.fcu' x y z) fs := fun g h1 h2 => by
  rw [State.fld_fcu' _ _ _ _ _ h1]; exact a g h1 h2
theorem KeptF.fcuInj {s t : State} {fs : List Fld} (a : KeptF s t fs) (x y z : Nat) (i : Bool) : KeptF s (t.fcuInj x y z i) fs := fun g h1 h2 => by
  rw [(t.fcuInj_step x y z i).keep g h1]; exact a g h1 h2
theorem KeptF.ite {s t u : State} {fs : List Fld} (c : Prop) [Decidable c] (h1 : c → KeptF s t fs) (h2 : ¬c → KeptF s u fs) : KeptF s (if c then t else u) fs := ite_cases (P := fun x => KeptF s x fs) c t u h1 h2
theorem KeptF.regs {s t u : State} {fs : List Fld} (a : KeptF s t fs) (h : u.regs = t.regs) : KeptF s u fs := fun f h1 h2 => by
  have : u.fld f = t.fld f := by unfold State.fld; rw [h]
  rw [this]; exact a f h1 h2
theorem KeptF.get {s t : State} {fs : List Fld} (a : KeptF s t fs) (f : Fld) (h : Fld.ofFault f = false) (h' : f.key ∉ fs.map Fld.key) : t.fld f = s.fld f := a f h h'
theorem Kept.toF {s t : State} {fs : List Fld} (a : Kept s t fs) : KeptF s t fs := fun f _ h => a f h
/-- A command whose meaning always completes runs. -/
theorem runs_of {c : Instr} {s u : State} {P : State → Prop} (h : Machine.exec c s = finish s u) (p : P u) : Runs c s P := ⟨u, h, p⟩
/-- A command that is a register access runs where the domain of the register is on. -/
theorem runs_viaReg {c : Instr} {s : State} {P : State → Prop} (a : Nat) (f : State → State)
    (h : Machine.exec c s = finish s (s.viaReg a f)) (d : s.domBlocks a = none) (p : P ((f s).respond .ok 0)) : Runs c s P :=
  ⟨_, by rw [h, State.viaReg, d]; rfl, p⟩
/-- So does one that the block may turn away, where it does not. -/
theorem runs_viaRegChecked {c : Instr} {s : State} {P : State → Prop} (g : Bool) (a v : Nat) (f : State → State)
    (h : Machine.exec c s = s.viaRegChecked g a v f) (d : s.domBlocks a = none) (w : s.writeUnsafe g a v = none) (p : P ((f s).respond .ok 0)) : Runs c s P :=
  ⟨_, by rw [h, State.viaRegChecked, State.viaReg, d, w]; rfl, p⟩
/-- An address in a domain that is on is not blocked. -/
theorem dom_on (s : State) (a k : Nat) (h : domOfAddr a = some k) (d : s.domOn k = true) : s.domBlocks a = none := by
  unfold State.domBlocks; rw [h]; dsimp only; rw [if_pos (Or.inl d)]
/-- The hopper queues are not behind a switched domain. -/
theorem dom_hopper (s : State) (n : Fin 64) : s.domBlocks (R.HOP_Q_CFG_EN n.val).addr = none := by
  unfold State.domBlocks
  have : ∀ n : Fin 64, domOfAddr (R.HOP_Q_CFG_EN n.val).addr = none := by decide
  rw [this]

end Sys2Proof
end

