-- ==== Sys2Proof/Laws/Bus.lean ====
section
/-!
SUPPORT. What one bus access does: where it goes, what it answers, and the record that an error leaves (R8, R358–R362).
-/

namespace Sys2Proof
open Machine

/-- A healthy Granary line passes its check and changes nothing. -/
theorem granGood_check (s : State) (p a : Nat) (h : s.granGood p a) : s.granCheck p a 0 = (true, s) := by
  obtain ⟨h1, h2, h3, h4⟩ := h
  unfold State.granCheck; extract_lets w
  rw [if_neg (by rw [h1]; exact fun h => h rfl), if_neg (by rw [h2]; decide), if_neg (by rw [h3]; decide), if_neg (by show ¬ s.isBad (granAlign a) = true; rw [h4]; decide), if_neg (by decide), if_neg (by decide)]
theorem granGood_of (s t : State) (p a : Nat) (h : s.granGood p a) (hr : t.regs = s.regs) (hb : t.mem14.bad = s.mem14.bad) : t.granGood p a := by
  obtain ⟨h1, h2, h3, h4⟩ := h
  have hf : ∀ f, t.fld f = s.fld f := fun f => by unfold State.fld; rw [hr]
  refine ⟨?_, ?_, ?_, ?_⟩
  · rw [← h1]; unfold State.halfState; rw [hf, hf]
  · rw [← h2]; unfold State.injArmed State.bit; rw [hf, hf]
  · rw [← h3]; unfold State.inSpare State.injArmed State.bit; rw [hf, hf, hf, hf]
  · rw [← h4]; unfold State.isBad; rw [hb]
theorem setHalfState_frame (s : State) (h v : Nat) : (s.setHalfState h v).mem = s.mem ∧ (s.setHalfState h v).img = s.img ∧ (s.setHalfState h v).mem14 = s.mem14 := by
  unfold State.setHalfState; split <;> exact ⟨rfl, rfl, rfl⟩
/-- A row whose host error is ruled out has its effect; one that is a host error is refused with its rule. -/
theorem runs_unlessBad {c : Instr} {s u : State} {P : State → Prop} {bad : Option Nat} (h : Machine.exec c s = unlessBad bad s u) (hb : bad = none) (p : P u) :
    Runs c s P := ⟨u, by rw [h, hb]; rfl, p⟩
theorem refused_unlessBad {c : Instr} {s u : State} {bad : Option Nat} {r : Nat} (h : Machine.exec c s = unlessBad bad s u) (hb : bad = some r) :
    Machine.exec c s = .refused (.unpredictable r) := by rw [h, hb]; rfl
theorem hop_set (s : State) (n : Nat) (h : Hop) : (s.setHop n h).hop n = h := FMap.get_set_same ..
theorem runs_hostRequest {s : State} {q : HostReq} {f : Nat} {t : Bool} {P : State → Prop} (h : (if !t && !s.busFull 1 then s.hostUnsafe q else none) = none) (p : P (s.hostRun q f t)) :
    Runs (.hostRequest q f t) s P := ⟨_, by show s.hostCmd q f t = _; unfold State.hostCmd; rw [h]; rfl, p⟩
theorem dom_granary (s : State) (a : Nat) (h1 : granBase ≤ a) (h2 : a < granBase + 0x2000000) : s.domBlocks a = none := by
  unfold State.domBlocks
  have : domOfAddr a = none := by
    unfold domOfAddr; unfold granBase at *; unfold marvBase
    repeat' rw [if_neg (by omega)]
  rw [this]
theorem target_granary (s : State) (o n : Nat) (h : o + n ≤ 0x2000000) : s.target 1 (granBase + o) n = .gran 7 := by
  unfold State.target; extract_lets r
  rw [if_neg (by simp), if_neg (by simp), if_neg (by simp), if_pos (by unfold runIn; simp; omega)]; rfl
theorem units1 (o : Nat) (h : o % 8 ≤ 4) : unitsOf 8 (granBase + o) 4 = [(granBase + o) / 8 * 8] := by
  unfold unitsOf; rw [if_neg (by decide), show (granBase + o + 4 - 1) / 8 - (granBase + o) / 8 + 1 = 1 from by unfold granBase; omega]; simp
/-- The record of a bus error: the first three kinds, every master. -/
theorem bus_err (s : State) (k m a : Nat) (w : Bool) (hk : k < 3) (hm : m < 16) : (s.busError k m a w).fld R.BUSM_ERR_INFO_KIND = k ∧ (s.busError k m a w).fld R.BUSM_ERR_INFO_MASTER = m ∧
    (s.busError k m a w).fld R.BUSM_ERR_ADDR = a % 0x100000000 ∧ (s.busError k m a w).fld R.BUSM_ERR_INFO_WRITE = (if w then 1 else 0) ∧
    (s.busError k m a w).fld R.BUSM_IRQ_STATUS / 2 ^ k % 2 = 1 ∧ (s.busError k m a w).mem = s.mem ∧ (s.busError k m a w).pcie = s.pcie ∧
    KeptF s (s.busError k m a w) [R.BUSM_ERR_ADDR, R.BUSM_ERR_INFO_ADDR_HI, R.BUSM_ERR_INFO_KIND, R.BUSM_ERR_INFO_MASTER, R.BUSM_ERR_INFO_WRITE, R.BUSM_ERR_CNT, R.BUSM_IRQ_STATUS] := by
  unfold State.busError; extract_lets s1 s2
  obtain ⟨v, x, e⟩ := count_form s2 R.BUSM_ERR_CNT 1
  refine ⟨?_, ?_, ?_, ?_, ?_, ?_, ?_, ?_⟩
  · rw [State.fld_fcu' _ _ _ _ _ (by decide), State.fld_setIrq_ne _ _ _ _ (by decide), State.fld_count_ne _ _ _ _ (by decide)]; simp only [s2]; unfold State.setBit
    rw [State.fld_setFld_ne _ _ _ _ (by decide), State.fld_setFld_ne _ _ _ _ (by decide), State.fld_setFld_same]; exact Nat.mod_eq_of_lt (show k < 4 by omega)
  · rw [State.fld_fcu' _ _ _ _ _ (by decide), State.fld_setIrq_ne _ _ _ _ (by decide), State.fld_count_ne _ _ _ _ (by decide)]; simp only [s2]; unfold State.setBit
    rw [State.fld_setFld_ne _ _ _ _ (by decide), State.fld_setFld_same]; exact Nat.mod_eq_of_lt (by exact hm)
  · rw [State.fld_fcu' _ _ _ _ _ (by decide), State.fld_setIrq_ne _ _ _ _ (by decide), State.fld_count_ne _ _ _ _ (by decide)]; simp only [s2]; unfold State.setBit
    rw [State.fld_setFld_ne _ _ _ _ (by decide), State.fld_setFld_ne _ _ _ _ (by decide), State.fld_setFld_ne _ _ _ _ (by decide)]; simp only [s1]
    rw [State.fld_setFld_ne _ _ _ _ (by decide), State.fld_setFld_same]; exact Nat.mod_mod _ _
  · rw [State.fld_fcu' _ _ _ _ _ (by decide), State.fld_setIrq_ne _ _ _ _ (by decide), State.fld_count_ne _ _ _ _ (by decide)]; simp only [s2]; unfold State.setBit
    rw [State.fld_setFld_same]; cases w <;> rfl
  · rw [State.fld_fcu' _ _ _ _ _ (by decide)]; exact bit_of_irq _ _ _ (Nat.lt_of_lt_of_le hk (by decide))
  · rw [State.fcu'_mem]; rw [e]; rfl
  · rw [State.fcu'_pcie]; rw [e]; rfl
  · refine KeptF.fcu' (KeptF.setIrq (KeptF.count ?_ _ _ (by simp)) _ _ (by simp)) _ _ _; simp only [s2, s1]
    exact (((((KeptF.refl _ _).setFld _ _ (by simp)).setFld _ _ (by simp)).setFld _ _ (by simp)).setFld _ _ (by simp)).setBit _ _ (by simp)
theorem fld_park (s : State) (t : Target) (m : Nat) (f : Fld) : (s.park t m).fld f = s.fld f := rfl
theorem granGood_park (s : State) (t : Target) (m p a : Nat) (h : s.granGood p a) : (s.park t m).granGood p a := granGood_of s _ p a h rfl rfl
/-- A word of the register map is reached by the GSP and the CDC masters. -/
theorem target_regs (s : State) (m a : Nat) (hm : m ≤ 1) (h1 : 0x40000000 ≤ a) (h2 : a + 4 ≤ 0x401F0000) : s.target m a 4 = .regs := by
  unfold State.target; extract_lets r
  rw [if_neg, if_neg, if_neg, if_neg, if_neg, if_neg, if_pos]
  · refine ⟨hm, ?_⟩; unfold runIn; simp; omega
  · unfold runIn marvBase; simp; omega
  · unfold inCore runIn; simp; omega
  · unfold runIn granBase; simp; omega
  · unfold runIn mramBase; simp; omega
  · unfold runIn sramBase; simp; omega
  · unfold runIn; simp; omega
/-- A bus command runs unless its access is refused. -/
theorem runs_busTransaction {m : Fin 11} {q : BusReq} {f : Nat} {b : Bool} {s : State} {P : State → Prop}
    (h : (if b && !s.busFull m.val then s.accessUnsafe m.val q.addr q.len (q.data.map (fun l => l.map some)) else none) = none)
    (p : P (s.busIssue m.val q f b)) : Runs (.busTransaction m q f b) s P := ⟨_, by show s.busCmd _ _ _ _ = _; unfold State.busCmd; rw [h]; rfl, p⟩
theorem read_regs (s : State) (m a : Nat) (hm : m ≤ 1) (h1 : 0x40000000 ≤ a) (h2 : a + 4 ≤ 0x401F0000) (d : s.domBlocks a = none) :
    s.busDo m a 4 none 0 = (let (v, s1) := (s.park .regs m).regRead a; s1.respond .ok v) := by
  unfold State.busDo; rw [target_regs s m a hm h1 h2]; dsimp only
  unfold State.busRead; rw [show (s.park .regs m).domBlocks a = none from d]; dsimp only; rw [target_regs _ m a hm h1 h2]
theorem write_regs (s : State) (m a v : Nat) (hm : m ≤ 1) (h1 : 0x40000000 ≤ a) (h2 : a + 4 ≤ 0x401F0000) (d : s.domBlocks a = none) (hv : v < 0x100000000) :
    s.busDo m a 4 (some ((leBytes 4 v).map some)) 0 = ((s.park .regs m).regWrite (decide (m = 0)) a v).respond .ok 0 := by
  unfold State.busDo; rw [target_regs s m a hm h1 h2]; dsimp only
  unfold State.busWrite; extract_lets n
  have hn : n = 4 := by simp [n, leBytes_length]
  rw [show (s.park .regs m).domBlocks a = none from d]; dsimp only; rw [hn, target_regs _ m a hm h1 h2]; dsimp only
  rw [show List.map (fun (b : Option Byte) => b.getD 0) ((leBytes 4 v).map some) = leBytes 4 v by rw [List.map_map]; exact List.map_id _, leNat_leBytes, Nat.mod_eq_of_lt (by omega)]
theorem access_read_regs (s : State) (m a : Nat) (hm : m ≤ 1) (h1 : 0x40000000 ≤ a) (h2 : a + 4 ≤ 0x401F0000) (h3 : a % 4 = 0) :
    s.accessUnsafe m a 4 none = if (s.domBlocks a).isSome then none else s.readUnsafe a := by
  unfold State.accessUnsafe; extract_lets w w2 w3
  rw [target_regs _ m a hm h1 h2]; dsimp only; rw [if_neg (show ¬((4:Nat) ≠ 4 ∨ a % 4 ≠ 0 ∨ (!w2) = true) by simp [h3, w2])]; simp [w]
theorem access_write_regs (s : State) (m a v : Nat) (hm : m ≤ 1) (h1 : 0x40000000 ≤ a) (h2 : a + 4 ≤ 0x401F0000) (h3 : a % 4 = 0) (hv : v < 0x100000000) :
    s.accessUnsafe m a 4 (some ((leBytes 4 v).map some)) = if (s.domBlocks a).isSome then none else s.writeUnsafe (decide (m = 0)) a v := by
  unfold State.accessUnsafe; extract_lets w w2 w3
  have e : w3 = v := by simp only [w3, Option.getD_some]; rw [show List.map (fun (b : Option Byte) => b.getD 0) ((leBytes 4 v).map some) = leBytes 4 v by rw [List.map_map]; exact List.map_id _, leNat_leBytes, Nat.mod_eq_of_lt (by omega)]
  rw [target_regs _ m a hm h1 h2]; dsimp only; rw [if_neg (show ¬((4:Nat) ≠ 4 ∨ a % 4 ≠ 0 ∨ (!w2) = true) by simp [h3, w2])]; simp [w, e]
/-- The bus master of a register command: master 0 with the guard, else 1. -/
def mOf (g : Bool) : Nat := if g then 0 else 1
theorem mOf_le (g : Bool) : mOf g ≤ 1 := by cases g <;> decide
/-- A read of a register runs where the read is not refused. -/
theorem runs_readClear {g : Bool} {a : Nat} {s : State} {P : State → Prop} (h1 : 0x40000000 ≤ a) (h2 : a + 4 ≤ 0x401F0000) (h3 : a % 4 = 0) (d : s.domBlocks a = none) (w : s.readUnsafe a = none)
    (p : P (((s.park .regs (mOf g)).regRead a).2.respond .ok ((s.park .regs (mOf g)).regRead a).1)) : Runs (.readClear g a) s P :=
  ⟨_, by show s.wordAccess g a none = finish s (s.busDo (mOf g) a 4 none 0); unfold State.wordAccess; extract_lets m dd
         rw [show dd = none from rfl, show m = mOf g from rfl, access_read_regs s _ a (mOf_le g) h1 h2 h3, d, w]; rfl,
   by rw [read_regs s _ a (mOf_le g) h1 h2 d]; exact p⟩
/-- A write of a register runs where the write is not refused. -/
theorem runs_registerWrite {g : Bool} {a : Nat} {v : Word} {s : State} {P : State → Prop} (h1 : 0x40000000 ≤ a) (h2 : a + 4 ≤ 0x401F0000) (h3 : a % 4 = 0) (d : s.domBlocks a = none) (w : s.writeUnsafe g a v.toNat = none)
    (p : P (((s.park .regs (mOf g)).regWrite g a v.toNat).respond .ok 0)) : Runs (.registerWrite g a v) s P :=
  ⟨_, by show s.wordAccess g a (some v.toNat) = finish s (s.busDo (mOf g) a 4 (some ((leBytes 4 v.toNat).map some)) 0); unfold State.wordAccess; extract_lets m dd
         rw [show dd = some ((leBytes 4 v.toNat).map some) from rfl, show m = mOf g from rfl, access_write_regs s _ a _ (mOf_le g) h1 h2 h3 v.isLt, d, show (decide (mOf g = 0)) = g by cases g <;> rfl, w]; rfl,
   by rw [write_regs s _ a _ (mOf_le g) h1 h2 d v.isLt, show (decide (mOf g = 0)) = g by cases g <;> rfl]; exact p⟩
/-- A read by a bus transaction of a register without side effects. -/
theorem runs_read_transaction (s : State) (m : Fin 11) (hm : m.val ≤ 1) (hb : s.busFull m.val = false) (a v : Nat) (h1 : 0x40000000 ≤ a) (h2 : a + 4 ≤ 0x401F0000) (h3 : a % 4 = 0)
   (hv : ∀ t : State, t.regRead a = (v, t)) (hd : s.domBlocks a = none) (hr : s.readUnsafe a = none) :
   Runs (.busTransaction m ⟨a, 4, none⟩ 0 true) s (fun u => u.mem14.respBus = ⟨.ok, v⟩ ∧ u.regs = s.regs ∧ u.mem = s.mem) := by
  refine runs_busTransaction ?_ ?_
  · show (if true && !s.busFull m.val then s.accessUnsafe m.val a 4 none else none) = none
    rw [access_read_regs s _ a hm h1 h2 h3, hd, hr]; simp
  · unfold State.busIssue; rw [if_neg (by rw [hb]; decide), if_pos (Or.inl rfl)]
    show _ ∧ _ ∧ _
    rw [show s.busDo m.val a 4 (Option.map (fun l => List.map some l) none) 0 = s.busDo m.val a 4 none 0 from rfl, read_regs s _ a hm h1 h2 hd, hv]; exact ⟨rfl, rfl, rfl⟩

end Sys2Proof
end

