-- ==== Sys2Proof/Laws/Settle.lean ====
section
/-!
SUPPORT. The end of a command: where no reaction waits, only the collector's tie marks and the MSI-X side of the host port change.
-/

namespace Sys2Proof.Machine

theorem State.reactAll_quiet (s : State) (d : List Nat) (n : Nat) (h : s.fcu.todo = []) : s.reactAll d n = s := by
  cases n with
  | zero => rfl
  | succ n => simp [State.reactAll, h]

/-- A message of a vector touches the host port alone. -/
theorem State.msixSend_eq (s : State) (v : Nat) : ∃ p, s.msixSend v = { s with pcie := p } := by
  unfold State.msixSend; split <;> exact ⟨_, rfl⟩

theorem State.msixFold_eq (now : Nat) (lev : Nat) (l : List Nat) (s : State) :
    ∃ p, l.foldl (fun t v => if bitOf now v ∧ !bitOf lev v then t.msixSend v else t) s = { s with pcie := p } := by
  induction l generalizing s with
  | nil => exact ⟨s.pcie, rfl⟩
  | cons v r ih =>
    simp only [List.foldl_cons]
    split
    · obtain ⟨p, hp⟩ := s.msixSend_eq v
      obtain ⟨q, hq⟩ := ih (s.msixSend v)
      exact ⟨q, by rw [hq, hp]⟩
    · exact ih s

theorem State.msixEdges_eq (s : State) : ∃ p, s.msixEdges = { s with pcie := p } := by
  unfold State.msixEdges
  simp only
  split
  · exact ⟨s.pcie, rfl⟩
  · obtain ⟨p, hp⟩ := State.msixFold_eq s.msixLevel s.pcie.level (List.range 64) s
    exact ⟨{ p with level := s.msixLevel }, by rw [hp]⟩

/-- Where no reaction waits, settling changes the collector's tie marks and the host port alone. -/
theorem State.settle_quiet (s : State) (h : s.fcu.todo = []) :
    ∃ p, s.settle = { s with fcu := { s.fcu with firstNew := false, lastNew := false, todo := [] }, pcie := p } := by
  have h1 : s.newCycle.fcu.todo = [] := h
  obtain ⟨p, hp⟩ := State.msixEdges_eq { s.newCycle.newCycle with fcu := { s.newCycle.newCycle.fcu with todo := [] } }
  exact ⟨p, by simp only [State.settle, State.reactAll_quiet _ _ _ h1, hp]; simp [State.newCycle]⟩

/-- No reaction is left waiting. -/
@[simp] theorem State.settle_todo (s : State) : s.settle.fcu.todo = [] := by
  obtain ⟨p, hp⟩ := State.msixEdges_eq { (s.newCycle.reactAll [] 512).newCycle with fcu := { (s.newCycle.reactAll [] 512).newCycle.fcu with todo := [] } }
  simp only [State.settle, hp]

theorem State.settle_regs (s : State) (h : s.fcu.todo = []) : s.settle.regs = s.regs := by
  obtain ⟨p, hp⟩ := s.settle_quiet h; rw [hp]
theorem State.settle_mem (s : State) (h : s.fcu.todo = []) : s.settle.mem = s.mem := by
  obtain ⟨p, hp⟩ := s.settle_quiet h; rw [hp]
theorem State.settle_mem14 (s : State) (h : s.fcu.todo = []) : s.settle.mem14 = s.mem14 := by
  obtain ⟨p, hp⟩ := s.settle_quiet h; rw [hp]
theorem State.settle_free (s : State) (h : s.fcu.todo = []) : s.settle.free = s.free := by
  obtain ⟨p, hp⟩ := s.settle_quiet h; rw [hp]
theorem State.settle_tick (s : State) (h : s.fcu.todo = []) : s.settle.tick = s.tick := by
  obtain ⟨p, hp⟩ := s.settle_quiet h; rw [hp]
theorem State.settle_cores (s : State) (h : s.fcu.todo = []) : s.settle.cores = s.cores := by
  obtain ⟨p, hp⟩ := s.settle_quiet h; rw [hp]
theorem State.settle_hops (s : State) (h : s.fcu.todo = []) : s.settle.hops = s.hops := by
  obtain ⟨p, hp⟩ := s.settle_quiet h; rw [hp]
theorem State.settle_img (s : State) (h : s.fcu.todo = []) : s.settle.img = s.img := by
  obtain ⟨p, hp⟩ := s.settle_quiet h; rw [hp]
theorem State.settle_bind (s : State) (h : s.fcu.todo = []) : s.settle.bind = s.bind := by
  obtain ⟨p, hp⟩ := s.settle_quiet h; rw [hp]
theorem State.settle_sil (s : State) (h : s.fcu.todo = []) : s.settle.sil = s.sil := by
  obtain ⟨p, hp⟩ := s.settle_quiet h; rw [hp]
theorem State.settle_silo (s : State) (h : s.fcu.todo = []) : s.settle.silo = s.silo := by
  obtain ⟨p, hp⟩ := s.settle_quiet h; rw [hp]
theorem State.settle_marv (s : State) (h : s.fcu.todo = []) : s.settle.marv = s.marv := by
  obtain ⟨p, hp⟩ := s.settle_quiet h; rw [hp]
theorem State.settle_sap (s : State) (h : s.fcu.todo = []) : s.settle.sap = s.sap := by
  obtain ⟨p, hp⟩ := s.settle_quiet h; rw [hp]
theorem State.settle_net (s : State) (h : s.fcu.todo = []) : s.settle.net = s.net := by
  obtain ⟨p, hp⟩ := s.settle_quiet h; rw [hp]
theorem State.settle_strm (s : State) (h : s.fcu.todo = []) : s.settle.strm = s.strm := by
  obtain ⟨p, hp⟩ := s.settle_quiet h; rw [hp]
theorem State.settle_ptp (s : State) (h : s.fcu.todo = []) : s.settle.ptp = s.ptp := by
  obtain ⟨p, hp⟩ := s.settle_quiet h; rw [hp]
theorem State.settle_clk (s : State) (h : s.fcu.todo = []) : s.settle.clk = s.clk := by
  obtain ⟨p, hp⟩ := s.settle_quiet h; rw [hp]
theorem State.settle_pair (s : State) (h : s.fcu.todo = []) : s.settle.pair = s.pair := by
  obtain ⟨p, hp⟩ := s.settle_quiet h; rw [hp]
theorem State.settle_chain (s : State) (h : s.fcu.todo = []) : s.settle.chain = s.chain := by
  obtain ⟨p, hp⟩ := s.settle_quiet h; rw [hp]
theorem State.settle_fab (s : State) (h : s.fcu.todo = []) : s.settle.fab = s.fab := by
  obtain ⟨p, hp⟩ := s.settle_quiet h; rw [hp]
theorem State.settle_amp (s : State) (h : s.fcu.todo = []) : s.settle.amp = s.amp := by
  obtain ⟨p, hp⟩ := s.settle_quiet h; rw [hp]
theorem State.settle_grng (s : State) (h : s.fcu.todo = []) : s.settle.grng = s.grng := by
  obtain ⟨p, hp⟩ := s.settle_quiet h; rw [hp]
theorem State.settle_lcs (s : State) (h : s.fcu.todo = []) : s.settle.lcs = s.lcs := by
  obtain ⟨p, hp⟩ := s.settle_quiet h; rw [hp]
theorem State.settle_sens (s : State) (h : s.fcu.todo = []) : s.settle.sens = s.sens := by
  obtain ⟨p, hp⟩ := s.settle_quiet h; rw [hp]
theorem State.settle_pwr (s : State) (h : s.fcu.todo = []) : s.settle.pwr = s.pwr := by
  obtain ⟨p, hp⟩ := s.settle_quiet h; rw [hp]
theorem State.settle_jtag (s : State) (h : s.fcu.todo = []) : s.settle.jtag = s.jtag := by
  obtain ⟨p, hp⟩ := s.settle_quiet h; rw [hp]
theorem State.settle_held (s : State) (h : s.fcu.todo = []) : s.settle.held = s.held := by
  obtain ⟨p, hp⟩ := s.settle_quiet h; rw [hp]
theorem State.settle_fld (s : State) (f : Fld) (h : s.fcu.todo = []) : s.settle.fld f = s.fld f := by
  simp only [State.fld, s.settle_regs h]
theorem State.settle_bit (s : State) (f : Fld) (h : s.fcu.todo = []) : s.settle.bit f = s.bit f := by
  simp only [State.bit, s.settle_fld f h]
theorem State.settle_core (s : State) (n : Nat) (h : s.fcu.todo = []) : s.settle.core n = s.core n := by
  simp only [State.core, s.settle_cores h]
theorem State.settle_hop (s : State) (n : Nat) (h : s.fcu.todo = []) : s.settle.hop n = s.hop n := by
  simp only [State.hop, s.settle_hops h]

/-- A command that is not turned away answers a next state. -/
theorem finish_next (s u : State) : finish s u = .next (settled s u) := rfl

/-! The settled state of a command that left no reaction -/

@[simp] theorem settled_part (s u : State) : (settled s u).part = s.part := rfl
@[simp] theorem settled_pending (s u : State) : (settled s u).pending = s.pending := rfl
@[simp] theorem settled_todo (s u : State) : (settled s u).fcu.todo = [] := u.settle_todo


theorem settled_regs (s u : State) (h : u.fcu.todo = []) : (settled s u).regs = u.regs := u.settle_regs h
theorem settled_mem (s u : State) (h : u.fcu.todo = []) : (settled s u).mem = u.mem := u.settle_mem h
theorem settled_mem14 (s u : State) (h : u.fcu.todo = []) : (settled s u).mem14 = u.mem14 := u.settle_mem14 h
theorem settled_free (s u : State) (h : u.fcu.todo = []) : (settled s u).free = u.free := u.settle_free h
theorem settled_tick (s u : State) (h : u.fcu.todo = []) : (settled s u).tick = u.tick := u.settle_tick h
theorem settled_cores (s u : State) (h : u.fcu.todo = []) : (settled s u).cores = u.cores := u.settle_cores h
theorem settled_hops (s u : State) (h : u.fcu.todo = []) : (settled s u).hops = u.hops := u.settle_hops h
theorem settled_img (s u : State) (h : u.fcu.todo = []) : (settled s u).img = u.img := u.settle_img h
theorem settled_bind (s u : State) (h : u.fcu.todo = []) : (settled s u).bind = u.bind := u.settle_bind h
theorem settled_sil (s u : State) (h : u.fcu.todo = []) : (settled s u).sil = u.sil := u.settle_sil h
theorem settled_silo (s u : State) (h : u.fcu.todo = []) : (settled s u).silo = u.silo := u.settle_silo h
theorem settled_marv (s u : State) (h : u.fcu.todo = []) : (settled s u).marv = u.marv := u.settle_marv h
theorem settled_sap (s u : State) (h : u.fcu.todo = []) : (settled s u).sap = u.sap := u.settle_sap h
theorem settled_net (s u : State) (h : u.fcu.todo = []) : (settled s u).net = u.net := u.settle_net h
theorem settled_strm (s u : State) (h : u.fcu.todo = []) : (settled s u).strm = u.strm := u.settle_strm h
theorem settled_ptp (s u : State) (h : u.fcu.todo = []) : (settled s u).ptp = u.ptp := u.settle_ptp h
theorem settled_clk (s u : State) (h : u.fcu.todo = []) : (settled s u).clk = u.clk := u.settle_clk h
theorem settled_pair (s u : State) (h : u.fcu.todo = []) : (settled s u).pair = u.pair := u.settle_pair h
theorem settled_chain (s u : State) (h : u.fcu.todo = []) : (settled s u).chain = u.chain := u.settle_chain h
theorem settled_fab (s u : State) (h : u.fcu.todo = []) : (settled s u).fab = u.fab := u.settle_fab h
theorem settled_amp (s u : State) (h : u.fcu.todo = []) : (settled s u).amp = u.amp := u.settle_amp h
theorem settled_grng (s u : State) (h : u.fcu.todo = []) : (settled s u).grng = u.grng := u.settle_grng h
theorem settled_lcs (s u : State) (h : u.fcu.todo = []) : (settled s u).lcs = u.lcs := u.settle_lcs h
theorem settled_sens (s u : State) (h : u.fcu.todo = []) : (settled s u).sens = u.sens := u.settle_sens h
theorem settled_pwr (s u : State) (h : u.fcu.todo = []) : (settled s u).pwr = u.pwr := u.settle_pwr h
theorem settled_jtag (s u : State) (h : u.fcu.todo = []) : (settled s u).jtag = u.jtag := u.settle_jtag h
theorem settled_held (s u : State) (h : u.fcu.todo = []) : (settled s u).held = u.held := u.settle_held h
theorem settled_fld (s u : State) (f : Fld) (h : u.fcu.todo = []) : (settled s u).fld f = u.fld f := u.settle_fld f h
theorem settled_bit (s u : State) (f : Fld) (h : u.fcu.todo = []) : (settled s u).bit f = u.bit f := u.settle_bit f h
theorem settled_core (s u : State) (n : Nat) (h : u.fcu.todo = []) : (settled s u).core n = u.core n := u.settle_core n h
theorem settled_hop (s u : State) (n : Nat) (h : u.fcu.todo = []) : (settled s u).hop n = u.hop n := u.settle_hop n h
theorem settled_byte (s u : State) (a : Nat) (h : u.fcu.todo = []) : (settled s u).byte a = u.byte a := by
  simp only [State.byte, settled_mem s u h]

end Sys2Proof.Machine
end

