-- ==== Sys2Proof/WellFormed.lean ====
section
/-!
DEFINITION. Which commands are well formed: what they carry has the shape that the spec gives it.
-/

namespace Sys2Proof

/-- A write carries as many bytes as the request names, and a request is not empty (R360). -/
def BusReq.wf (r : BusReq) : Bool :=
  decide (0 < r.len) && (match r.data with | none => true | some b => decide (b.length = r.len))
/-- A bank port acts within one 64-bit word: an aligned container, or bytes that do not leave the word (R349). -/
def GranOp.wf (o : GranOp) : Bool :=
  match o.act with
  | .read => decide (o.addr % 4 = 0)
  | .write b => decide (0 < b.length) && decide (o.addr % 8 + b.length ≤ 8)
  | .add _ => decide (o.addr % 4 = 0)
  | .swap _ => decide (o.addr % 4 = 0)
/-- A host request goes through BAR0, BAR2 or BAR4 and carries an enable for each byte (R367, R368). -/
def HostReq.wf (r : HostReq) : Bool :=
  (decide (r.bar = 0) || decide (r.bar = 2) || decide (r.bar = 4)) && decide (0 < r.len) &&
  (match r.data with | none => true | some b => decide (b.length = r.len))
/-- A boundary brings one current and one phase for each of the 32 channels, and one reading for each of the 4 rails
(R338, R340). -/
def BoundaryEnv.wf (e : BoundaryEnv) : Bool :=
  decide (e.rails.length = 4) && decide (e.ipeak.length = 32) && decide (e.phase.length = 32) && decide (e.track < 2 ^ 32)
/-- A mailbox datagram carries at most 64 words (R406). -/
def Mbx.wf : Mbx → Bool
  | .host => true
  | .mgmt ws => decide (ws.length ≤ 64)

/-- A command is well formed. -/
def Instr.wf : Instr → Bool
  | .registerWrite _ a _ => decide (a % 4 = 0)
  | .readClear _ a => decide (a % 4 = 0)
  | .busTransaction _ r _ _ => r.wf
  | .firstBoundary e => e.wf
  | .tickBoundary e => e.wf
  | .granaryAccess a b _ => (a.all GranOp.wf) && (b.all GranOp.wf)
  | .lpddr5Access r _ => r.wf
  | .hostRequest r _ _ => r.wf
  | .receiveFrame _ b _ _ => decide (0 < b.length)
  | .info v => v.wf
  | .logRead v => v.wf
  | .logDump v _ => v.wf
  | .logWrite v => v.wf
  | .cfgRead v => v.wf
  | .cfgWrite v => v.wf
  | .cfgCommit v => v.wf
  | .sensRead v => v.wf
  | .updStage v => v.wf
  | .updActivate v => v.wf
  | .updConfirm v => v.wf
  | .libLoad v => v.wf
  | .snapSave v => v.wf
  | .snapLoad v => v.wf
  | .lcRequest v => v.wf
  | .keyWrite v => v.wf
  | .cntInc v => v.wf
  | .wipeCfg v => v.wf
  | .restart v => v.wf
  | .chipReset v => v.wf
  | _ => true

end Sys2Proof
end

