-- ==== Sys2Proof/Tests/Slice0.lean ====
section
/-! SUPPORT. Tests of one operation or one step each: the ill-formed commands that the well-formedness check refuses, the worked examples
of the spec, and for every obligation with hypotheses one theorem that shows states and operands that meet them, clause by clause. -/

set_option maxRecDepth 8000
namespace Sys2Proof.Tests
open Sys2Proof Machine

/-- Reset with some register fields set. -/
def st (l : List (Fld × Nat)) : State := l.foldl (fun s p => s.setFld p.1 p.2) State.reset
/-- An image of nothing. -/
def img0 : Image :=
  { epoch := 0, hash := 0, rate := 1, placement := 0, flags := 0, marvDecl := 0, bindDecl := 0, declMax := 0, coreMask := 0, patchBase := 0,
    patchSize := 0, cores := [], predEpoch := none, carry := [], gather := [], scatter := [], rings := [], latency := [], settle := 0,
    omitted := [], marv := none, sap := [], strm := StrmMap.empty, chain := ChainMap.empty, amp := [], silo := none }
/-- A state in which an image runs from slot A. -/
def running (i : Image) (s : State) : State := { s with img := { s.img with slotA := some i, running := some 0 } }
/-- A tick image with an empty gather list, at rate 96 kHz. -/
def imgBytes : List Byte := [73, 84, 89, 86, 1, 0, 0, 0, 148, 0, 0, 0, 1, 0, 0, 0, 5] ++ List.replicate 15 0 ++ [1] ++ List.replicate 35 0 ++ [146, 33, 123, 254] ++ List.replicate 56 0 ++ [16, 0, 0, 0, 144, 0, 0, 0, 4, 0, 0, 0, 199, 75, 103, 72, 0, 0, 0, 0]
/-- It is being loaded from the start of the Granary into a slot. -/
def loadSt (slot : Nat) (r : List (Fld × Nat)) : State :=
  { (st r).setBytes granBase imgBytes with img := { ImgSt.reset with loading := some (slot, granBase, 148) } }
def loadSt1 (slot : Nat) (r : List (Fld × Nat)) : State := { loadSt slot r with img := { (loadSt slot r).img with loading := none } }.showImgBusy
/-- A heartbeat of the other side for tick 0. -/
def beatBytes : List Byte :=
  let h : List Byte := leBytes 2 0x5648 ++ leBytes 2 0 ++ leBytes 2 8 ++ List.replicate 38 0
  h ++ leBytes 4 (crc32c h)
/-- It as an Ethernet frame. -/
def beatFrame : RxFrame := ⟨0, 0, List.replicate 14 0 ++ beatBytes, 0, 0⟩
/-- A parse. -/
def beat0 : Beat := ⟨0, false, false, false, false, 0, 0, 0, 0, 0, 0⟩
/-- Core n is RUNNING with the registers k, and its program counter is at instruction i. -/
def iatSt (n : Nat) (i : Iop) (k : Core) : State := ((st [(R.IATC_CORE_STAT_STATE n, 2)]).setCore n k).setPWord n k.pc.toNat (encodeIop i)
/-- An AAF frame of one channel, one 32-bit sample. -/
def aafFrame : RxFrame :=
  ⟨0, 5, List.replicate 12 0 ++ [0x22, 0xF0, 2, 0x81] ++ List.replicate 14 0 ++ [2, 0x70, 1, 32, 0, 4, 0, 0] ++ List.replicate 8 9, 0, 0⟩
/-- A PTP Announce message over Ethernet. -/
def annFrame : RxFrame := ⟨0, 0, List.replicate 12 0 ++ [0x88, 0xF7, 0x1B, 2] ++ List.replicate 70 0, 0, 0⟩
/-- A frame of 64 bytes from its first ones, with its FCS. -/
def frame64 (l : List Byte) : List Byte := let b := l ++ List.replicate (60 - l.length) 0; b ++ fcsBytes b
/-- A patch buffer whose two records hold 4097 words for one sheaf. -/
def bigPatch : List Byte := [0, 0, 0, 0, 0, 0x10, 0, 0] ++ (List.replicate 16384 0 ++ [0, 0, 0, 0, 1, 0, 0, 0, 0, 0, 0, 0, 0, 0, 0, 0xC0])
/-- Words inside a run of zeros are 0. -/
theorem leAt_zeros (p q : List Byte) (n o : Nat) (h : p.length ≤ o) (h2 : o + 4 ≤ p.length + n) :
    leAt (p ++ (List.replicate n 0 ++ q)) o 4 = 0 := by
  have e : ((p ++ (List.replicate n 0 ++ q)).drop o).take 4 = List.replicate 4 0 := by
    rw [List.drop_append, List.drop_eq_nil_of_le h, List.nil_append, List.drop_append, List.drop_replicate, List.take_append,
      List.take_replicate, List.length_replicate]
    have a : min 4 (n - (o - p.length)) = 4 := by omega
    have b : 4 - (n - (o - p.length)) = 0 := by omega
    rw [a, b, List.take_zero, List.append_nil]
  unfold leAt; rw [e]; decide
/-- Its records. -/
theorem bigPatch_scan : patchScan bigPatch (bigPatch.length / 4 + 1) 0 = some [⟨0, 0, 0, 0, 4096, 8⟩, ⟨0, 0, 0, 0, 1, 16400⟩] := by
  have hl : bigPatch.length = 16408 := by decide +kernel
  have z : (List.range 4096).all (fun k => decide (leAt bigPatch (8 + 4 * k) 4 < 0x1000000)) = true := by
    rw [List.all_eq_true]; intro k hk
    have := List.mem_range.mp hk
    rw [show leAt bigPatch (8 + 4 * k) 4 = 0 from leAt_zeros _ _ _ _ (by show 8 ≤ _; omega) (by show _ ≤ 8 + 16384; omega)]; rfl
  have t : patchScan bigPatch 4102 16392 = some [⟨0, 0, 0, 0, 1, 16400⟩] := by decide +kernel
  have w0 : leAt bigPatch 0 4 = 0 := by decide +kernel
  have w1 : leAt bigPatch 4 4 = 4096 := by decide +kernel
  rw [hl]
  show patchScan bigPatch (4102 + 1) 0 = _
  unfold patchScan
  simp [hl, w0, w1, t, bits, PatchRec.words]
  simpa using z
/-- A state in which it is armed as patch 9 of the running image. -/
def bigPatchSt : State :=
  running { img0 with patchSize := 16408, coreMask := 1 } ((({ State.reset with img := { ImgSt.reset with patch := some 9 } }.setByte
    (granBase + 5) 0x10).setByte (granBase + 16396) 1).setByte (granBase + 16407) 0xC0)
set_option maxRecDepth 100000 in
/-- The buffer as the check reads it. -/
theorem bigPatchSt_read : bigPatchSt.readShared 2 granBase 16408 0 = (some bigPatch, bigPatchSt) := by decide +kernel
/-- The AAF frame with an R-TAG, sequence number 7. -/
def aafTagged : RxFrame := { aafFrame with bytes := List.replicate 12 0 ++ [0xF1, 0xC1, 0, 0, 0, 7] ++ aafFrame.bytes.drop 12 }

/-! Ill-formed commands are refused, one for each check of WellFormed. -/

/-- R8: a register access at an address that is no whole word. -/
theorem test_wf_address : (Instr.registerWrite true 0x40040002 0).wf = false ∧ (Instr.readClear true 0x40040001).wf = false := by decide
/-- R360: an empty request, and a write whose bytes are not as many as it names. -/
theorem test_wf_bus : (Instr.busTransaction 0 ⟨0, 0, none⟩ 0 true).wf = false ∧ (Instr.lpddr5Access ⟨0, 4, some [0]⟩ 0).wf = false := by decide
/-- R349: bytes that leave their 64-bit word, and a container that is not aligned. -/
theorem test_wf_port : (Instr.granaryAccess (some ⟨granBase + 6, .write [1, 2, 3]⟩) none 0).wf = false ∧
    (Instr.granaryAccess none (some ⟨granBase + 2, .read⟩) 0).wf = false ∧ (Instr.granaryAccess none (some ⟨granBase + 1, .add 1⟩) 0).wf = false ∧
    (Instr.granaryAccess none (some ⟨granBase + 1, .swap 1⟩) 0).wf = false := by decide
/-- R367: a base address register that the endpoint has not, and an empty request. -/
theorem test_wf_host : (Instr.hostRequest ⟨1, 0, 4, none⟩ 0 false).wf = false ∧ (Instr.hostRequest ⟨0, 0, 0, none⟩ 0 false).wf = false ∧
    (Instr.hostRequest ⟨0, 0, 2, some [none]⟩ 0 false).wf = false := by decide
/-- R338: a boundary without the currents of its 32 channels. -/
theorem test_wf_boundary : (Instr.tickBoundary ⟨0, [0, 0, 0, 0], 0, [], []⟩).wf = false := by decide
/-- R406: a datagram of 65 words; R198: a frame without bytes. -/
theorem test_wf_mailbox : (Instr.info (.mgmt (List.replicate 65 0))).wf = false ∧ (Instr.receiveFrame 0 [] false 0).wf = false := by decide

/-! The spec's worked examples. -/

/-- R16's example: domain time 1,700,000,000 s and 500,000,000 ns is tick 20,400,000,006,000. -/
theorem test_tick_number : (splitOffset (1700000000500000000 * nsUnit)).1 = 20400000006000 := by decide
/-- R46's example: 0.5 × 0.5 reads 0x00_200000_000000. -/
theorem test_product : wrap56 (product 0x400000 0x400000) = 0x00200000000000 := by decide
/-- The example after Table 2-5: PT2 = 0x0252 with MD2 = 20 and OF2 = +3 goes to 0x0241, and back with −3. -/
theorem test_modulo : advance 0x252 20 3 = 0x241 ∧ advance 0x241 20 (-3) = 0x252 ∧ advance 0x253 20 1 = 0x240 := by decide
/-- The encoding example of R80: MAC A, F0, F2 | x[PT0+=OF0] → F3 | C → B. -/
theorem test_word_mac : decodeIop 0x3020200C630A = some (.mul true false false 0 0 2 (.read .pair 0 .postOf (.f 3)) (.reg (.acc 2) (.acc 1) false)) := by decide
/-- The second encoding example: LDI MD0, 10. -/
theorem test_word_ldi : decodeIop 0x15200000000A = some (.ldi (.md 0) 10) := by decide
/-- R156's example: the coefficients at f = 0.5 with GAIN = 0x20_0000. -/
theorem test_coefficients : [0, 1, 2, 3].map (fun j => BitVec.ofInt 24 (coeff j 128 0x200000)) = [0xFE0000, 0x120000, 0x120000, 0xFE0000] := by decide
/-- R158's example: 24,576 units with SLEW = 20 give a delta of 20, and 16 in the last tick. -/
theorem test_slew : slewDelta 307200 331776 20 = 20 ∧ slewDelta (307200 + 24560) 331776 20 = 16 := by decide
/-- R137's example: LEN 48,000 with W = 40,000 shrinks to 30,000: W becomes 10,000. -/
theorem test_ring_shrinks :
    let s := ({ State.reset with bind := { BindSt.reset with rings := [(7, { Ring.absent with cap := 48000, len := 48000, w := 40000 })] } }).ringSetLen 7 30000 false
    (s.ring 7).w = 10000 ∧ (s.ring 7).len = 30000 := by decide
/-- R138's examples: 64 channels at 96 kHz make records of 2,064 bytes, 8 at 48 kHz of 144. -/
theorem test_record_bytes : siloRecBytes 64 8 = 2064 ∧ siloRecBytes 8 4 = 144 := by decide
/-- R179's example: RX_MASK = 0xF0F3 selects ten slots, a native frame has 10 words, one of 3-byte samples 8. -/
theorem test_slots : slotsOf 0xF0F3 = [0, 1, 4, 5, 6, 7, 12, 13, 14, 15] ∧ frameWords 0 10 = 10 ∧ frameWords 1 10 = 8 := by decide
/-- R271's example: after 6 h the word is −1,918.00 ppb, with words and terms in 0.01 ppb. -/
theorem test_holdover :
    let s := ([(R.CLK_HO_AVG, -185000), (R.CLK_HO_KT_KT, -1240), (R.CLK_HO_AGE_AGE, 80), (R.CLK_HO_TREF, 4150), (R.SENS_S_VALUE 5, 4700)] : List (Fld × Int)).foldl
      (fun t p => t.setSFld p.1 p.2) { st [(R.CLK_STATUS_STATE, 4), (R.CLK_HO_KT_VALID, 1), (R.CLK_HO_AGE_VALID, 1), (R.CLK_HO_TIME, 21599)] with
        clk := { ClkSt.reset with model := true } }
    (s.holdoverUpdate false).sfld R.CLK_FREQ_WORD = -191800 := by decide
/-- The example of R347: bus address 0x1080_0A48 lies in word 16,389 of bank 9. -/
theorem test_bank : granWordOf 0x10800A48 % 64 = 9 ∧ granWordOf 0x10800A48 / 64 = 16389 ∧ granHalf 0x10800A48 = 0 := by decide

/-! Steps. -/

/-- A step takes the front of the queue only. -/
theorem test_queue : ∃ t, step { State.reset with pending := [.runSet, .runClear] } = .next t ∧ t.pending = [.runClear] ∧ t.fld R.TICK_CTRL_RUN = 1 :=
  ⟨_, rfl, by decide, by decide⟩
/-- No word spells a command, and an empty queue idles. -/
theorem test_no_words : State.reset.withFetchWord 32 0xFFFFFFFF = State.reset ∧ step State.reset = .next State.reset := ⟨rfl, rfl⟩

/-! Witnesses of the obligations. -/

/-- States and operands that meet the hypotheses of every clause of SequencerStartsAndStops. -/
theorem witness_SequencerStartsAndStops :
    (∃ (s : State), (s.bit R.TICK_CTRL_RUN = false) ∧ (s.fld R.LCS_STATE_STATE ≠ 4)) ∧
    (∃ (s : State), (s.bit R.TICK_CTRL_RUN = true ∨ s.fld R.LCS_STATE_STATE = 4)) ∧
    (∃ (s : State), (s.bit R.TICK_CTRL_RUN = true)) ∧
    (∃ (s : State), (s.bit R.TICK_CTRL_RUN = false)) ∧
    (∃ (s : State), (s.tick.stopping = true)) ∧
    (∃ (s : State), (s.tick.stopping = false)) :=
  ⟨⟨(st [(R.TICK_CTRL_RUN, 0)]), by decide⟩,
   ⟨(st [(R.TICK_CTRL_RUN, 1)]), by decide⟩,
   ⟨(st [(R.TICK_CTRL_RUN, 1)]), by decide⟩,
   ⟨(st [(R.TICK_CTRL_RUN, 0)]), by decide⟩,
   ⟨({ State.reset with tick := { TickSt.reset with stopping := true } }), by decide⟩,
   ⟨({ State.reset with tick := { TickSt.reset with stopping := false } }), by decide⟩⟩

/-- States and operands that meet the hypotheses of every clause of BoundaryOpensTheTick. -/
theorem witness_BoundaryOpensTheTick :
    (∃ (s : State), (s.tick.starting = true) ∧ (s.bit R.TICK_STATUS_RUNNING = false)) ∧
    (∃ (s : State), (s.tick.starting = false ∨ s.bit R.TICK_STATUS_RUNNING = true)) ∧
    (∃ (s : State) (t : State) (env : BoundaryEnv), (s.bit R.TICK_STATUS_RUNNING = true) ∧ (t = (s.elapse env.dt).beaconTurn) ∧ (t.tick.stopping = false)) ∧
    (∃ (s : State) (env : BoundaryEnv), (s.bit R.TICK_STATUS_RUNNING = true) ∧ (((s.elapse env.dt).beaconTurn).tick.stopping = true)) ∧
    (∃ (s : State), (s.bit R.TICK_STATUS_RUNNING = false)) ∧
    (∃ (s : State), (s.fab.realign = none)) ∧
    (∃ (s : State) (n : Nat), (s.fab.realign = some n)) ∧
    (∃ (s : State) (t : Nat), (t % 2 ^ 64 % Nat.max 1 (s.fld R.TICK_IRQ_DIV) = 0)) ∧
    (∃ (s : State), (s.tick.localBase = true) ∧ (s.tick.seedLate = false)) :=
  ⟨⟨({ State.reset with tick := { TickSt.reset with starting := true } }), by decide⟩,
   ⟨({ State.reset with tick := { TickSt.reset with starting := false } }), by decide⟩,
   ⟨(st [(R.TICK_STATUS_RUNNING, 1)]), (((st [(R.TICK_STATUS_RUNNING, 1)]).elapse 0).beaconTurn), (⟨0, [], 0, [], []⟩), by decide⟩,
   ⟨({ st [(R.TICK_STATUS_RUNNING, 1)] with tick := { TickSt.reset with stopping := true } }), (⟨0, [], 0, [], []⟩), by decide⟩,
   ⟨(st [(R.TICK_STATUS_RUNNING, 0)]), by decide⟩,
   ⟨({ State.reset with fab := { FabSt.reset with realign := none } }), by decide⟩,
   ⟨({ State.reset with fab := { FabSt.reset with realign := some 7 } }), (7), by decide⟩,
   ⟨(st [(R.TICK_IRQ_DIV, 4)]), (8), by decide⟩,
   ⟨({ State.reset with tick := { TickSt.reset with localBase := true } }), by decide⟩⟩

/-- States and operands that meet the hypotheses of every clause of TickNumberAndAtInterrupt. -/
theorem witness_TickNumberAndAtInterrupt :
    (∃ (s : State) (t : Nat) (a : Nat), (s.tick.atArmed = some a) ∧ (a ≤ t % 2 ^ 64)) ∧
    (∃ (s : State) (t : Nat) (a : Nat), (s.tick.atArmed = some a) ∧ (t % 2 ^ 64 < a)) :=
  ⟨⟨({ State.reset with tick := { TickSt.reset with atArmed := some 5 } }), (5), (5), by decide⟩,
   ⟨({ State.reset with tick := { TickSt.reset with atArmed := some 5 } }), (4), (5), by decide⟩⟩

/-- States and operands that meet the hypotheses of every clause of WindowRunsTheCores. -/
theorem witness_WindowRunsTheCores :
    (∃ (s : State), (s.bit R.TICK_STATUS_RUNNING = true) ∧ (s.pair.recording = false) ∧ (s.tick.inWindow = false)) ∧
    (∃ (s : State), (s.bit R.TICK_STATUS_RUNNING = true) ∧ (s.pair.recording = true) ∧ (s.tick.inWindow = false)) ∧
    (∃ (s : State), (s.bit R.TICK_STATUS_RUNNING = false ∨ s.tick.inWindow = true)) ∧
    (∃ (s : State), (s.tick.inWindow = true) ∧ (s.tick.ended = false) ∧ (s.computes = true)) ∧
    (∃ (s : State), (s.tick.inWindow = true) ∧ (s.tick.ended = false) ∧ (s.computes = false)) ∧
    (∃ (s : State), (s.tick.inWindow = true) ∧ (s.tick.ended = false) ∧ (∀ n, n < 64 → s.coreBusy n = false ∧ ((s.core n).tend = true → (s.core n).done = true)) ∧ (s.marv.pos = none)) ∧
    (∃ (s : State), (s.tick.inWindow = false ∨ s.tick.ended = true)) ∧
    (∃ (s : State) (n : Nat), (n < 64) ∧ (s.hasProgram n = true) ∧ (s.coreBusy n = true) ∧ ((s.core n).tend = false)) :=
  ⟨⟨({ st [(R.TICK_STATUS_RUNNING, 1)] with pair := { PairSt.zero with recording := false }, tick := { TickSt.reset with inWindow := false } }), by decide⟩,
   ⟨({ st [(R.TICK_STATUS_RUNNING, 1)] with pair := { PairSt.zero with recording := true }, tick := { TickSt.reset with inWindow := false } }), by decide⟩,
   ⟨(st [(R.TICK_STATUS_RUNNING, 0)]), by decide⟩,
   ⟨({ st [(R.TICK_STATUS_RUNNING, 1)] with tick := { TickSt.reset with inWindow := true } }), by decide⟩,
   ⟨({ State.reset with tick := { TickSt.reset with inWindow := true, ended := false } }), by decide⟩,
   ⟨({ State.reset with tick := { TickSt.reset with inWindow := true } }), by decide⟩,
   ⟨({ State.reset with tick := { TickSt.reset with inWindow := false } }), by decide⟩,
   ⟨(running { img0 with coreMask := 8 } (st [(R.IATC_CORE_STAT_STATE 3, 2)])), (3), by decide⟩⟩

/-- States and operands that meet the hypotheses of every clause of ClaimWatchdogAndDigest. -/
theorem witness_ClaimWatchdogAndDigest :
    (∃ (s : State), (s.bit R.PAIR_STATUS_CLAIM_HELD = true)) ∧
    (∃ (s : State), (s.bit R.PAIR_STATUS_CLAIM_HELD = false)) ∧
    (∃ (s : State), (s.computes = true) ∧ (s.tick.closed = false) ∧ (s.bind.scatter.length ≤ s.bind.scatterAt)) ∧
    (∃ (s : State), (s.computes = false ∨ s.tick.closed = true ∨ s.bind.scatterAt < s.bind.scatter.length)) :=
  ⟨⟨(st [(R.PAIR_STATUS_CLAIM_HELD, 1)]), by decide⟩,
   ⟨(st [(R.PAIR_STATUS_CLAIM_HELD, 0)]), by decide⟩,
   ⟨(st [(R.TICK_STATUS_RUNNING, 1)]), by decide⟩,
   ⟨(State.reset), by decide⟩⟩

/-- States and operands that meet the hypotheses of every clause of BinderRunsItsLists. -/
theorem witness_BinderRunsItsLists :
    (∃ (s : State) (d : Desc), (s.computes = true) ∧ (s.bind.gather[s.bind.gatherAt]? = some d)) ∧
    (∃ (s : State), (s.computes = false ∨ s.bind.gather[s.bind.gatherAt]? = none)) ∧
    (∃ (s : State) (n : Nat), (s.fld (R.IATC_CORE_STAT_STATE n) = 3)) ∧
    (∃ (s : State) (n : Nat), (s.fld (R.IATC_CORE_STAT_STATE n) ≠ 3)) ∧
    (∃ (s : State) (d : Desc), (s.computes = true) ∧ (s.bind.scatter[s.bind.scatterAt]? = some d) ∧ (s.scatterLost d = false) ∧ (s.scatterReady d = true)) ∧
    (∃ (s : State) (d : Desc), (s.computes = true) ∧ (s.bind.scatter[s.bind.scatterAt]? = some d) ∧ (s.scatterLost d = true)) ∧
    (∃ (s : State) (d : Desc), (s.computes = true) ∧ (s.bind.scatter[s.bind.scatterAt]? = some d) ∧ (s.scatterLost d = false) ∧ (s.scatterReady d = false)) ∧
    (∃ (s : State), (s.computes = false ∨ s.bind.scatter[s.bind.scatterAt]? = none)) :=
  ⟨⟨({ st [(R.TICK_STATUS_RUNNING, 1)] with bind := { BindSt.reset with gather := [⟨1, 2, 3, 4⟩] } }), (⟨1, 2, 3, 4⟩), by decide⟩,
   ⟨(State.reset), by decide⟩,
   ⟨(st [((R.IATC_CORE_STAT_STATE 0), 3)]), (0), by decide⟩,
   ⟨(State.reset), (0), by decide⟩,
   ⟨({ st [(R.TICK_STATUS_RUNNING, 1)] with tick := { TickSt.reset with inWindow := true }, bind := { BindSt.reset with scatter := [⟨0, 0, 0, 0⟩] }, cores := [(0, { Core.zero with done := true })] }), (⟨0, 0, 0, 0⟩), by decide⟩,
   ⟨({ st [(R.TICK_STATUS_RUNNING, 1), (R.IATC_CORE_STAT_STATE 0, 4)] with bind := { BindSt.reset with scatter := [⟨0, 0, 0, 0⟩] } }), (⟨0, 0, 0, 0⟩), by decide⟩,
   ⟨({ st [(R.TICK_STATUS_RUNNING, 1)] with bind := { BindSt.reset with scatter := [⟨0, 0, 0, 0⟩] } }), (⟨0, 0, 0, 0⟩), by decide⟩,
   ⟨(State.reset), by decide⟩⟩

/-- States and operands that meet the hypotheses of every clause of RingFillRaisesTheWatermark. -/
theorem witness_RingFillRaisesTheWatermark :
    (∃ (s : State) (ddr : Bool) (n : Nat), ((s.ringNums.find? (fun n => (s.ring n).fill && decide ((s.ring n).inDdr = ddr))) = some n)) ∧
    (∃ (s : State) (ddr : Bool), ((s.ringNums.find? (fun n => (s.ring n).fill && decide ((s.ring n).inDdr = ddr))) = none)) ∧
    (∃ (s : State) (n : Nat) (p : Nat), ((s.ring n).fill = true) ∧ ((s.ring n).z ≤ p) ∧ (p + 1 < (s.ring n).len)) ∧
    (∃ (s : State) (n : Nat) (p : Nat), ((s.ring n).fill = true) ∧ ((s.ring n).z ≤ p) ∧ ((s.ring n).len ≤ p + 1)) ∧
    (∃ (s : State) (n : Nat) (p : Nat), ((s.ring n).fill = false ∨ p < (s.ring n).z)) :=
  ⟨⟨({ State.reset with bind := { BindSt.reset with rings := [(3, ⟨granBase, 16, 8, true, 0, 2, true, false, false, 0, none⟩)] } }), (false), (3), by decide⟩,
   ⟨(State.reset), (false), by decide⟩,
   ⟨({ State.reset with bind := { BindSt.reset with rings := [(3, ⟨granBase, 16, 8, true, 0, 2, true, false, false, 0, none⟩)] } }), (3), (6), by decide⟩,
   ⟨({ State.reset with bind := { BindSt.reset with rings := [(3, ⟨granBase, 16, 8, true, 0, 2, true, false, false, 0, none⟩)] } }), (3), (7), by decide⟩,
   ⟨(State.reset), (0), (0), by decide⟩⟩

/-- States and operands that meet the hypotheses of every clause of RoutesAndSilence. -/
theorem witness_RoutesAndSilence :
    (∃ (s : State) (t : Fin 4), (s.image.isSome = true) ∧ (s.rtBusy = false) ∧ (s.fld R.BIND_RT_INDEX < (s.shadowTable t.val).length)) ∧
    (∃ (s : State) (t : Fin 4), (s.image.isSome = true) ∧ (s.rtBusy = false) ∧ ((s.shadowTable t.val).length ≤ s.fld R.BIND_RT_INDEX)) ∧
    (∃ (s : State) (t : Fin 4), (s.image.isSome = true) ∧ (s.rtBusy = false) ∧ (s.fld R.BIND_RT_INDEX ≤ tableLimit t.val)) ∧
    (∃ (s : State), (s.image.isSome = true) ∧ (s.rtBusy = false)) ∧
    (∃ (s : State), (s.image.isSome = true) ∧ (s.rtBusy = true)) ∧
    (∃ (s : State) (n : Nat), (s.bind.rtAt = some n) ∧ (s.tick.num + 1 < n)) ∧
    (∃ (s : State) (hi : Word), (s.image.isSome = true) ∧ (s.rtBusy = false) ∧ (s.tick.num + 2 ≤ s.fld R.BIND_RT_AT_LO + hi.toNat * 0x100000000)) ∧
    (∃ (s : State) (hi : Word), (s.image.isSome = true) ∧ (s.rtBusy = false) ∧ (s.fld R.BIND_RT_AT_LO + hi.toNat * 0x100000000 < s.tick.num + 2)) ∧
    (∃ (s : State) (n : Nat) (i : Image), (s.bind.rtAt = some n) ∧ (s.image = some i) ∧ (s.bind.rtOk = false) ∧ (routeCheck i s.bind.shGather s.bind.shScatter s.bind.shRings = none)) ∧
    (∃ (s : State) (n : Nat) (i : Image) (code : _) (t : _) (e : _), (s.bind.rtAt = some n) ∧ (s.image = some i) ∧ (s.bind.rtOk = false) ∧ (routeCheck i s.bind.shGather s.bind.shScatter s.bind.shRings = some (code, t, e))) ∧
    (∃ (s : State), (s.bit R.BIND_RT_STATUS_SYNCING = true)) ∧
    (∃ (s : State), (s.bit R.BIND_RT_STATUS_SYNCING = false)) ∧
    (∃ (s : State), (s.part = .ai)) ∧
    (∃ (s : State), (s.part ≠ .ai)) ∧
    (∃ (s : State) (n : Fin 32), (s.part = .ai) ∧ (s.bit (R.BIND_SIL_CTRL_EN n.val) = true) ∧ (s.silState n.val = 1) ∧ (s.fld (R.BIND_SIL_TIME_HOLD n.val) ≤ (s.silOf n.val).silent) ∧ (s.ampState n.val ≠ 2)) ∧
    (∃ (s : State) (n : Fin 32), (s.part = .ai) ∧ (s.silState n.val = 2) ∧ ((s.silOf n.val).pend = 0) ∧ (s.fld (R.BIND_SIL_TIME_HALF_TICKS n.val) ≤ (s.silOf n.val).half) ∧ (s.ampState n.val ≠ 3)) ∧
    (∃ (s : State) (n : Fin 32), (s.part = .ai) ∧ (s.silState n.val = 2) ∧ ((s.silOf n.val).pend = 0) ∧ (s.fld (R.BIND_SIL_TIME_HALF_TICKS n.val) ≤ (s.silOf n.val).half) ∧ (s.ampState n.val = 3)) ∧
    (∃ (s : State) (n : Fin 32), (s.part = .ai) ∧ (s.silState n.val = 4) ∧ (12 ≤ (s.silOf n.val).waking) ∧ (s.ampState n.val = 2)) ∧
    (∃ (s : State) (n : Fin 32), (s.part = .ai) ∧ (s.silState n.val = 1) ∧ (s.ampState n.val = 2) ∧ (s.bit (R.BIND_SIL_CTRL_EN n.val) = true) ∧ (s.fld (R.BIND_SIL_TIME_HOLD n.val) ≤ (s.silOf n.val).silent)) :=
  ⟨⟨({ running img0 State.reset with bind := { BindSt.reset with shGather := [⟨0, 0, 0, 0⟩] } }), (0), by decide⟩,
   ⟨(running img0 State.reset), (0), by decide⟩,
   ⟨(running img0 (st [(R.BIND_RT_INDEX, 8192)])), (0), by decide⟩,
   ⟨(running img0 State.reset), by decide⟩,
   ⟨(running img0 (st [(R.BIND_RT_STATUS_SYNCING, 1)])), by decide⟩,
   ⟨({ State.reset with bind := { BindSt.reset with rtAt := some 2 } }), (2), by decide⟩,
   ⟨(running img0 (st [(R.BIND_RT_AT_LO, 2)])), (0), by decide⟩,
   ⟨(running img0 (st [(R.BIND_RT_AT_LO, 1)])), (0), by decide⟩,
   ⟨({ running img0 State.reset with bind := { BindSt.reset with rtAt := some 5 } }), (5), (img0), by decide⟩,
   ⟨({ running img0 State.reset with bind := { BindSt.reset with rtAt := some 5, shRings := [⟨9, 0, 0, 0⟩] } }), (5), (img0), (0x40), (3), (0), by decide⟩,
   ⟨(st [(R.BIND_RT_STATUS_SYNCING, 1)]), by decide⟩,
   ⟨(st [(R.BIND_RT_STATUS_SYNCING, 0)]), by decide⟩,
   ⟨(State.reset), by decide⟩,
   ⟨({ State.reset with part := .ni }), by decide⟩,
   ⟨({ st [(R.BIND_SIL_CTRL_EN 0, 1), (R.BIND_SIL_STATE 0, 1), (R.BIND_SIL_TIME_HOLD 0, 2)] with sil := [(0, { Sil.zero with silent := 2 })] }), (0), by decide⟩,
   ⟨({ st [(R.BIND_SIL_STATE 0, 2), (R.BIND_SIL_TIME_HALF_TICKS 0, 2)] with sil := [(0, { Sil.zero with half := 2 })] }), (0), by decide⟩,
   ⟨({ st [(R.BIND_SIL_STATE 0, 2), (R.BIND_SIL_TIME_HALF_TICKS 0, 2), (R.AMP_CH_STATE_STATE 0, 3)] with sil := [(0, { Sil.zero with half := 2 })] }), (0), by decide⟩,
   ⟨({ st [(R.BIND_SIL_STATE 0, 4), (R.AMP_CH_STATE_STATE 0, 2)] with sil := [(0, { Sil.zero with waking := 12 })] }), (0), by decide⟩,
   ⟨({ st [(R.BIND_SIL_CTRL_EN 0, 1), (R.BIND_SIL_STATE 0, 1), (R.AMP_CH_STATE_STATE 0, 2), (R.BIND_SIL_TIME_HOLD 0, 2)] with sil := [(0, { Sil.zero with silent := 2 })] }), (0), by decide⟩⟩

/-- States and operands that meet the hypotheses of every clause of SiloRecords. -/
theorem witness_SiloRecords :
    (∃ (s : State), (s.bit R.SILO_CTRL_REC = false)) ∧
    (∃ (s : State), (s.bit R.SILO_CTRL_REC = true)) ∧
    (∃ (s : State), (s.siloOn = true) ∧ (s.siloNs ≠ 0) ∧ (s.silo.wrote = false)) ∧
    (∃ (s : State), (s.siloOn = false ∨ s.siloNs = 0 ∨ s.silo.wrote = true)) ∧
    (∃ (s : State), (s.silo.late ≠ [])) ∧
    (∃ (s : State), (s.silo.late = [])) :=
  ⟨⟨(st [(R.SILO_CTRL_REC, 0)]), by decide⟩,
   ⟨(st [(R.SILO_CTRL_REC, 1)]), by decide⟩,
   ⟨(st [(R.SILO_CTRL_REC, 1), (R.SILO_FORMAT_NS, 4)]), by decide⟩,
   ⟨(State.reset), by decide⟩,
   ⟨({ State.reset with silo := { SiloSt.reset with late := [(0, [1])] } }), by decide⟩,
   ⟨({ State.reset with silo := { SiloSt.reset with late := [] } }), by decide⟩⟩

/-- States and operands that meet the hypotheses of every clause of SiloCommands. -/
theorem witness_SiloCommands :
    (∃ (s : State) (i : Nat), (s.rpLive = false) ∧ (s.siloOldest ≤ i) ∧ (i < s.siloWidx) ∧ (i < 2 ^ 64)) ∧
    (∃ (s : State), (s.rpLive = true)) ∧
    (∃ (s : State) (i : Nat), (s.rpLive = false) ∧ (i < s.siloOldest ∨ s.siloWidx ≤ i)) ∧
    (∃ (s : State), (s.rpState = 1)) ∧
    (∃ (s : State), (s.rpState ≠ 1)) ∧
    (∃ (s : State), (s.rpState = 2)) ∧
    (∃ (s : State), (s.rpState ≠ 2)) ∧
    (∃ (s : State), (s.rpLive = true)) ∧
    (∃ (s : State), (s.rpLive = false)) ∧
    (∃ (s : State), (s.rpState = 1) ∧ (s.silo.read = false) ∧ (s.siloWidx ≤ s.rpIdx)) ∧
    (∃ (s : State), (s.rpState = 1) ∧ (s.silo.read = false) ∧ (s.rpIdx < s.siloWidx)) ∧
    (∃ (s : State), (s.rpState ≠ 1 ∨ s.silo.read = true)) ∧
    (∃ (s : State) (w : Option Nat), (w = if s.bit R.SILO_CTRL_TIMED then some (s.reg64 R.SILO_CMD_AT_LO R.SILO_CMD_AT_HI) else none)) ∧
    (∃ (s : State) (w : Option Nat), (w = if s.bit R.SILO_CTRL_TIMED then some (s.reg64 R.SILO_CMD_AT_LO R.SILO_CMD_AT_HI) else none)) :=
  ⟨⟨({ st [(R.SILO_WIDX_LO, 5), (R.SILO_SIZE, 1), (R.SILO_FORMAT_REC_BYTES, 80)] with silo := { SiloSt.reset with first := 4 } }), (4), by decide⟩,
   ⟨(st [(R.SILO_RP_STATUS_STATE, 1)]), by decide⟩,
   ⟨({ st [(R.SILO_WIDX_LO, 5), (R.SILO_SIZE, 1), (R.SILO_FORMAT_NS, 4)] with silo := { SiloSt.reset with first := 4 } }), (5), by decide⟩,
   ⟨(st [(R.SILO_RP_STATUS_STATE, 1)]), by decide⟩,
   ⟨(State.reset), by decide⟩,
   ⟨(st [(R.SILO_RP_STATUS_STATE, 2)]), by decide⟩,
   ⟨(State.reset), by decide⟩,
   ⟨(st [(R.SILO_RP_STATUS_STATE, 2)]), by decide⟩,
   ⟨(State.reset), by decide⟩,
   ⟨(st [(R.SILO_RP_STATUS_STATE, 1)]), by decide⟩,
   ⟨(st [(R.SILO_RP_STATUS_STATE, 1), (R.SILO_WIDX_LO, 1)]), by decide⟩,
   ⟨(State.reset), by decide⟩,
   ⟨(st [(R.SILO_CTRL_TIMED, 1), (R.SILO_CMD_AT_LO, 9)]), (some 9), by decide⟩,
   ⟨(State.reset), (none), by decide⟩⟩

/-- States and operands that meet the hypotheses of every clause of ImageLoads. -/
theorem witness_ImageLoads :
    (∃ (s : State) (n : Fin 2), (s.img.loading = none) ∧ (s.slotBusy n.val = false)) ∧
    (∃ (s : State) (n : Fin 2), (s.img.loading.isSome = true ∨ s.slotBusy n.val = true)) ∧
    (∃ (s : State) (s1 : State) (slot : Nat) (a : Nat) (len : Nat) (l : List Byte) (b : _), (s.img.loading = some (slot, a, len)) ∧ (len ≠ 0) ∧ (({ s with img := { s.img with loading := none } }.showImgBusy).readShared 2 a len 0 = (some l, s1)) ∧ (formatBad l len (s1.bit R.PAIR_CTRL_EN) = some b ∨ (formatBad l len (s1.bit R.PAIR_CTRL_EN) = none ∧ ((s1.imgSigned l (imgSects l)).1 = some b ∨ ((s1.imgSigned l (imgSects l)).1 = none ∧ (s1.imgSigned l (imgSects l)).2.loadBad l (imgSects l) (parseImage l) slot = some b))))) ∧
    (∃ (s : State) (s1 : State) (slot : Nat) (a : Nat) (len : Nat) (l : List Byte), (s.img.loading = some (slot, a, len)) ∧ (len ≠ 0) ∧ (({ s with img := { s.img with loading := none } }.showImgBusy).readShared 2 a len 0 = (some l, s1)) ∧ (formatBad l len (s1.bit R.PAIR_CTRL_EN) = none) ∧ ((s1.imgSigned l (imgSects l)).1 = none) ∧ ((s1.imgSigned l (imgSects l)).2.loadBad l (imgSects l) (parseImage l) slot = none)) ∧
    (∃ (s : State) (s1 : State) (slot : Nat) (a : Nat) (len : Nat), (s.img.loading = some (slot, a, len)) ∧ (len ≠ 0) ∧ (({ s with img := { s.img with loading := none } }.showImgBusy).readShared 2 a len 0 = (none, s1))) ∧
    (∃ (s : State) (slot : Nat) (a : Nat), (s.img.loading = some (slot, a, 0))) ∧
    (∃ (s : State), (s.img.loading = none)) ∧
    (∃ (s : State), (s.readySlot = none)) ∧
    (∃ (s : State) (n : Nat), (n < 2) ∧ (s.readySlot = some n) ∧ (s.armedTo n = false) ∧ (s.slotsHeld n = [n])) ∧
    (∃ (s : State) (n : Nat), (s.readySlot = some n) ∧ (s.armedTo n = true) ∧ (s.img.stage = 0)) ∧
    (∃ (s : State) (n : Nat), (s.readySlot = some n) ∧ (s.armedTo n = true) ∧ (s.img.stage ≠ 0)) :=
  ⟨⟨({ State.reset with img := { ImgSt.reset with loading := none } }), (0), by decide⟩,
   ⟨(st [(R.IMG_STATUS_A_STATE, 3)]), (0), by decide⟩,
   ⟨({ State.reset with img := { ImgSt.reset with loading := some (0, granBase, 148) } }), ((State.reset.showImgBusy)), (0), (granBase), (148), (List.replicate 148 0), (⟨16, 4095, 0⟩), ⟨rfl, by decide, by decide +kernel, .inl (by decide +kernel)⟩⟩,
   ⟨(loadSt 0 []), (loadSt1 0 []), (0), (granBase), (148), (imgBytes), ⟨rfl, by decide, by decide +kernel, by decide +kernel, by decide +kernel, by decide +kernel⟩⟩,
   ⟨({ State.reset with img := { ImgSt.reset with loading := some (0, 0xF0000000, 1) } }), (((State.reset.showImgBusy).readShared 2 0xF0000000 1 0).2), (0), (0xF0000000), (1), ⟨rfl, by decide, by decide +kernel⟩⟩,
   ⟨({ State.reset with img := { ImgSt.reset with loading := some (1, granBase, 0) } }), (1), (granBase), by decide⟩,
   ⟨({ State.reset with img := { ImgSt.reset with loading := none } }), by decide⟩,
   ⟨(State.reset), by decide⟩,
   ⟨({ st [(R.IMG_STATUS_A_STATE, 2)] with img := { ImgSt.reset with slotA := some img0 } }), (0), by decide⟩,
   ⟨({ st [(R.IMG_STATUS_A_STATE, 2)] with img := { ImgSt.reset with slotA := some img0, armed := some (0, 30) } }), (0), by decide⟩,
   ⟨({ st [(R.IMG_STATUS_A_STATE, 2)] with img := { ImgSt.reset with slotA := some img0, armed := some (0, 30), stage := 1 } }), (0), by decide⟩⟩

/-- States and operands that meet the hypotheses of every clause of ImageSwitchArms. -/
theorem witness_ImageSwitchArms :
    (∃ (s : State) (hi : Word) (n : Nat), (s.readySlot = some n) ∧ (s.tick.num + 2 ≤ s.fld R.IMG_SWITCH_AT_LO + hi.toNat * 0x100000000) ∧ (s.fld R.IMG_OP_NEXT ≤ s.fld R.IMG_OP_CUR ∨ s.tick.num + 24 ≤ s.fld R.IMG_SWITCH_AT_LO + hi.toNat * 0x100000000)) ∧
    (∃ (s : State) (hi : Word) (n : Nat), (s.readySlot = some n) ∧ (s.fld R.IMG_OP_CUR < s.fld R.IMG_OP_NEXT) ∧ (s.tick.num + 2 ≤ s.fld R.IMG_SWITCH_AT_LO + hi.toNat * 0x100000000) ∧ (s.fld R.IMG_SWITCH_AT_LO + hi.toNat * 0x100000000 < s.tick.num + 24)) ∧
    (∃ (s : State) (hi : Word), (s.fld R.IMG_SWITCH_AT_LO + hi.toNat * 0x100000000 < s.tick.num + 2)) ∧
    (∃ (s : State) (hi : Word), (s.readySlot = none) ∧ (s.tick.num + 2 ≤ s.fld R.IMG_SWITCH_AT_LO + hi.toNat * 0x100000000)) ∧
    (∃ (s : State), (s.img.armed.isSome = true) ∧ (s.img.stage = 0)) ∧
    (∃ (s : State), (s.img.armed = none ∨ s.img.stage ≠ 0)) :=
  ⟨⟨({ st [(R.IMG_STATUS_A_STATE, 2), (R.IMG_SWITCH_AT_LO, 24)] with img := { ImgSt.reset with slotA := some img0 } }), (0), (0), by decide⟩,
   ⟨({ st [(R.IMG_STATUS_A_STATE, 2), (R.IMG_SWITCH_AT_LO, 23), (R.IMG_OP_CUR, 0), (R.IMG_OP_NEXT, 1)] with img := { ImgSt.reset with slotA := some img0 } }), (0), (0), by decide⟩,
   ⟨(State.reset), (0), by decide⟩,
   ⟨(st [(R.IMG_SWITCH_AT_LO, 2)]), (0), by decide⟩,
   ⟨({ State.reset with img := { ImgSt.reset with armed := some (0, 30) } }), by decide⟩,
   ⟨({ State.reset with img := { ImgSt.reset with armed := none } }), by decide⟩⟩

/-- States and operands that meet the hypotheses of every clause of PatchesArm. -/
theorem witness_PatchesArm :
    (∃ (s : State), (s.img.patch = none)) ∧
    (∃ (s : State), (s.img.patch.isSome = true)) ∧
    (∃ (s : State), (s.img.patch.isSome = true)) ∧
    (∃ (s : State), (s.img.patch = none)) ∧
    (∃ (s : State), (s.img.patch.isSome = true) ∧ (s.img.checked = false) ∧ (∀ i, s.image = some i → i.patchSize = 0)) ∧
    (∃ (s : State), (s.img.patch = none ∨ s.img.checked = true)) ∧
    (∃ (s : State) (s1 : State) (n : Nat) (i : Image), (s.img.patch = some n) ∧ (s.img.checked = false) ∧ (s.image = some i) ∧ (i.patchSize ≠ 0) ∧ (s.readShared 2 (granBase + i.patchBase) i.patchSize 0 = (none, s1))) ∧
    (∃ (s : State) (s1 : State) (n : Nat) (i : Image) (l : List Byte), (s.img.patch = some n) ∧ (s.img.checked = false) ∧ (s.image = some i) ∧ (i.patchSize ≠ 0) ∧ (s.readShared 2 (granBase + i.patchBase) i.patchSize 0 = (some l, s1)) ∧ (patchScan l (l.length / 4 + 1) 0 = none)) ∧
    (∃ (s : State) (s1 : State) (n : Nat) (i : Image) (l : List Byte) (rs : List PatchRec), (s.img.patch = some n) ∧ (s.img.checked = false) ∧ (s.image = some i) ∧ (i.patchSize ≠ 0) ∧ (s.readShared 2 (granBase + i.patchBase) i.patchSize 0 = (some l, s1)) ∧ (patchScan l (l.length / 4 + 1) 0 = some rs) ∧ (rs.all s1.patchInHalf = false)) ∧
    (∃ (s : State) (s1 : State) (n : Nat) (i : Image) (l : List Byte) (rs : List PatchRec), (s.img.patch = some n) ∧ (s.img.checked = false) ∧ (s.image = some i) ∧ (i.patchSize ≠ 0) ∧ (s.readShared 2 (granBase + i.patchBase) i.patchSize 0 = (some l, s1)) ∧ (patchScan l (l.length / 4 + 1) 0 = some rs) ∧ (rs.all s1.patchInHalf = true) ∧ (rs.all (fun r => decide (patchWords rs (fun q => q.core == r.core && q.sheaf == r.sheaf) ≤ 4096)) = false)) ∧
    (∃ (s : State) (s1 : State) (n : Nat) (i : Image) (l : List Byte) (rs : List PatchRec), (s.img.patch = some n) ∧ (s.img.checked = false) ∧ (s.image = some i) ∧ (i.patchSize ≠ 0) ∧ (s.readShared 2 (granBase + i.patchBase) i.patchSize 0 = (some l, s1)) ∧ (patchScan l (l.length / 4 + 1) 0 = some rs) ∧ (rs.all s1.patchInHalf = true) ∧ (rs.all (fun r => decide (patchWords rs (fun q => q.core == r.core && q.sheaf == r.sheaf) ≤ 4096)) = true) ∧ (n ≤ s1.tick.num + 1)) ∧
    (∃ (s : State) (s1 : State) (n : Nat) (i : Image) (l : List Byte) (rs : List PatchRec), (s.img.patch = some n) ∧ (s.img.checked = false) ∧ (s.image = some i) ∧ (i.patchSize ≠ 0) ∧ (s.readShared 2 (granBase + i.patchBase) i.patchSize 0 = (some l, s1)) ∧ (patchScan l (l.length / 4 + 1) 0 = some rs) ∧ (rs.all s1.patchInHalf = true) ∧ (rs.all (fun r => decide (patchWords rs (fun q => q.core == r.core && q.sheaf == r.sheaf) ≤ 4096)) = true) ∧ (s1.tick.num + 1 < n)) :=
  ⟨⟨({ State.reset with img := { ImgSt.reset with patch := none } }), by decide⟩,
   ⟨({ State.reset with img := { ImgSt.reset with patch := some 9 } }), by decide⟩,
   ⟨({ State.reset with img := { ImgSt.reset with patch := some 9 } }), by decide⟩,
   ⟨({ State.reset with img := { ImgSt.reset with patch := none } }), by decide⟩,
   ⟨(running img0 { State.reset with img := { ImgSt.reset with patch := some 9 } }), ⟨by decide, by decide, fun i h => by cases h; rfl⟩⟩,
   ⟨({ State.reset with img := { ImgSt.reset with patch := none } }), by decide⟩,
   ⟨(running { img0 with patchSize := 4, patchBase := 0x2000000 } ({ State.reset with img := { ImgSt.reset with patch := some 9 } }.setBytes granBase [])), (((running { img0 with patchSize := 4, patchBase := 0x2000000 } ({ State.reset with img := { ImgSt.reset with patch := some 9 } }.setBytes granBase [])).readShared 2 (granBase + 0x2000000) 4 0).2), (9), ({ img0 with patchSize := 4, patchBase := 0x2000000 }), ⟨rfl, rfl, rfl, by decide, by decide +kernel⟩⟩,
   ⟨(running { img0 with patchSize := 4 } ({ State.reset with img := { ImgSt.reset with patch := some 9 } }.setBytes granBase [])), (running { img0 with patchSize := 4 } ({ State.reset with img := { ImgSt.reset with patch := some 9 } }.setBytes granBase [])), (9), ({ img0 with patchSize := 4 }), ([0, 0, 0, 0]), ⟨rfl, rfl, rfl, by decide, by decide +kernel, by decide⟩⟩,
   ⟨(running { img0 with patchSize := 16 } ({ State.reset with img := { ImgSt.reset with patch := some 9 } }.setBytes granBase [0, 0, 0, 0, 1, 0, 0, 0, 0, 0, 0, 0, 0, 0, 0, 0xC0])), (running { img0 with patchSize := 16 } ({ State.reset with img := { ImgSt.reset with patch := some 9 } }.setBytes granBase [0, 0, 0, 0, 1, 0, 0, 0, 0, 0, 0, 0, 0, 0, 0, 0xC0])), (9), ({ img0 with patchSize := 16 }), ([0, 0, 0, 0, 1, 0, 0, 0, 0, 0, 0, 0, 0, 0, 0, 0xC0]), ([⟨0, 0, 0, 0, 1, 8⟩]), ⟨rfl, rfl, rfl, by decide, by decide +kernel, by decide, by decide⟩⟩,
   ⟨(bigPatchSt), (bigPatchSt), (9), ({ img0 with patchSize := 16408, coreMask := 1 }), (bigPatch), ([⟨0, 0, 0, 0, 4096, 8⟩, ⟨0, 0, 0, 0, 1, 16400⟩]), ⟨rfl, rfl, rfl, by decide, bigPatchSt_read, bigPatch_scan, by decide, by decide⟩⟩,
   ⟨(running { img0 with patchSize := 4 } ({ State.reset with img := { ImgSt.reset with patch := some 1 } }.setBytes granBase [0, 0, 0, 0xC0])), (running { img0 with patchSize := 4 } ({ State.reset with img := { ImgSt.reset with patch := some 1 } }.setBytes granBase [0, 0, 0, 0xC0])), (1), ({ img0 with patchSize := 4 }), ([0, 0, 0, 0xC0]), ([]), ⟨rfl, rfl, rfl, by decide, by decide +kernel, rfl, rfl, rfl, by decide⟩⟩,
   ⟨(running { img0 with patchSize := 4 } ({ State.reset with img := { ImgSt.reset with patch := some 9 } }.setBytes granBase [0, 0, 0, 0xC0])), (running { img0 with patchSize := 4 } ({ State.reset with img := { ImgSt.reset with patch := some 9 } }.setBytes granBase [0, 0, 0, 0xC0])), (9), ({ img0 with patchSize := 4 }), ([0, 0, 0, 0xC0]), ([]), ⟨rfl, rfl, rfl, by decide, by decide +kernel, rfl, rfl, rfl, by decide⟩⟩⟩

/-- States and operands that meet the hypotheses of every clause of MarverListCommands. -/
theorem witness_MarverListCommands :
    (∃ (s : State) (c : MCmd), (s.marvNext 1 = some c)) ∧
    (∃ (s : State) (c : MCmd), (s.marvNext 2 = some c)) ∧
    (∃ (s : State) (c : MCmd), (s.marvNext 4 = some c)) ∧
    (∃ (s : State) (c : MCmd), (s.marvNext 5 = some c)) ∧
    (∃ (s : State), (s.marvNext 1 = none)) ∧
    (∃ (s : State), (s.marvNext 2 = none)) ∧
    (∃ (s : State), (s.marvNext 4 = none)) ∧
    (∃ (s : State), (s.marvNext 5 = none)) ∧
    (∃ (s : State), (s.marvNext 0 = none)) ∧
    (∃ (s : State), (s.marvNext 3 = none)) :=
  ⟨⟨({ State.reset with marv := { MarvSt.reset with cmds := [⟨268435456, 0⟩], pos := some 0 } }), (⟨268435456, 0⟩), by decide⟩,
   ⟨({ State.reset with marv := { MarvSt.reset with cmds := [⟨536870912, 0⟩], pos := some 0 } }), (⟨536870912, 0⟩), by decide⟩,
   ⟨({ State.reset with marv := { MarvSt.reset with cmds := [⟨1073741824, 0⟩], pos := some 0 } }), (⟨1073741824, 0⟩), by decide⟩,
   ⟨({ State.reset with marv := { MarvSt.reset with cmds := [⟨1342177280, 0⟩], pos := some 0 } }), (⟨1342177280, 0⟩), by decide⟩,
   ⟨(State.reset), by decide⟩,
   ⟨(State.reset), by decide⟩,
   ⟨(State.reset), by decide⟩,
   ⟨(State.reset), by decide⟩,
   ⟨(State.reset), by decide⟩,
   ⟨(State.reset), by decide⟩⟩

/-- States and operands that meet the hypotheses of every clause of MarverSweepsAndEnds. -/
theorem witness_MarverSweepsAndEnds :
    (∃ (s : State) (c : MCmd), (s.marvNext 0 = some c)) ∧
    (∃ (s : State) (c : MCmd), (s.marvNext 3 = some c) ∧ (s.injArmed 2 = false) ∧ (s.injArmed 3 = false) ∧ (s.mem14.bad = [])) ∧
    (∃ (s : State) (c : MCmd), (s.marvNext 3 = some c) ∧ (s.injArmed 2 = false) ∧ (s.injArmed 3 = false) ∧ (s.mem14.bad = [])) ∧
    (∃ (s : State) (c : MCmd) (cy : _), (s.marvNext 3 = some c) ∧ (s.injArmed 2 = false) ∧ (s.injArmed 3 = false) ∧ (s.mem14.bad = []) ∧ (cy < s.cmdCost c)) ∧
    (∃ (s : State) (c : MCmd) (t : _) (cy : _), (s.marvNext 3 = some c) ∧ (s.injArmed 2 = false) ∧ (s.injArmed 3 = false) ∧ (s.mem14.bad = []) ∧ (t ∈ s.tilesOf c.tiles) ∧ (cy < s.cmdCost c)) :=
  ⟨⟨({ State.reset with marv := { MarvSt.reset with cmds := [⟨0, 0⟩], pos := some 0 } }), (⟨0, 0⟩), by decide⟩,
   ⟨({ State.reset with marv := { MarvSt.reset with cmds := [⟨805306368, 0⟩], pos := some 0 } }), (⟨805306368, 0⟩), by decide⟩,
   ⟨({ State.reset with marv := { MarvSt.reset with cmds := [⟨805306368, 0⟩], pos := some 0 } }), (⟨805306368, 0⟩), by decide⟩,
   ⟨({ State.reset with marv := { MarvSt.reset with cmds := [⟨805306368, 0⟩], pos := some 0 } }), (⟨805306368, 0⟩), (0), by decide⟩,
   ⟨({ State.reset with marv := { MarvSt.reset with cmds := [⟨822083583, 0⟩], pos := some 0 } }), (⟨822083583, 0⟩), (0), (0), by decide⟩⟩

/-- States and operands that meet the hypotheses of every clause of MarverSwitchesAndUpdates. -/
theorem witness_MarverSwitchesAndUpdates :
    (∃ (s : State) (hi : Word), (s.domOn 6 = true) ∧ (s.marv.gsw = none) ∧ (s.marv.upd = none) ∧ (s.bit R.MARV_STATUS_SYNCING = false) ∧ (s.tick.num + 2 ≤ s.fld R.MARV_GSW_AT_LO + hi.toNat * 0x100000000)) ∧
    (∃ (s : State), (s.domOn 6 = true) ∧ (s.marv.gsw.isSome = true ∨ s.marv.upd.isSome = true ∨ s.bit R.MARV_STATUS_SYNCING = true)) ∧
    (∃ (s : State) (hi : Word), (s.domOn 6 = true) ∧ (s.marv.gsw = none) ∧ (s.marv.upd = none) ∧ (s.bit R.MARV_STATUS_SYNCING = false) ∧ (s.fld R.MARV_GSW_AT_LO + hi.toNat * 0x100000000 < s.tick.num + 2)) ∧
    (∃ (s : State), (s.bit R.MARV_STATUS_SYNCING = false)) ∧
    (∃ (s : State), (s.bit R.MARV_STATUS_SYNCING = true)) ∧
    (∃ (s : State) (g : Nat) (a : _), (a < bankAddr g s.marv.slot (1 - s.actBank g) ∨ bankAddr g s.marv.slot (1 - s.actBank g) + 0x5800 ≤ a)) ∧
    (∃ (s : State), (s.domOn 6 = true) ∧ (s.marv.upd.isSome = true ∨ s.bit R.MARV_STATUS_SYNCING = true)) ∧
    (∃ (s : State), (s.domOn 6 = true) ∧ (s.marv.upd = none) ∧ (s.bit R.MARV_STATUS_SYNCING = false) ∧ (s.img.running = none)) ∧
    (∃ (s : State) (s1 : State) (l : List Byte) (os : List Nat), (s.domOn 6 = true) ∧ (s.marv.upd = none) ∧ (s.bit R.MARV_STATUS_SYNCING = false) ∧ (s.img.running.isSome = true) ∧ (s.readShared 7 (s.reg64 R.MARV_UPD_SRC_LO R.MARV_UPD_SRC_HI) (s.fld R.MARV_UPD_LEN) 0 = (some l, s1)) ∧ (updScan l (s.fld R.MARV_UPD_LEN / 4 + 1) 0 = some os) ∧ (s.marv.gsw = none)) ∧
    (∃ (s : State) (s1 : State), (s.domOn 6 = true) ∧ (s.marv.upd = none) ∧ (s.bit R.MARV_STATUS_SYNCING = false) ∧ (s.img.running.isSome = true) ∧ (s.readShared 7 (s.reg64 R.MARV_UPD_SRC_LO R.MARV_UPD_SRC_HI) (s.fld R.MARV_UPD_LEN) 0 = (none, s1) ∨ ∃ l, s.readShared 7 (s.reg64 R.MARV_UPD_SRC_LO R.MARV_UPD_SRC_HI) (s.fld R.MARV_UPD_LEN) 0 = (some l, s1) ∧ updScan l (s.fld R.MARV_UPD_LEN / 4 + 1) 0 = none)) ∧
    (∃ (s : State), (s.marv.upd.isSome = true)) ∧
    (∃ (s : State), (s.marv.upd = none)) ∧
    (∃ (s : State), (s.domOn 6 = true) ∧ (s.marv.upd.isSome = true)) ∧
    (∃ (s : State), (s.domOn 6 = true) ∧ (s.marv.upd = none)) :=
  ⟨⟨(st [(R.PWR_DOM_STATUS_ON, 4095), (R.MARV_GSW_AT_LO, 2)]), (0), by decide⟩,
   ⟨(st [(R.PWR_DOM_STATUS_ON, 4095), (R.MARV_STATUS_SYNCING, 1)]), by decide⟩,
   ⟨({ st [(R.PWR_DOM_STATUS_ON, 4095), (R.MARV_STATUS_SYNCING, 0)] with marv := { MarvSt.reset with gsw := none, upd := none } }), (0), by decide⟩,
   ⟨(st [(R.MARV_STATUS_SYNCING, 0)]), by decide⟩,
   ⟨(st [(R.MARV_STATUS_SYNCING, 1)]), by decide⟩,
   ⟨(State.reset), (15), (0), by decide⟩,
   ⟨(st [(R.PWR_DOM_STATUS_ON, 4095), (R.MARV_STATUS_SYNCING, 1)]), by decide⟩,
   ⟨({ st [(R.PWR_DOM_STATUS_ON, 4095), (R.MARV_STATUS_SYNCING, 0)] with marv := { MarvSt.reset with upd := none }, img := { ImgSt.reset with running := none } }), by decide⟩,
   ⟨(running img0 ((st [(R.PWR_DOM_STATUS_ON, 4095), (R.MARV_UPD_SRC_LO, granBase), (R.MARV_UPD_LEN, 8)]).setLe granBase 4 0xF0000000)), (running img0 ((st [(R.PWR_DOM_STATUS_ON, 4095), (R.MARV_UPD_SRC_LO, granBase), (R.MARV_UPD_LEN, 8)]).setLe granBase 4 0xF0000000)), ([0, 0, 0, 0xF0, 0, 0, 0, 0]), ([]), ⟨by decide, rfl, by decide, rfl, by decide +kernel, by decide +kernel, rfl⟩⟩,
   ⟨((running img0 (st [(R.PWR_DOM_STATUS_ON, 4095), (R.MARV_UPD_SRC_LO, 0xF0000000), (R.MARV_UPD_LEN, 8)]))), (((running img0 (st [(R.PWR_DOM_STATUS_ON, 4095), (R.MARV_UPD_SRC_LO, 0xF0000000), (R.MARV_UPD_LEN, 8)])).readShared 7 0xF0000000 8 0).2), ⟨by decide, rfl, by decide, rfl, .inl (by decide +kernel)⟩⟩,
   ⟨({ State.reset with marv := { MarvSt.reset with upd := some (0, 0, 0) } }), by decide⟩,
   ⟨({ State.reset with marv := { MarvSt.reset with upd := none } }), by decide⟩,
   ⟨({ st [(R.PWR_DOM_STATUS_ON, 4095)] with marv := { MarvSt.reset with upd := some (0, 0, 0) } }), by decide⟩,
   ⟨({ st [(R.PWR_DOM_STATUS_ON, 4095)] with marv := { MarvSt.reset with upd := none } }), by decide⟩⟩

/-- States and operands that meet the hypotheses of every clause of PortsArmAndStop. -/
theorem witness_PortsArmAndStop :
    (∃ (s : State) (n : Fin 16), (s.domOn 10 = true) ∧ (s.sapState n.val = 0 ∨ s.sapState n.val = 3) ∧ (s.sapArmCheck n.val = 0)) ∧
    (∃ (s : State) (n : Fin 16), (s.domOn 10 = true) ∧ (s.sapState n.val = 0 ∨ s.sapState n.val = 3) ∧ (s.sapArmCheck n.val ≠ 0)) ∧
    (∃ (s : State) (n : Fin 16), (s.domOn 10 = true) ∧ (s.sapState n.val = 1 ∨ s.sapState n.val = 2)) ∧
    (∃ (s : State) (n : Fin 16), (s.domOn 10 = true) ∧ (s.sapState n.val ≠ 1) ∧ (s.sapState n.val ≠ 2)) :=
  ⟨⟨(st [(R.PWR_DOM_STATUS_ON, 4095), ((R.SAP_PORT_STATUS_STATE (0 : Fin 16).val), 0)]), (0), by decide⟩,
   ⟨(st [(R.PWR_DOM_STATUS_ON, 4095), (R.SAP_PORT_CFG_MODE 0, 2)]), (0), by decide⟩,
   ⟨(st [(R.PWR_DOM_STATUS_ON, 4095), (R.SAP_PORT_STATUS_STATE 0, 2)]), (0), by decide⟩,
   ⟨(st [(R.PWR_DOM_STATUS_ON, 4095)]), (0), by decide⟩⟩

/-- States and operands that meet the hypotheses of every clause of GroupsArmTheirStarts. -/
theorem witness_GroupsArmTheirStarts :
    (∃ (s : State) (hi : Word), (s.domOn 10 = true) ∧ (s.tick.num + 2 ≤ s.fld R.SAP_START_AT_LO + hi.toNat * 0x100000000)) ∧
    (∃ (s : State) (hi : Word), (s.domOn 10 = true) ∧ (s.fld R.SAP_START_AT_LO + hi.toNat * 0x100000000 < s.tick.num + 2)) ∧
    (∃ (s : State), (s.domOn 10 = true)) ∧
    (∃ (s : State) (falling : Bool), (s.bit R.SAP_PIN_CTRL_ARM = true) ∧ (s.bit R.SAP_PIN_CTRL_POL = falling)) ∧
    (∃ (s : State) (falling : Bool), (s.bit R.SAP_PIN_CTRL_ARM = false ∨ s.bit R.SAP_PIN_CTRL_POL ≠ falling)) :=
  ⟨⟨(st [(R.PWR_DOM_STATUS_ON, 4095), (R.SAP_START_AT_LO, 2)]), (0), by decide⟩,
   ⟨(st [(R.PWR_DOM_STATUS_ON, 4095)]), (0), by decide⟩,
   ⟨(st [(R.PWR_DOM_STATUS_ON, 4095)]), by decide⟩,
   ⟨(st [(R.SAP_PIN_CTRL_ARM, 1)]), (false), by decide⟩,
   ⟨(st [(R.SAP_PIN_CTRL_ARM, 0)]), (false), by decide⟩⟩

/-- States and operands that meet the hypotheses of every clause of PortsMoveFrames. -/
theorem witness_PortsMoveFrames :
    (∃ (s : State) (n : Fin 16) (slots : List Word) (start : Int) (lag : Nat) (ws : List Nat), (s.sapState n.val = 2) ∧ ((s.sapPort n.val).rxFirst = false ∨ -98 ≤ start) ∧ (ws = packFrame (s.sapRxLayout n.val start).2 ((slotsOf (s.sapRxLayout n.val start).1).map (fun b => (slots[b]?).getD 0))) ∧ (ws.length ≤ s.hopRoom (2 * n.val) - lag)) ∧
    (∃ (s : State) (n : Fin 16) (slots : List Word) (start : Int) (lag : Nat) (ws : List Nat), (s.sapState n.val = 2) ∧ ((s.sapPort n.val).rxFirst = false ∨ -98 ≤ start) ∧ (ws = packFrame (s.sapRxLayout n.val start).2 ((slotsOf (s.sapRxLayout n.val start).1).map (fun b => (slots[b]?).getD 0))) ∧ (s.hopRoom (2 * n.val) - lag < ws.length) ∧ (s.hopEn (2 * n.val) = true) ∧ (ws.length ≤ (s.hop (2 * n.val)).entries.length) ∧ ((s.hop (2 * n.val)).entries.length ≤ s.fld (R.HOP_Q_CFG_DEPTH (2 * n.val))) ∧ (s.fld (R.SAP_PORT_RX_DISC n.val) < 0xFFFFFFFF)) ∧
    (∃ (s : State) (n : Fin 16) (start : Int) (lag : Nat) (w : Nat) (sel : List Nat), (s.sapState n.val = 2) ∧ ((s.sapPort n.val).txFirst = false ∨ -98 ≤ start) ∧ (sel = slotsOf (s.sapTxLayout n.val start).1) ∧ (sel ≠ []) ∧ (w = frameWords (s.sapTxLayout n.val start).2 sel.length) ∧ ((s.sapPort n.val).txResync = false) ∧ ((s.sapPort n.val).txWait = 0) ∧ (s.fld (R.SAP_PORT_OWED_TX n.val) = 0) ∧ (0 < s.framesIn (2 * n.val + 1) w lag) ∧ (s.outHeld = false)) ∧
    (∃ (s : State) (n : Fin 16) (start : Int) (lag : Nat) (w : Nat) (sel : List Nat), (s.sapState n.val = 2) ∧ ((s.sapPort n.val).txFirst = false ∨ -98 ≤ start) ∧ (sel = slotsOf (s.sapTxLayout n.val start).1) ∧ (sel ≠ []) ∧ (w = frameWords (s.sapTxLayout n.val start).2 sel.length) ∧ ((s.sapPort n.val).txResync = false) ∧ ((s.sapPort n.val).txWait = 0) ∧ (s.fld (R.SAP_PORT_OWED_TX n.val) = 0) ∧ (s.framesIn (2 * n.val + 1) w lag = 0) ∧ (s.fld (R.SAP_PORT_TX_HELD n.val) < 0xFFFFFFFF)) ∧
    (∃ (s : State) (n : Fin 16) (start : Int), (s.sapState n.val = 2) ∧ (start < -98) ∧ ((s.sapPort n.val).rxFirst = true)) ∧
    (∃ (s : State) (n : Fin 16) (start : Int), (s.sapState n.val = 2) ∧ (start < -98) ∧ ((s.sapPort n.val).txFirst = true)) ∧
    (∃ (s : State) (n : Fin 16), (s.sapState n.val ≠ 2)) ∧
    (∃ (s : State) (n : Fin 16), (s.sapState n.val ≠ 2)) :=
  ⟨⟨(st [(R.SAP_PORT_STATUS_STATE 15, 2), (R.SAP_PORT_RXMASK 15, 3), (R.HOP_Q_CFG_EN 30, 1), (R.HOP_Q_CFG_DEPTH 30, 2)]), (15), ([1, 2]), (0), (0), ([1, 2]), by decide⟩,
   ⟨({ st [(R.SAP_PORT_STATUS_STATE 15, 2), (R.SAP_PORT_RXMASK 15, 3), (R.HOP_Q_CFG_EN 30, 1), (R.HOP_Q_CFG_DEPTH 30, 2)] with hops := [(30, { Hop.empty with entries := [5, 6] })] }), (15), ([1, 2]), (0), (0), ([1, 2]), by decide⟩,
   ⟨({ st [(R.SAP_PORT_STATUS_STATE 15, 2), (R.SAP_PORT_TXMASK 15, 3), (R.HOP_Q_CFG_EN 31, 1), (R.HOP_Q_CFG_DEPTH 31, 2)] with hops := [(31, { Hop.empty with entries := [5, 6] })] }), (15), (0), (0), (2), ([0, 1]), by decide⟩,
   ⟨(st [(R.SAP_PORT_STATUS_STATE 15, 2), (R.SAP_PORT_TXMASK 15, 3)]), (15), (0), (0), (2), ([0, 1]), by decide⟩,
   ⟨({ st [(R.SAP_PORT_STATUS_STATE 15, 2)] with sap := { SapSt.reset with ports := [(15, { SapPort.zero with rxFirst := true })] } }), (15), (-99), by decide⟩,
   ⟨({ st [(R.SAP_PORT_STATUS_STATE 15, 2)] with sap := { SapSt.reset with ports := [(15, { SapPort.zero with txFirst := true })] } }), (15), (-99), by decide⟩,
   ⟨(State.reset), (0), by decide⟩,
   ⟨(State.reset), (0), by decide⟩⟩

/-- States and operands that meet the hypotheses of every clause of PortFaults. -/
theorem witness_PortFaults :
    (∃ (s : State) (n : Fin 16), (s.sapState n.val = 1 ∨ s.sapState n.val = 2) ∧ (s.bit (R.SAP_PORT_CFG_ROLE n.val) = false)) ∧
    (∃ (s : State) (n : Fin 16), (s.sapState n.val = 2) ∧ (s.bit (R.SAP_PORT_CFG_ROLE n.val) = false) ∧ ((s.sapPort n.val).errRun = 0) ∧ (s.fld (R.SAP_PORT_EVT_CNT_FRAME_ERR_CNT n.val) < 0xFFFF)) ∧
    (∃ (s : State) (n : Fin 16), (s.sapState n.val = 2) ∧ (s.bit (R.SAP_PORT_CFG_ROLE n.val) = false) ∧ (0 < (s.sapPort n.val).errRun)) ∧
    (∃ (s : State) (n : Fin 16), ((s.sapState n.val ≠ 1 ∧ s.sapState n.val ≠ 2) ∨ s.bit (R.SAP_PORT_CFG_ROLE n.val) = true)) ∧
    (∃ (s : State) (n : Fin 16), (s.sapState n.val ≠ 2 ∨ s.bit (R.SAP_PORT_CFG_ROLE n.val) = true)) :=
  ⟨⟨(st [((R.SAP_PORT_STATUS_STATE (0 : Fin 16).val), 1), ((R.SAP_PORT_CFG_ROLE (0 : Fin 16).val), 0)]), (0), by decide⟩,
   ⟨(st [((R.SAP_PORT_STATUS_STATE (0 : Fin 16).val), 2), ((R.SAP_PORT_CFG_ROLE (0 : Fin 16).val), 0)]), (0), by decide⟩,
   ⟨({ st [(R.SAP_PORT_STATUS_STATE 0, 2)] with sap := { SapSt.reset with ports := [(0, { SapPort.zero with errRun := 1 })] } }), (0), by decide⟩,
   ⟨(State.reset), (0), by decide⟩,
   ⟨(State.reset), (0), by decide⟩⟩

/-- States and operands that meet the hypotheses of every clause of PortLinks. -/
theorem witness_PortLinks :
    (∃ (s : State), (s.domOn 9 = true)) ∧
    (∃ (s : State) (n : Fin 4), (s.bit (R.NET_STATUS_TRAINING n.val) = true)) ∧
    (∃ (s : State) (n : Fin 4), (s.bit (R.NET_STATUS_TRAINING n.val) = false)) ∧
    (∃ (s : State) (n : Fin 5), (s.bit (R.NET_STATUS_LINK n.val) = false) ∧ (n.val = 4 ∨ s.fld (R.NET_CTRL_MODE n.val) ≠ 0) ∧ (s.netAsleep n.val = false)) ∧
    (∃ (s : State) (n : Fin 5), (s.bit (R.NET_STATUS_LINK n.val) = true ∨ (n.val < 4 ∧ s.fld (R.NET_CTRL_MODE n.val) = 0) ∨ s.netAsleep n.val = true)) ∧
    (∃ (s : State) (n : Fin 5), (s.bit (R.NET_STATUS_LINK n.val) = true)) ∧
    (∃ (s : State) (n : Fin 5), (s.bit (R.NET_STATUS_LINK n.val) = false)) ∧
    (∃ (s : State) (n : Fin 5) (e : Bool), (s.domOn 9 = true) ∧ (s.netUnsafe (R.NET_CTRL_RX_EN n.val).addr (s.regWord (R.NET_CTRL_RX_EN n.val).addr ||| 1) = e) ∧ (e = true)) ∧
    (∃ (s : State) (n : Fin 5) (e : Bool), (s.domOn 9 = true) ∧ (s.netUnsafe (R.NET_CTRL_RX_EN n.val).addr (s.regWord (R.NET_CTRL_RX_EN n.val).addr ||| 1) = e) ∧ (e = false) ∧ (s.fld (R.NET_MAX_LEN n.val) ≤ s.fld (R.NET_RX_BUF_LEN n.val)) ∧ (s.fld (R.HOP_Q_CFG_USE (s.fld (R.NET_RXQ_CFG_RX_HOP n.val))) = 2) ∧ (s.fld (R.HOP_Q_CFG_USE (s.fld (R.NET_RXQ_CFG_FREE_HOP n.val))) = 2)) ∧
    (∃ (s : State) (n : Fin 5) (e : Bool), (s.domOn 9 = true) ∧ (s.netUnsafe (R.NET_CTRL_RX_EN n.val).addr (s.regWord (R.NET_CTRL_RX_EN n.val).addr ||| 1) = e) ∧ (e = false) ∧ (s.fld (R.NET_RX_BUF_LEN n.val) < s.fld (R.NET_MAX_LEN n.val) ∨ s.fld (R.HOP_Q_CFG_USE (s.fld (R.NET_RXQ_CFG_RX_HOP n.val))) ≠ 2 ∨ s.fld (R.HOP_Q_CFG_USE (s.fld (R.NET_RXQ_CFG_FREE_HOP n.val))) ≠ 2)) :=
  ⟨⟨(st [(R.PWR_DOM_STATUS_ON, 4095)]), by decide⟩,
   ⟨(st [((R.NET_STATUS_TRAINING (0 : Fin 4).val), 1)]), (0), by decide⟩,
   ⟨(st [((R.NET_STATUS_TRAINING (0 : Fin 4).val), 0)]), (0), by decide⟩,
   ⟨(st [((R.NET_STATUS_LINK (4 : Fin 5).val), 0)]), (4), by decide⟩,
   ⟨(st [((R.NET_STATUS_LINK (0 : Fin 5).val), 1)]), (0), by decide⟩,
   ⟨(st [((R.NET_STATUS_LINK (0 : Fin 5).val), 1)]), (0), by decide⟩,
   ⟨(st [((R.NET_STATUS_LINK (0 : Fin 5).val), 0)]), (0), by decide⟩,
   ⟨(st [(R.PWR_DOM_STATUS_ON, 4095), (R.HOP_Q_CFG_USE 0, 2), (R.NET_MAX_LEN 0, 1518), (R.NET_RX_BUF_LEN 0, 1518)]), (0), (true), by decide⟩,
   ⟨(st [(R.PWR_DOM_STATUS_ON, 4095), (R.NET_RXQ_CFG_FREE_HOP 0, 1), (R.HOP_Q_CFG_USE 0, 2), (R.HOP_Q_CFG_USE 1, 2), (R.NET_MAX_LEN 0, 1518), (R.NET_RX_BUF_LEN 0, 1518)]), (0), (false), by decide⟩,
   ⟨(st [(R.PWR_DOM_STATUS_ON, 4095)]), (0), (false), by decide⟩⟩

/-- States and operands that meet the hypotheses of every clause of PortReceive. -/
theorem witness_PortReceive :
    (∃ (s : State) (t : State) (n : Fin 5) (l : List Byte) (dt : Nat), (t = s.elapse dt) ∧ (t.bit R.PWR_STATUS_STANDBY = false) ∧ (t.bit (R.NET_CTRL_RX_EN n.val) = true) ∧ (t.bit (R.NET_STATUS_LINK n.val) = true) ∧ (l.length < 64)) ∧
    (∃ (s : State) (t : State) (n : Fin 5) (l : List Byte) (pcs : Bool) (dt : Nat), (t = s.elapse dt) ∧ (t.bit R.PWR_STATUS_STANDBY = false) ∧ (t.bit (R.NET_CTRL_RX_EN n.val) = true) ∧ (t.bit (R.NET_STATUS_LINK n.val) = true) ∧ (64 ≤ l.length) ∧ (l.length ≤ t.fld (R.NET_MAX_LEN n.val)) ∧ (pcs = true)) ∧
    (∃ (s : State) (t : State) (n : Fin 5) (l : List Byte) (pcs : Bool) (dt : Nat), (t = s.elapse dt) ∧ (t.bit R.PWR_STATUS_STANDBY = false) ∧ (t.bit (R.NET_CTRL_RX_EN n.val) = true) ∧ (t.bit (R.NET_STATUS_LINK n.val) = true) ∧ (64 ≤ l.length) ∧ (l.length ≤ t.fld (R.NET_MAX_LEN n.val)) ∧ (pcs = false) ∧ (fcsOk l = false)) ∧
    (∃ (s : State) (t : State) (n : Fin 5) (l : List Byte) (dt : Nat) (h : Hdr), (t = s.elapse dt) ∧ (t.bit R.PWR_STATUS_STANDBY = false) ∧ (t.bit (R.NET_CTRL_RX_EN n.val) = true) ∧ (t.bit (R.NET_STATUS_LINK n.val) = true) ∧ (64 ≤ l.length) ∧ (l.length ≤ t.fld (R.NET_MAX_LEN n.val)) ∧ (fcsOk l = true) ∧ (h = parseHdr l) ∧ (h.etype = 0x8808) ∧ (beAt l h.off 2 = 1) ∧ (h.dst = 0x0180C2000001)) ∧
    (∃ (s : State) (t : State) (n : Fin 5) (l : List Byte) (dt : Nat) (h : Hdr), (t = s.elapse dt) ∧ (t.bit R.PWR_STATUS_STANDBY = false) ∧ (t.bit (R.NET_CTRL_RX_EN n.val) = true) ∧ (t.bit (R.NET_STATUS_LINK n.val) = true) ∧ (64 ≤ l.length) ∧ (l.length ≤ t.fld (R.NET_MAX_LEN n.val)) ∧ (fcsOk l = true) ∧ (h = parseHdr l) ∧ (h.etype ≠ 0x8808) ∧ (t.forwards n.val h = false) ∧ (t.winnow n.val h.dst = false)) ∧
    (∃ (s : State) (t : State) (n : Fin 5) (l : List Byte) (dt : Nat) (h : Hdr) (r : _), (t = s.elapse dt) ∧ (t.bit R.PWR_STATUS_STANDBY = false) ∧ (t.bit (R.NET_CTRL_RX_EN n.val) = true) ∧ (t.bit (R.NET_STATUS_LINK n.val) = true) ∧ (64 ≤ l.length) ∧ (l.length ≤ t.fld (R.NET_MAX_LEN n.val)) ∧ (fcsOk l = true) ∧ (h = parseHdr l) ∧ (h.etype ≠ 0x8808) ∧ (t.forwards n.val h = false) ∧ (t.winnow n.val h.dst = true) ∧ (t.sidMatch n.val l h = some r)) ∧
    (∃ (s : State) (t : State) (n : Fin 5) (l : List Byte) (dt : Nat) (h : Hdr), (t = s.elapse dt) ∧ (t.bit R.PWR_STATUS_STANDBY = false) ∧ (t.bit (R.NET_CTRL_RX_EN n.val) = true) ∧ (t.bit (R.NET_STATUS_LINK n.val) = true) ∧ (64 ≤ l.length) ∧ (l.length ≤ t.fld (R.NET_MAX_LEN n.val)) ∧ (fcsOk l = true) ∧ (h = parseHdr l) ∧ (h.etype ≠ 0x8808) ∧ (t.forwards n.val h = false) ∧ (t.winnow n.val h.dst = true) ∧ (t.sidMatch n.val l h = none) ∧ (n.val < 4) ∧ (isPtp l h = true)) ∧
    (∃ (s : State) (t : State) (n : Fin 5) (l : List Byte) (dt : Nat) (h : Hdr), (t = s.elapse dt) ∧ (t.bit R.PWR_STATUS_STANDBY = false) ∧ (t.bit (R.NET_CTRL_RX_EN n.val) = true) ∧ (t.bit (R.NET_STATUS_LINK n.val) = true) ∧ (64 ≤ l.length) ∧ (l.length ≤ t.fld (R.NET_MAX_LEN n.val)) ∧ (fcsOk l = true) ∧ (h = parseHdr l) ∧ (h.etype ≠ 0x8808) ∧ (t.forwards n.val h = false) ∧ (t.winnow n.val h.dst = true) ∧ (t.sidMatch n.val l h = none) ∧ (n.val = 4 ∨ (isPtp l h = false ∧ t.isHeartbeat l h = false)) ∧ (t.hopRoom (t.fld (R.NET_RXQ_CFG_RX_HOP n.val)) = 0 ∨ t.hopCount (t.fld (R.NET_RXQ_CFG_FREE_HOP n.val)) = 0)) ∧
    (∃ (s : State) (t : State) (n : Fin 5) (l : List Byte) (dt : Nat) (h : Hdr), (t = s.elapse dt) ∧ (t.bit R.PWR_STATUS_STANDBY = false) ∧ (t.bit (R.NET_CTRL_RX_EN n.val) = true) ∧ (t.bit (R.NET_STATUS_LINK n.val) = true) ∧ (64 ≤ l.length) ∧ (l.length ≤ t.fld (R.NET_MAX_LEN n.val)) ∧ (fcsOk l = true) ∧ (h = parseHdr l) ∧ (h.etype ≠ 0x8808) ∧ (t.forwards n.val h = false) ∧ (t.winnow n.val h.dst = true) ∧ (t.sidMatch n.val l h = none) ∧ (n.val = 4 ∨ (isPtp l h = false ∧ t.isHeartbeat l h = false)) ∧ (t.hopRoom (t.fld (R.NET_RXQ_CFG_RX_HOP n.val)) ≠ 0) ∧ (t.hopCount (t.fld (R.NET_RXQ_CFG_FREE_HOP n.val)) ≠ 0)) ∧
    (∃ (s : State) (t : State) (n : Fin 5) (dt : Nat), (t = s.elapse dt) ∧ (t.bit R.PWR_STATUS_STANDBY = false) ∧ (t.bit (R.NET_CTRL_RX_EN n.val) = false ∨ t.bit (R.NET_STATUS_LINK n.val) = false)) ∧
    (∃ (s : State) (n : Fin 5), (s.bit (R.NET_STATUS_PAUSED n.val) = true)) ∧
    (∃ (s : State) (n : Fin 5), (s.bit (R.NET_STATUS_PAUSED n.val) = false)) ∧
    (∃ (s : State) (n : Fin 5), (s.domOn 9 = true) ∧ (n.val = 0 ∨ n.val = 4)) ∧
    (∃ (s : State) (n : Fin 5), (s.domOn 9 = true) ∧ (n.val ≠ 0) ∧ (n.val ≠ 4)) ∧
    (∃ (s : State), (s.domOn 9 = true)) :=
  ⟨⟨((st [(R.NET_CTRL_RX_EN 0, 1), (R.NET_STATUS_LINK 0, 1), (R.NET_MAX_LEN 0, 1518)])), ((st [(R.NET_CTRL_RX_EN 0, 1), (R.NET_STATUS_LINK 0, 1), (R.NET_MAX_LEN 0, 1518)]).elapse 0), (0), (List.replicate 63 0), (0), by decide +kernel⟩,
   ⟨((st [(R.NET_CTRL_RX_EN 0, 1), (R.NET_STATUS_LINK 0, 1), (R.NET_MAX_LEN 0, 1518)])), ((st [(R.NET_CTRL_RX_EN 0, 1), (R.NET_STATUS_LINK 0, 1), (R.NET_MAX_LEN 0, 1518)]).elapse 0), (0), (List.replicate 64 0), (true), (0), by decide +kernel⟩,
   ⟨((st [(R.NET_CTRL_RX_EN 0, 1), (R.NET_STATUS_LINK 0, 1), (R.NET_MAX_LEN 0, 1518)])), ((st [(R.NET_CTRL_RX_EN 0, 1), (R.NET_STATUS_LINK 0, 1), (R.NET_MAX_LEN 0, 1518)]).elapse 0), (0), (List.replicate 64 0), (false), (0), by decide +kernel⟩,
   ⟨((st [(R.NET_CTRL_RX_EN 0, 1), (R.NET_STATUS_LINK 0, 1), (R.NET_MAX_LEN 0, 1518)])), ((st [(R.NET_CTRL_RX_EN 0, 1), (R.NET_STATUS_LINK 0, 1), (R.NET_MAX_LEN 0, 1518)]).elapse 0), (0), (frame64 ([1, 0x80, 0xC2, 0, 0, 1, 0, 0, 0, 0, 0, 0, 0x88, 8, 0, 1])), (0), (parseHdr (frame64 ([1, 0x80, 0xC2, 0, 0, 1, 0, 0, 0, 0, 0, 0, 0x88, 8, 0, 1]))), by decide +kernel⟩,
   ⟨((st [(R.NET_CTRL_RX_EN 0, 1), (R.NET_STATUS_LINK 0, 1), (R.NET_MAX_LEN 0, 1518)])), ((st [(R.NET_CTRL_RX_EN 0, 1), (R.NET_STATUS_LINK 0, 1), (R.NET_MAX_LEN 0, 1518)]).elapse 0), (0), (frame64 []), (0), (parseHdr (frame64 [])), by decide +kernel⟩,
   ⟨(({ st [(R.NET_CTRL_RX_EN 0, 1), (R.NET_STATUS_LINK 0, 1), (R.NET_MAX_LEN 0, 1518), (R.NET_CTRL_PROMISC 0, 1)] with strm := { StrmSt.reset with sid := [⟨0, 0, 0x80000005, 0, 0, 0⟩] } })), (({ st [(R.NET_CTRL_RX_EN 0, 1), (R.NET_STATUS_LINK 0, 1), (R.NET_MAX_LEN 0, 1518), (R.NET_CTRL_PROMISC 0, 1)] with strm := { StrmSt.reset with sid := [⟨0, 0, 0x80000005, 0, 0, 0⟩] } }).elapse 0), (0), (frame64 (List.replicate 12 0 ++ [0x22, 0xF0])), (0), (parseHdr (frame64 (List.replicate 12 0 ++ [0x22, 0xF0]))), (5), by decide +kernel⟩,
   ⟨((st [(R.NET_CTRL_RX_EN 0, 1), (R.NET_STATUS_LINK 0, 1), (R.NET_MAX_LEN 0, 1518), (R.NET_CTRL_PROMISC 0, 1)])), ((st [(R.NET_CTRL_RX_EN 0, 1), (R.NET_STATUS_LINK 0, 1), (R.NET_MAX_LEN 0, 1518), (R.NET_CTRL_PROMISC 0, 1)]).elapse 0), (0), (frame64 (List.replicate 12 0 ++ [0x88, 0xF7])), (0), (parseHdr (frame64 (List.replicate 12 0 ++ [0x88, 0xF7]))), by decide +kernel⟩,
   ⟨((st [(R.NET_CTRL_RX_EN 0, 1), (R.NET_STATUS_LINK 0, 1), (R.NET_MAX_LEN 0, 1518), (R.NET_CTRL_PROMISC 0, 1)])), ((st [(R.NET_CTRL_RX_EN 0, 1), (R.NET_STATUS_LINK 0, 1), (R.NET_MAX_LEN 0, 1518), (R.NET_CTRL_PROMISC 0, 1)]).elapse 0), (0), (frame64 (List.replicate 12 0 ++ [0x12, 0x34])), (0), (parseHdr (frame64 (List.replicate 12 0 ++ [0x12, 0x34]))), by decide +kernel⟩,
   ⟨(({ st [(R.NET_CTRL_RX_EN 0, 1), (R.NET_STATUS_LINK 0, 1), (R.NET_MAX_LEN 0, 1518), (R.NET_CTRL_PROMISC 0, 1), (R.NET_RXQ_CFG_FREE_HOP 0, 1), (R.HOP_Q_CFG_EN 0, 1), (R.HOP_Q_CFG_DEPTH 0, 2), (R.HOP_Q_CFG_EN 1, 1), (R.HOP_Q_CFG_DEPTH 1, 2)] with hops := [(1, { Hop.empty with entries := [5] })] })), (({ st [(R.NET_CTRL_RX_EN 0, 1), (R.NET_STATUS_LINK 0, 1), (R.NET_MAX_LEN 0, 1518), (R.NET_CTRL_PROMISC 0, 1), (R.NET_RXQ_CFG_FREE_HOP 0, 1), (R.HOP_Q_CFG_EN 0, 1), (R.HOP_Q_CFG_DEPTH 0, 2), (R.HOP_Q_CFG_EN 1, 1), (R.HOP_Q_CFG_DEPTH 1, 2)] with hops := [(1, { Hop.empty with entries := [5] })] }).elapse 0), (0), (frame64 (List.replicate 12 0 ++ [0x12, 0x34])), (0), (parseHdr (frame64 (List.replicate 12 0 ++ [0x12, 0x34]))), by decide +kernel⟩,
   ⟨(State.reset), (State.reset.elapse 0), (0), (0), by decide⟩,
   ⟨(st [((R.NET_STATUS_PAUSED (0 : Fin 5).val), 1)]), (0), by decide⟩,
   ⟨(st [((R.NET_STATUS_PAUSED (0 : Fin 5).val), 0)]), (0), by decide⟩,
   ⟨(st [(R.PWR_DOM_STATUS_ON, 4095)]), (0), by decide⟩,
   ⟨(st [(R.PWR_DOM_STATUS_ON, 4095)]), (3), by decide⟩,
   ⟨(st [(R.PWR_DOM_STATUS_ON, 4095)]), by decide⟩⟩

/-- States and operands that meet the hypotheses of every clause of PortTransmit. -/
theorem witness_PortTransmit :
    (∃ (s : State) (t : State) (n : Fin 5) (dt : Nat), (t = (s.elapse dt).txDrainAll n.val) ∧ ((t.netPort n.val).flight.isSome = true ∨ t.txOpen n.val = false)) ∧
    (∃ (s : State) (t : State) (n : Fin 5) (dt : Nat), (t = (s.elapse dt).txDrainAll n.val) ∧ (∀ lv, lv < 8 → t.levelPick n.val lv = 0)) ∧
    (∃ (s : State) (t : State) (n : Fin 5) (dt : Nat) (lv : _) (d : _), (t = (s.elapse dt).txDrainAll n.val) ∧ ((t.netPort n.val).flight = none) ∧ (t.txOpen n.val = true) ∧ (lv < 8) ∧ (∀ k, k < 8 → lv < k → t.levelPick n.val k = 0) ∧ (t.levelPick n.val lv = 1) ∧ (t.txHead n.val lv = some d) ∧ (t.txBad n.val d = false)) ∧
    (∃ (s : State) (t : State) (n : Fin 5) (dt : Nat) (lv : _) (d : _), (t = (s.elapse dt).txDrainAll n.val) ∧ ((t.netPort n.val).flight = none) ∧ (t.txOpen n.val = true) ∧ (lv < 8) ∧ (∀ k, k < 8 → lv < k → t.levelPick n.val k = 0) ∧ (t.levelPick n.val lv = 1) ∧ (t.txHead n.val lv = some d) ∧ (t.txBad n.val d = true)) ∧
    (∃ (s : State) (t : State) (n : Fin 5) (dt : Nat) (lv : _), (t = (s.elapse dt).txDrainAll n.val) ∧ ((t.netPort n.val).flight = none) ∧ (t.txOpen n.val = true) ∧ (lv < 8) ∧ (∀ k, k < 8 → lv < k → t.levelPick n.val k = 0) ∧ (t.levelPick n.val lv = 2)) ∧
    (∃ (s : State) (t : State) (n : Fin 5) (dt : Nat), (t = s.elapse dt) ∧ (t.txOpen n.val = true) ∧ (t.bit (R.NET_STATUS_TX_GATED n.val) = false) ∧ (t.net.gates = []) ∧ (t.bit R.FCU_STATUS_SAFE = false)) ∧
    (∃ (s : State) (t : State) (n : Fin 5) (q : Fin 8) (dt : Nat), (t = s.elapse dt) ∧ (t.txHead n.val q.val = none ∨ (∃ d, t.txHead n.val q.val = some d ∧ t.hasLaunch n.val d = true ∧ 0 < t.launchDiff d))) ∧
    (∃ (s : State) (t : State) (n : Fin 5) (q : Fin 8) (dt : Nat) (h : _) (d : _), (t = s.elapse dt) ∧ (t.txOpen n.val = false) ∧ (t.txHop n.val q.val = some h) ∧ (t.txHead n.val q.val = some d) ∧ (t.hasLaunch n.val d = true) ∧ (t.eligible n.val q.val d = true)) ∧
    (∃ (s : State) (t : State) (n : Fin 5) (dt : Nat), (t = s.elapse dt) ∧ ((t.netPort n.val).flight = none)) ∧
    (∃ (s : State) (t : State) (n : Fin 5) (dt : Nat) (f : Flight), (t = s.elapse dt) ∧ ((t.netPort n.val).flight = some f)) :=
  ⟨⟨((State.reset)), (((State.reset).elapse 0).txDrainAll 1), (1), (0), by decide⟩,
   ⟨((State.reset)), (((State.reset).elapse 0).txDrainAll 1), (1), (0), by decide⟩,
   ⟨(({ st [(R.NET_STATUS_LINK 1, 1), (R.NET_CTRL_TX_EN 1, 1), (R.NET_TXQ_EN 1 7, 1), (R.NET_TXQ_HOPPER 1 7, 9), (R.HOP_Q_CFG_EN 9, 1), (R.HOP_Q_CFG_DEPTH 9, 4), (R.HOP_Q_CFG_USE 9, 2), (R.NET_MAX_LEN 1, 1518)] with hops := [(9, { Hop.empty with entries := [2 ^ 32 * (2 ^ 18 + 1024)] })] })), ((({ st [(R.NET_STATUS_LINK 1, 1), (R.NET_CTRL_TX_EN 1, 1), (R.NET_TXQ_EN 1 7, 1), (R.NET_TXQ_HOPPER 1 7, 9), (R.HOP_Q_CFG_EN 9, 1), (R.HOP_Q_CFG_DEPTH 9, 4), (R.HOP_Q_CFG_USE 9, 2), (R.NET_MAX_LEN 1, 1518)] with hops := [(9, { Hop.empty with entries := [2 ^ 32 * (2 ^ 18 + 1024)] })] }).elapse 0).txDrainAll 1), (1), (0), (7), (2 ^ 32 * (2 ^ 18 + 1024)), by decide⟩,
   ⟨(({ st [(R.NET_STATUS_LINK 1, 1), (R.NET_CTRL_TX_EN 1, 1), (R.NET_TXQ_EN 1 7, 1), (R.NET_TXQ_HOPPER 1 7, 9), (R.HOP_Q_CFG_EN 9, 1), (R.HOP_Q_CFG_DEPTH 9, 4), (R.HOP_Q_CFG_USE 9, 2), (R.NET_MAX_LEN 1, 1518)] with hops := [(9, { Hop.empty with entries := [100] })] })), ((({ st [(R.NET_STATUS_LINK 1, 1), (R.NET_CTRL_TX_EN 1, 1), (R.NET_TXQ_EN 1 7, 1), (R.NET_TXQ_HOPPER 1 7, 9), (R.HOP_Q_CFG_EN 9, 1), (R.HOP_Q_CFG_DEPTH 9, 4), (R.HOP_Q_CFG_USE 9, 2), (R.NET_MAX_LEN 1, 1518)] with hops := [(9, { Hop.empty with entries := [100] })] }).elapse 0).txDrainAll 1), (1), (0), (7), (100), by decide⟩,
   ⟨(({ st [(R.NET_STATUS_LINK 1, 1), (R.NET_CTRL_TX_EN 1, 1)] with net := { NetSt.reset with ports := [(1, { NetPort.zero with fwd := [⟨3, [], 0, 0⟩] })] } })), ((({ st [(R.NET_STATUS_LINK 1, 1), (R.NET_CTRL_TX_EN 1, 1)] with net := { NetSt.reset with ports := [(1, { NetPort.zero with fwd := [⟨3, [], 0, 0⟩] })] } }).elapse 0).txDrainAll 1), (1), (0), (3), by decide⟩,
   ⟨((st [(R.NET_STATUS_LINK 1, 1), (R.NET_CTRL_TX_EN 1, 1)])), ((st [(R.NET_STATUS_LINK 1, 1), (R.NET_CTRL_TX_EN 1, 1)]).elapse 0), (1), (0), by decide⟩,
   ⟨((State.reset)), ((State.reset).elapse 0), (1), (0), (0), ⟨by decide, .inl (by decide)⟩⟩,
   ⟨(({ st [(R.NET_CTRL_TX_EN 1, 1), (R.NET_TXQ_EN 1 7, 1), (R.NET_TXQ_HOPPER 1 7, 9), (R.HOP_Q_CFG_EN 9, 1), (R.HOP_Q_CFG_DEPTH 9, 4), (R.HOP_Q_CFG_USE 9, 2), (R.NET_MAX_LEN 1, 1518)] with hops := [(9, { Hop.empty with entries := [2 ^ 51] })] })), (({ st [(R.NET_CTRL_TX_EN 1, 1), (R.NET_TXQ_EN 1 7, 1), (R.NET_TXQ_HOPPER 1 7, 9), (R.HOP_Q_CFG_EN 9, 1), (R.HOP_Q_CFG_DEPTH 9, 4), (R.HOP_Q_CFG_USE 9, 2), (R.NET_MAX_LEN 1, 1518)] with hops := [(9, { Hop.empty with entries := [2 ^ 51] })] }).elapse 0), (1), (7), (0), (9), (2 ^ 51), by decide⟩,
   ⟨((State.reset)), ((State.reset).elapse 0), (1), (0), by decide⟩,
   ⟨(({ State.reset with net := { NetSt.reset with ports := [(1, { NetPort.zero with flight := some ⟨0, 0, [], 0, 0⟩ })] } })), (({ State.reset with net := { NetSt.reset with ports := [(1, { NetPort.zero with flight := some ⟨0, 0, [], 0, 0⟩ })] } }).elapse 0), (1), (0), (⟨0, 0, [], 0, 0⟩), by decide⟩⟩

/-- States and operands that meet the hypotheses of every clause of Mdio. -/
theorem witness_Mdio :
    (∃ (s : State), (s.domOn 9 = true) ∧ (s.bit R.MGMT_MDIO_CMD_BUSY = false)) ∧
    (∃ (s : State), (s.domOn 9 = true) ∧ (s.bit R.MGMT_MDIO_CMD_BUSY = true)) ∧
    (∃ (s : State), (s.bit R.MGMT_MDIO_CMD_BUSY = true)) ∧
    (∃ (s : State), (s.bit R.MGMT_MDIO_CMD_BUSY = false)) :=
  ⟨⟨(st [(R.PWR_DOM_STATUS_ON, 4095), (R.MGMT_MDIO_CMD_BUSY, 0)]), by decide⟩,
   ⟨(st [(R.PWR_DOM_STATUS_ON, 4095), (R.MGMT_MDIO_CMD_BUSY, 1)]), by decide⟩,
   ⟨(st [(R.MGMT_MDIO_CMD_BUSY, 1)]), by decide⟩,
   ⟨(st [(R.MGMT_MDIO_CMD_BUSY, 0)]), by decide⟩⟩

/-- States and operands that meet the hypotheses of every clause of StreamsBuild. -/
theorem witness_StreamsBuild :
    (∃ (s : State) (r : Fin 128), (s.txEnt r.val = none ∨ FMap.get 0 s.strm.todo r.val = 0)) ∧
    (∃ (s : State) (r : Fin 128) (e : TxEnt), (s.txEnt r.val = some e) ∧ (FMap.get 0 s.strm.todo r.val ≠ 0) ∧ (s.streamFrame e (s.tick.num + 1) = none)) ∧
    (∃ (s : State) (r : Fin 128) (e : TxEnt) (n : Fin 4) (seq : Nat) (h : Nat) (make : Nat → List Byte × Nat), (s.txEnt r.val = some e) ∧ (FMap.get 0 s.strm.todo r.val = 2 ^ n.val) ∧ (s.streamFrame e (s.tick.num + 1) = some (seq, make)) ∧ (s.txHop n.val e.queue = some h) ∧ (s.hopRoom h ≠ 0) ∧ (s.fld (R.STRM_TX_FRAMES r.val) < 0xFFFFFFFF)) :=
  ⟨⟨(State.reset), (0), by decide⟩,
   ⟨({ State.reset with strm := { StrmSt.reset with txMap := [⟨5, 4, 2, 0, 1, 0, 0, 0, 0, 0, 0, 0, 0, 0, 0, 0, 0, 0⟩], todo := [(5, 1)] } }), (5), (⟨5, 4, 2, 0, 1, 0, 0, 0, 0, 0, 0, 0, 0, 0, 0, 0, 0, 0⟩), ⟨rfl, by decide, rfl⟩⟩,
   ⟨({ st [(R.NET_TXQ_EN 2 0, 1), (R.NET_TXQ_HOPPER 2 0, 9), (R.HOP_Q_CFG_EN 9, 1), (R.HOP_Q_CFG_DEPTH 9, 1)] with strm := { StrmSt.reset with txMap := [⟨5, 0, 2, 0, 1, 0, 0, 0, 0, 0, 0, 0, 0, 0, 0, 0, 0, 0⟩], todo := [(5, 4)] } }), (5), (⟨5, 0, 2, 0, 1, 0, 0, 0, 0, 0, 0, 0, 0, 0, 0, 0, 0, 0⟩), (2), (1), (9), _, ⟨rfl, by decide, rfl, by decide, by decide, by decide⟩⟩⟩

/-- States and operands that meet the hypotheses of every clause of StreamsReceive. -/
theorem witness_StreamsReceive :
    (∃ (s : State), (s.strm.inbox = [])) ∧
    (∃ (s : State) (f : RxFrame) (rest : List RxFrame), (s.strm.inbox = f :: rest) ∧ (s.rxEnt f.stream = none)) ∧
    (∃ (s : State) (f : RxFrame) (rest : List RxFrame) (e : _), (s.strm.inbox = f :: rest) ∧ (s.rxEnt f.stream = some e) ∧ (s.rxCheck e f.bytes (parseHdr f.bytes) (if s.selCur = 0 then f.at0 else f.at1) = none) ∧ (f.stream < 128) ∧ (f.port < 4) ∧ (s.fld (R.STRM_RX_HDR_ERR f.stream) < 0xFFFFFFFF) ∧ (s.fld (if f.port < 2 then R.STRM_RX_FRAMES_A f.stream else R.STRM_RX_FRAMES_B f.stream) < 0xFFFFFFFF)) ∧
    (∃ (s : State) (f : RxFrame) (rest : List RxFrame) (e : _) (a : _), (s.strm.inbox = f :: rest) ∧ (s.rxEnt f.stream = some e) ∧ (e.format ≤ 1) ∧ (e.elim = false) ∧ (f.stream < 128) ∧ (f.port < 4) ∧ (s.rxAaf e f.bytes (parseHdr f.bytes) (if s.selCur = 0 then f.at0 else f.at1) = some a)) ∧
    (∃ (s : State) (f : RxFrame) (rest : List RxFrame) (e : _) (w : _) (seq : _), (s.strm.inbox = f :: rest) ∧ (s.rxEnt f.stream = some e) ∧ (e.elim = true) ∧ (f.stream < 128) ∧ (f.port < 4) ∧ ((parseHdr f.bytes).rtag = some seq) ∧ (s.rxCheck e f.bytes (parseHdr f.bytes) (if s.selCur = 0 then f.at0 else f.at1) = some w) ∧ ((s.rxStream f.stream).takeAny = false) ∧ ((s.rxStream f.stream).seq = seq) ∧ (bitOf (s.rxStream f.stream).hist 0 = true) ∧ (s.fld (R.STRM_RX_DISCARDED f.stream) < 0xFFFFFFFF)) ∧
    (∃ (s : State) (r : Fin 128), (s.fld (R.STRM_RX_STATE_STATE r.val) = 2) ∧ (12 ≤ (s.rxStream r.val).idle) ∧ (s.fld (R.STRM_RX_LOST_CNT r.val) < 0xFFFF)) ∧
    (∃ (s : State) (r : Fin 128), (s.fld (R.STRM_RX_STATE_STATE r.val) ≠ 2 ∨ (s.rxStream r.val).idle < 12)) ∧
    (∃ (s : State) (r : Fin 128) (e : RxEnt), (s.rxEnt r.val = some e) ∧ (e.elim = true) ∧ ((s.rxStream r.val).takeAny = false) ∧ (12 ≤ (s.rxStream r.val).quiet) ∧ (s.fld (R.STRM_RX_RESETS r.val) < 0xFFFFFFFF)) ∧
    (∃ (s : State) (r : Fin 128), (s.rxEnt r.val = none ∨ (∃ e, s.rxEnt r.val = some e ∧ e.elim = false) ∨ (s.rxStream r.val).takeAny = true ∨ (s.rxStream r.val).quiet < 12)) :=
  ⟨⟨({ State.reset with strm := { StrmSt.reset with inbox := [] } }), by decide⟩,
   ⟨({ State.reset with strm := { StrmSt.reset with inbox := [⟨1, 5, [], 0, 0⟩] } }), (⟨1, 5, [], 0, 0⟩), ([]), by decide⟩,
   ⟨({ State.reset with strm := { StrmSt.reset with inbox := [⟨1, 5, [], 0, 0⟩], rxMap := [⟨5, 0, 2, 0, true, 0, 0⟩] } }), (⟨1, 5, [], 0, 0⟩), ([]), (⟨5, 0, 2, 0, true, 0, 0⟩), by decide⟩,
   ⟨({ State.reset with strm := { StrmSt.reset with inbox := [aafFrame], rxMap := [⟨5, 0, 1, 0, false, 0, 0⟩] } }), (aafFrame), ([]), (⟨5, 0, 1, 0, false, 0, 0⟩), ((State.reset.rxAaf ⟨5, 0, 1, 0, false, 0, 0⟩ aafFrame.bytes (parseHdr aafFrame.bytes) 0).getD ⟨0, []⟩), ⟨rfl, by decide, by decide, by decide, by decide, by decide, by decide +kernel⟩⟩,
   ⟨({ State.reset with strm := { StrmSt.reset with inbox := [aafTagged], rxMap := [⟨5, 0, 1, 0, true, 0, 0⟩], rx := [(5, { RxStream.zero with takeAny := false, seq := 7, hist := 1 })] } }), (aafTagged), ([]), (⟨5, 0, 1, 0, true, 0, 0⟩), ((State.reset.rxCheck ⟨5, 0, 1, 0, true, 0, 0⟩ aafTagged.bytes (parseHdr aafTagged.bytes) 0).getD (.crf 0)), (7), ⟨rfl, by decide, rfl, by decide, by decide, by decide, by decide +kernel, by decide, by decide, by decide, by decide⟩⟩,
   ⟨({ st [(R.STRM_RX_STATE_STATE 0, 2)] with strm := { StrmSt.reset with rx := [(0, { RxStream.zero with idle := 12 })] } }), (0), by decide⟩,
   ⟨(State.reset), (0), by decide⟩,
   ⟨({ State.reset with strm := { StrmSt.reset with rxMap := [⟨5, 0, 1, 0, true, 0, 0⟩], rx := [(5, { RxStream.zero with takeAny := false, quiet := 12 })] } }), (5), (⟨5, 0, 1, 0, true, 0, 0⟩), by decide⟩,
   ⟨(State.reset), (0), by decide⟩⟩

/-- States and operands that meet the hypotheses of every clause of TimeCommands. -/
theorem witness_TimeCommands :
    (∃ (s : State) (i : Fin 2), (s.bit (R.TIME_T_CTRL_EN i.val) = true) ∧ (s.bit (R.TIME_T_STATE_GM_LOST i.val) = false) ∧ (s.bit (R.TIME_T_STATE_GM_LOST (1 - i.val)) = true)) ∧
    (∃ (s : State) (i : Fin 2), (s.bit (R.TIME_T_CTRL_EN i.val) = false ∨ s.bit (R.TIME_T_STATE_GM_LOST i.val) = true)) ∧
    (∃ (s : State) (i : Fin 2), (s.bit (R.TIME_T_CTRL_EN i.val) = true) ∧ (s.bit (R.TIME_T_STATE_GM_LOST i.val) = false) ∧ (s.bit (R.TIME_T_STATE_GM_LOST (1 - i.val)) = false) ∧ (s.selCur = i.val) ∧ (s.bit R.TIME_CTRL_AUTO_SW = true) ∧ (s.fld (R.TIME_T_STATE_STATE (1 - i.val)) = 2)) ∧
    (∃ (s : State) (i : Fin 2), (s.bit (R.TIME_T_CTRL_EN i.val) = true) ∧ (s.bit (R.TIME_T_STATE_GM_LOST i.val) = false) ∧ (s.bit (R.TIME_T_STATE_GM_LOST (1 - i.val)) = false) ∧ (s.selCur ≠ i.val ∨ s.bit R.TIME_CTRL_AUTO_SW = false ∨ s.fld (R.TIME_T_STATE_STATE (1 - i.val)) ≠ 2)) ∧
    (∃ (s : State) (t : State) (i : Fin 2) (dt : Nat), (t = s.elapse dt) ∧ (t.domOn 9 = true) ∧ (t.selCur ≠ i.val)) ∧
    (∃ (s : State) (t : State) (i : Fin 2) (dt : Nat), (t = s.elapse dt) ∧ (t.domOn 9 = true) ∧ (t.selCur = i.val)) ∧
    (∃ (s : State) (t : State) (dt : Nat), (t = s.elapse dt) ∧ (t.domOn 9 = true)) ∧
    (∃ (s : State), (s.domOn 9 = true)) ∧
    (∃ (s : State), (s.clk.auto = false) ∧ (s.bit R.TIME_STATUS_SLEWING = true) ∧ (s.ptp.resid.natAbs ≤ s.slewStep.natAbs)) ∧
    (∃ (s : State), (s.clk.auto = false) ∧ (s.bit R.TIME_STATUS_SLEWING = false ∨ s.slewStep.natAbs < s.ptp.resid.natAbs)) ∧
    (∃ (s : State), (s.clk.auto = true) ∧ (s.fld R.CLK_STATUS_STATE = 3 ∨ s.bit R.CLK_STATUS_ALIGNING = false)) ∧
    (∃ (s : State), (s.clk.auto = true) ∧ (s.fld R.CLK_STATUS_STATE ≠ 3) ∧ (s.bit R.CLK_STATUS_ALIGNING = true) ∧ (s.bit R.TIME_STATUS_SLEWING = true) ∧ (s.ptp.resid.natAbs ≤ s.slewStep.natAbs)) ∧
    (∃ (s : State), (s.ptp.inbox = [])) ∧
    (∃ (s : State) (f : RxFrame) (rest : List RxFrame) (i : Nat), (s.ptp.inbox = f :: rest) ∧ (i < 2) ∧ (({ s with ptp := { s.ptp with inbox := rest } } : State).ptpInstance f (parseHdr f.bytes) = some i) ∧ (beAt f.bytes (ptpAt f.bytes (parseHdr f.bytes)) 1 % 16 = 11)) :=
  ⟨⟨(st [(R.TIME_T_CTRL_EN 0, 1), (R.TIME_T_STATE_GM_LOST 1, 1)]), (0), by decide⟩,
   ⟨(st [((R.TIME_T_CTRL_EN (0 : Fin 2).val), 0)]), (0), by decide⟩,
   ⟨(st [((R.TIME_T_CTRL_EN (0 : Fin 2).val), 1), ((R.TIME_T_STATE_GM_LOST (0 : Fin 2).val), 0), (R.TIME_CTRL_AUTO_SW, 1), ((R.TIME_T_STATE_STATE 1), 2)]), (0), by decide⟩,
   ⟨(st [((R.TIME_T_CTRL_EN (0 : Fin 2).val), 1), ((R.TIME_T_STATE_GM_LOST (0 : Fin 2).val), 0)]), (0), by decide⟩,
   ⟨((st [(R.PWR_DOM_STATUS_ON, 4095)])), ((st [(R.PWR_DOM_STATUS_ON, 4095)]).elapse 0), (1), (0), by decide⟩,
   ⟨((st [(R.PWR_DOM_STATUS_ON, 4095)])), ((st [(R.PWR_DOM_STATUS_ON, 4095)]).elapse 0), (0), (0), by decide⟩,
   ⟨((st [(R.PWR_DOM_STATUS_ON, 4095)])), ((st [(R.PWR_DOM_STATUS_ON, 4095)]).elapse 0), (0), by decide⟩,
   ⟨(st [(R.PWR_DOM_STATUS_ON, 4095)]), by decide⟩,
   ⟨({ st [(R.TIME_STATUS_SLEWING, 1)] with clk := { ClkSt.reset with auto := false } }), by decide⟩,
   ⟨({ st [(R.TIME_STATUS_SLEWING, 0)] with clk := { ClkSt.reset with auto := false } }), by decide⟩,
   ⟨({ st [(R.CLK_STATUS_STATE, 3)] with clk := { ClkSt.reset with auto := true } }), by decide⟩,
   ⟨({ st [(R.CLK_STATUS_ALIGNING, 1), (R.TIME_STATUS_SLEWING, 1)] with clk := { ClkSt.reset with auto := true } }), by decide⟩,
   ⟨({ State.reset with ptp := { PtpSt.reset with inbox := [] } }), by decide⟩,
   ⟨({ st [(R.TIME_T_CTRL_EN 0, 1), (R.TIME_T_CTRL_PORTS 0, 1), (R.TIME_T_CTRL_PROFILE 0, 0), (R.TIME_T_CTRL_DOMAIN 0, 0)] with ptp := { PtpSt.reset with inbox := [annFrame] } }), (annFrame), ([]), (0), ⟨rfl, by decide, by decide +kernel, by decide +kernel⟩⟩⟩

/-- States and operands that meet the hypotheses of every clause of ReferenceMonitors. -/
theorem witness_ReferenceMonitors :
    (∃ (s : State) (n : Fin 8), (s.fld (R.CLK_REF_STATUS_STATE n.val) = 2 ∨ s.fld (R.CLK_REF_STATUS_STATE n.val) = 3) ∧ (s.fld (R.CLK_REF_EVT_LOSS_CNT n.val) < 0xFFFF)) ∧
    (∃ (s : State) (n : Fin 8), (s.fld (R.CLK_REF_STATUS_STATE n.val) = 2 ∨ s.fld (R.CLK_REF_STATUS_STATE n.val) = 3) ∧ (s.fld (R.CLK_REF_EVT_LOSS_CNT n.val) < 0xFFFF) ∧ (s.sourceOk n.val = false)) ∧
    (∃ (s : State) (n : Fin 8), (s.fld (R.CLK_REF_STATUS_STATE n.val) < 2)) ∧
    (∃ (s : State) (n : Fin 8), (s.sourceOk n.val = true)) ∧
    (∃ (s : State) (n : Fin 8), (s.bit (R.CLK_REF_CFG_EN n.val) = false)) ∧
    (∃ (s : State) (n : Fin 8) (ofs : Int), (s.bit (R.CLK_REF_CFG_EN n.val) = true) ∧ (s.sourceOk n.val = true) ∧ (s.fld (R.CLK_REF_STATUS_STATE n.val) = 2) ∧ (s.fld R.CLK_QUAL_ACCEPT_PPM * 100000 < ofs.natAbs)) ∧
    (∃ (s : State) (n : Fin 8) (ofs : Int), (s.bit (R.CLK_REF_CFG_EN n.val) = true) ∧ (s.sourceOk n.val = true) ∧ (s.fld (R.CLK_REF_STATUS_STATE n.val) = 2) ∧ (ofs.natAbs ≤ s.fld R.CLK_QUAL_ACCEPT_PPM * 100000) ∧ (FMap.get 0 s.clk.qual n.val + 1 < s.fld R.CLK_QUAL_TIME)) ∧
    (∃ (s : State) (n : Fin 8) (ofs : Int), (s.bit (R.CLK_REF_CFG_EN n.val) = true) ∧ (s.sourceOk n.val = true) ∧ (s.fld (R.CLK_REF_STATUS_STATE n.val) = 2) ∧ (ofs.natAbs ≤ s.fld R.CLK_QUAL_ACCEPT_PPM * 100000) ∧ (s.fld R.CLK_QUAL_TIME ≤ FMap.get 0 s.clk.qual n.val + 1)) ∧
    (∃ (s : State) (n : Fin 8) (ofs : Int), (s.bit (R.CLK_REF_CFG_EN n.val) = true) ∧ (s.sourceOk n.val = true) ∧ (s.fld (R.CLK_REF_STATUS_STATE n.val) = 3) ∧ (s.fld R.CLK_QUAL_REJECT_PPM * 100000 < ofs.natAbs)) ∧
    (∃ (s : State) (n : Fin 8), (s.bit (R.CLK_REF_CFG_EN n.val) = true) ∧ (s.sourceOk n.val = false) ∧ (s.fld (R.CLK_REF_STATUS_STATE n.val) = 2 ∨ s.fld (R.CLK_REF_STATUS_STATE n.val) = 3)) ∧
    (∃ (s : State) (n : Fin 8), (s.bit (R.CLK_REF_STATUS_WTR n.val) = false)) ∧
    (∃ (s : State) (n : Fin 8), (s.bit (R.CLK_REF_STATUS_WTR n.val) = true) ∧ (s.fld R.CLK_STATUS_STATE = 3)) ∧
    (∃ (s : State) (n : Fin 8), (s.bit (R.CLK_REF_STATUS_WTR n.val) = true) ∧ (s.fld R.CLK_STATUS_STATE ≠ 3)) ∧
    (∃ (s : State) (n : Fin 8) (falling : Bool), (s.bit (R.CLK_REF_CFG_EN n.val) = false ∨ (n.val < 4 ∧ s.bit (R.CLK_REF_CFG_EDGE n.val) ≠ falling))) ∧
    (∃ (s : State) (n : Fin 8) (falling : Bool) (period : Nat), (s.bit (R.CLK_REF_CFG_EN n.val) = true) ∧ (n.val < 4 → s.bit (R.CLK_REF_CFG_EDGE n.val) = falling) ∧ (s.glitchy n.val period = true) ∧ (s.fld (R.CLK_REF_STATUS_STATE n.val) = 2 ∨ s.fld (R.CLK_REF_STATUS_STATE n.val) = 3) ∧ (s.clk.quiet.contains n.val = false)) ∧
    (∃ (s : State) (n : Fin 8) (falling : Bool) (period : Nat), (s.bit (R.CLK_REF_CFG_EN n.val) = true) ∧ (n.val < 4 → s.bit (R.CLK_REF_CFG_EDGE n.val) = falling) ∧ (s.glitchy n.val period = false) ∧ (s.fld (R.CLK_REF_STATUS_STATE n.val) = 1) ∧ (s.sourceOk n.val = true)) ∧
    (∃ (s : State) (n : Fin 8) (falling : Bool) (period : Nat), (s.bit (R.CLK_REF_CFG_EN n.val) = true) ∧ (n.val < 4 → s.bit (R.CLK_REF_CFG_EDGE n.val) = falling) ∧ (s.glitchy n.val period = false) ∧ (s.fld (R.CLK_REF_STATUS_STATE n.val) ≠ 1) ∧ (FMap.get 0 s.clk.edges n.val + 1 < s.refDiv n.val)) ∧
    (∃ (s : State) (n : Fin 8) (falling : Bool) (period : Nat) (err : Int), (s.bit (R.CLK_REF_CFG_EN n.val) = true) ∧ (n.val < 4 → s.bit (R.CLK_REF_CFG_EDGE n.val) = falling) ∧ (s.glitchy n.val period = false) ∧ (s.fld (R.CLK_REF_STATUS_STATE n.val) = 3) ∧ (s.refDiv n.val ≤ FMap.get 0 s.clk.edges n.val + 1) ∧ (s.bit R.CLK_STATUS_SEL_VALID = true) ∧ (s.fld R.CLK_STATUS_SEL_REF = n.val) ∧ (s.fld R.CLK_STATUS_STATE = 1 ∨ s.fld R.CLK_STATUS_STATE = 2) ∧ (err.natAbs ≤ s.fld R.CLK_LOCK_UNLOCK_NS * 1000)) ∧
    (∃ (s : State) (n : Fin 8) (falling : Bool) (period : Nat) (err : Int), (s.bit (R.CLK_REF_CFG_EN n.val) = true) ∧ (n.val < 4 → s.bit (R.CLK_REF_CFG_EDGE n.val) = falling) ∧ (s.glitchy n.val period = false) ∧ (s.fld (R.CLK_REF_STATUS_STATE n.val) = 3) ∧ (s.refDiv n.val ≤ FMap.get 0 s.clk.edges n.val + 1) ∧ (s.bit R.CLK_STATUS_SEL_VALID = true) ∧ (s.fld R.CLK_STATUS_SEL_REF = n.val) ∧ (s.fld R.CLK_STATUS_STATE = 1 ∨ s.fld R.CLK_STATUS_STATE = 2) ∧ (s.fld R.CLK_LOCK_UNLOCK_NS * 1000 < err.natAbs) ∧ (s.clk.unlock < 2)) ∧
    (∃ (s : State) (n : Fin 8) (falling : Bool) (period : Nat) (err : Int), (s.bit (R.CLK_REF_CFG_EN n.val) = true) ∧ (n.val < 4 → s.bit (R.CLK_REF_CFG_EDGE n.val) = falling) ∧ (s.glitchy n.val period = false) ∧ (s.fld (R.CLK_REF_STATUS_STATE n.val) = 3) ∧ (s.refDiv n.val ≤ FMap.get 0 s.clk.edges n.val + 1) ∧ (s.bit R.CLK_STATUS_SEL_VALID = true) ∧ (s.fld R.CLK_STATUS_SEL_REF = n.val) ∧ (s.fld R.CLK_STATUS_STATE = 1 ∨ s.fld R.CLK_STATUS_STATE = 2) ∧ (s.fld R.CLK_LOCK_UNLOCK_NS * 1000 < err.natAbs) ∧ (s.clk.unlock = 2)) ∧
    (∃ (s : State) (n : Fin 8) (falling : Bool) (period : Nat), (s.bit (R.CLK_REF_CFG_EN n.val) = true) ∧ (n.val < 4 → s.bit (R.CLK_REF_CFG_EDGE n.val) = falling) ∧ (s.glitchy n.val period = false) ∧ (s.fld (R.CLK_REF_STATUS_STATE n.val) = 3) ∧ (s.refDiv n.val ≤ FMap.get 0 s.clk.edges n.val + 1) ∧ (s.bit R.CLK_STATUS_SEL_VALID = true) ∧ (s.fld R.CLK_STATUS_SEL_REF = n.val) ∧ (s.fld R.CLK_STATUS_STATE = 3) ∧ (s.clk.swEdges < 2)) ∧
    (∃ (s : State) (n : Fin 8) (falling : Bool) (period : Nat), (s.bit (R.CLK_REF_CFG_EN n.val) = true) ∧ (n.val < 4 → s.bit (R.CLK_REF_CFG_EDGE n.val) = falling) ∧ (s.glitchy n.val period = false) ∧ (s.fld (R.CLK_REF_STATUS_STATE n.val) = 3) ∧ (s.refDiv n.val ≤ FMap.get 0 s.clk.edges n.val + 1) ∧ (s.bit R.CLK_STATUS_SEL_VALID = true) ∧ (s.fld R.CLK_STATUS_SEL_REF = n.val) ∧ (s.fld R.CLK_STATUS_STATE = 3) ∧ (s.clk.swEdges = 2) ∧ (s.clk.auto = false) ∧ (s.clk.prev = 1 ∨ s.clk.prev = 2)) :=
  ⟨⟨(st [((R.CLK_REF_STATUS_STATE (0 : Fin 8).val), 2)]), (0), by decide⟩,
   ⟨(st [((R.CLK_REF_STATUS_STATE (4 : Fin 8).val), 2)]), (4), by decide⟩,
   ⟨(State.reset), (0), by decide⟩,
   ⟨(State.reset), (0), by decide⟩,
   ⟨(st [((R.CLK_REF_CFG_EN (0 : Fin 8).val), 0)]), (0), by decide⟩,
   ⟨(st [((R.CLK_REF_CFG_EN (0 : Fin 8).val), 1), ((R.CLK_REF_STATUS_STATE (0 : Fin 8).val), 2)]), (0), (100000000), by decide⟩,
   ⟨(st [((R.CLK_REF_CFG_EN (0 : Fin 8).val), 1), ((R.CLK_REF_STATUS_STATE (0 : Fin 8).val), 2), (R.CLK_QUAL_TIME, 10)]), (0), (0), by decide⟩,
   ⟨(st [((R.CLK_REF_CFG_EN (0 : Fin 8).val), 1), ((R.CLK_REF_STATUS_STATE (0 : Fin 8).val), 2)]), (0), (0), by decide⟩,
   ⟨(st [((R.CLK_REF_CFG_EN (0 : Fin 8).val), 1), ((R.CLK_REF_STATUS_STATE (0 : Fin 8).val), 3)]), (0), (100000000), by decide⟩,
   ⟨(st [((R.CLK_REF_CFG_EN (4 : Fin 8).val), 1), ((R.CLK_REF_STATUS_STATE (4 : Fin 8).val), 2)]), (4), by decide⟩,
   ⟨(st [((R.CLK_REF_STATUS_WTR (0 : Fin 8).val), 0)]), (0), by decide⟩,
   ⟨(st [((R.CLK_REF_STATUS_WTR (0 : Fin 8).val), 1), (R.CLK_STATUS_STATE, 3)]), (0), by decide⟩,
   ⟨(st [((R.CLK_REF_STATUS_WTR (0 : Fin 8).val), 1)]), (0), by decide⟩,
   ⟨(st [((R.CLK_REF_CFG_EN (0 : Fin 8).val), 0)]), (0), (false), by decide⟩,
   ⟨(st [((R.CLK_REF_CFG_EN (0 : Fin 8).val), 1), ((R.CLK_REF_STATUS_STATE (0 : Fin 8).val), 2)]), (0), (false), (1), by decide⟩,
   ⟨(st [((R.CLK_REF_CFG_EN (0 : Fin 8).val), 1), ((R.CLK_REF_STATUS_STATE (0 : Fin 8).val), 1)]), (0), (false), (0), by decide⟩,
   ⟨(st [((R.CLK_REF_CFG_EN (0 : Fin 8).val), 1)]), (0), (false), (0), by decide⟩,
   ⟨({ st [((R.CLK_REF_CFG_EN (0 : Fin 8).val), 1), ((R.CLK_REF_STATUS_STATE (0 : Fin 8).val), 3), (R.CLK_STATUS_SEL_VALID, 1), (R.CLK_STATUS_SEL_REF, (0 : Fin 8).val), (R.CLK_STATUS_STATE, 1)] with clk := { ClkSt.reset with edges := [(0, 3)] } }), (0), (false), (0), (0), by decide⟩,
   ⟨({ st [((R.CLK_REF_CFG_EN (0 : Fin 8).val), 1), ((R.CLK_REF_STATUS_STATE (0 : Fin 8).val), 3), (R.CLK_STATUS_SEL_VALID, 1), (R.CLK_STATUS_SEL_REF, (0 : Fin 8).val), (R.CLK_STATUS_STATE, 1)] with clk := { ClkSt.reset with edges := [(0, 3)] } }), (0), (false), (0), (100000000), by decide⟩,
   ⟨({ st [((R.CLK_REF_CFG_EN (0 : Fin 8).val), 1), ((R.CLK_REF_STATUS_STATE (0 : Fin 8).val), 3), (R.CLK_STATUS_SEL_VALID, 1), (R.CLK_STATUS_SEL_REF, (0 : Fin 8).val), (R.CLK_STATUS_STATE, 1)] with clk := { ClkSt.reset with unlock := 2, edges := [(0, 3)] } }), (0), (false), (0), (100000000), by decide⟩,
   ⟨({ st [((R.CLK_REF_CFG_EN (0 : Fin 8).val), 1), ((R.CLK_REF_STATUS_STATE (0 : Fin 8).val), 3), (R.CLK_STATUS_SEL_VALID, 1), (R.CLK_STATUS_SEL_REF, (0 : Fin 8).val), (R.CLK_STATUS_STATE, 3)] with clk := { ClkSt.reset with edges := [(0, 3)] } }), (0), (false), (0), by decide⟩,
   ⟨({ st [((R.CLK_REF_CFG_EN (0 : Fin 8).val), 1), ((R.CLK_REF_STATUS_STATE (0 : Fin 8).val), 3), (R.CLK_STATUS_SEL_VALID, 1), (R.CLK_STATUS_SEL_REF, (0 : Fin 8).val), (R.CLK_STATUS_STATE, 3)] with clk := { ClkSt.reset with swEdges := 2, auto := false, prev := 1, edges := [(0, 3)] } }), (0), (false), (0), by decide⟩⟩

/-- States and operands that meet the hypotheses of every clause of LoopCommands. -/
theorem witness_LoopCommands :
    (∃ (s : State), (s.fld R.CLK_STATUS_STATE ≠ 1 ∨ s.dwellMet = false)) ∧
    (∃ (s : State), (s.fld R.CLK_STATUS_STATE = 1) ∧ (s.dwellMet = true) ∧ (s.fld R.CLK_STATUS_STAGE < 3)) ∧
    (∃ (s : State), (s.domOn 1 = true) ∧ (s.fld R.CLK_STATUS_STATE = 3)) ∧
    (∃ (s : State), (s.domOn 1 = true) ∧ (s.fld R.CLK_STATUS_STATE ≠ 3)) ∧
    (∃ (s : State), (s.bit R.CLK_STATUS_ALIGNING = false)) ∧
    (∃ (s : State), (s.bit R.CLK_STATUS_ALIGNING = true) ∧ (s.clk.auto = false) ∧ (s.fld R.CLK_BUILDOUT ≠ 0) ∧ (s.bit R.TICK_STATUS_RUNNING = true)) ∧
    (∃ (s : State), (s.clk.auto = true) ∧ (s.bit R.TIME_STATUS_SLEWING = true) ∧ (s.slewStep.natAbs < s.ptp.resid.natAbs)) ∧
    (∃ (s : State), (s.bit R.CLK_STATUS_ALIGNING = true) ∧ (s.clk.auto = false) ∧ (s.fld R.CLK_BUILDOUT = 0 ∨ s.bit R.TICK_STATUS_RUNNING = false)) ∧
    (∃ (s : State), (s.domOn 1 = true) ∧ (s.clk.model = true)) ∧
    (∃ (s : State), (s.domOn 1 = true) ∧ (s.clk.model = false)) ∧
    (∃ (s : State), (s.fld R.CLK_STATUS_STATE ≠ 4)) ∧
    (∃ (s : State), (s.fld R.CLK_STATUS_STATE = 4) ∧ (s.bit R.CLK_CTRL_FORCE = true) ∧ (s.fld R.CLK_CTRL_FORCE_REF < 8) ∧ (s.fld (R.CLK_REF_STATUS_STATE (s.fld R.CLK_CTRL_FORCE_REF)) ≠ 3) ∧ (s.fld R.CLK_HO_TIME < 0xFFFFFFFF) ∧ (s.bit R.CLK_HO_KT_VALID = false) ∧ (s.bit R.CLK_HO_AGE_VALID = false)) ∧
    (∃ (s : State), (s.fld R.CLK_STATUS_STATE ≠ 2)) ∧
    (∃ (s : State), (s.fld R.CLK_STATUS_STATE = 2)) ∧
    (∃ (s : State), (s.fld R.CLK_STATUS_STATE ≠ 2 ∨ s.bit R.CLK_CTRL_LEARN_AGE = false ∨ s.clk.minutes < 1440)) ∧
    (∃ (s : State), (s.fld R.CLK_STATUS_STATE = 2) ∧ (s.bit R.CLK_CTRL_LEARN_AGE = true) ∧ (1440 ≤ s.clk.minutes)) ∧
    (∃ (s : State), (s.domOn 1 = true)) :=
  ⟨⟨(State.reset), by decide⟩,
   ⟨({ st [(R.CLK_STATUS_STATE, 1)] with clk := { ClkSt.reset with calm := 10 ^ 12 } }), by decide⟩,
   ⟨(st [(R.PWR_DOM_STATUS_ON, 4095), (R.CLK_STATUS_STATE, 3)]), by decide⟩,
   ⟨(st [(R.PWR_DOM_STATUS_ON, 4095)]), by decide⟩,
   ⟨(st [(R.CLK_STATUS_ALIGNING, 0)]), by decide⟩,
   ⟨({ st [(R.CLK_STATUS_ALIGNING, 1), (R.CLK_BUILDOUT, 1), (R.TICK_STATUS_RUNNING, 1)] with clk := { ClkSt.reset with auto := false } }), by decide⟩,
   ⟨({ st [(R.TIME_STATUS_SLEWING, 1)] with clk := { ClkSt.reset with auto := true }, ptp := { PtpSt.reset with resid := 10 ^ 15 } }), by decide⟩,
   ⟨({ st [(R.CLK_STATUS_ALIGNING, 1), (R.CLK_BUILDOUT, 0)] with clk := { ClkSt.reset with auto := false } }), by decide⟩,
   ⟨({ st [(R.PWR_DOM_STATUS_ON, 4095)] with clk := { ClkSt.reset with model := true } }), by decide⟩,
   ⟨({ st [(R.PWR_DOM_STATUS_ON, 4095)] with clk := { ClkSt.reset with model := false } }), by decide⟩,
   ⟨(State.reset), by decide⟩,
   ⟨(st [(R.CLK_STATUS_STATE, 4), (R.CLK_CTRL_FORCE, 1), (R.CLK_HO_KT_VALID, 0), (R.CLK_HO_AGE_VALID, 0)]), by decide⟩,
   ⟨(State.reset), by decide⟩,
   ⟨(st [(R.CLK_STATUS_STATE, 2)]), by decide⟩,
   ⟨(State.reset), by decide⟩,
   ⟨({ st [(R.CLK_STATUS_STATE, 2), (R.CLK_CTRL_LEARN_AGE, 1)] with clk := { ClkSt.reset with minutes := 1440 } }), by decide⟩,
   ⟨(st [(R.PWR_DOM_STATUS_ON, 4095)]), by decide⟩⟩

/-- States and operands that meet the hypotheses of every clause of ClockFaultsAndOutputs. -/
theorem witness_ClockFaultsAndOutputs :
    (∃ (s : State), (s.bit R.CLK_STATUS_XO_FAIL = true)) ∧
    (∃ (s : State), (s.bit R.CLK_STATUS_XO_FAIL = false)) ∧
    (∃ (s : State), (s.domOn 1 = true)) ∧
    (∃ (s : State) (hi : Word) (n : Nat), (s.domOn 1 = true) ∧ (n = s.fld R.CLK_OUT_ALIGN_AT_LO + hi.toNat * 0x100000000) ∧ (n < s.tick.num + 2)) ∧
    (∃ (s : State) (hi : Word) (n : Nat), (s.domOn 1 = true) ∧ (n = s.fld R.CLK_OUT_ALIGN_AT_LO + hi.toNat * 0x100000000) ∧ (s.tick.num + 2 ≤ n)) :=
  ⟨⟨(st [(R.CLK_STATUS_XO_FAIL, 1)]), by decide⟩,
   ⟨(st [(R.CLK_STATUS_XO_FAIL, 0)]), by decide⟩,
   ⟨(st [(R.PWR_DOM_STATUS_ON, 4095)]), by decide⟩,
   ⟨(st [(R.PWR_DOM_STATUS_ON, 4095)]), (0), (0), by decide⟩,
   ⟨(st [(R.PWR_DOM_STATUS_ON, 4095), (R.CLK_OUT_ALIGN_AT_LO, 2)]), (0), (2), by decide⟩⟩

/-- States and operands that meet the hypotheses of every clause of PairCommands. -/
theorem witness_PairCommands :
    (∃ (s : State) (on : Bool), (s.pairEn = on)) ∧
    (∃ (s : State) (on : Bool), (s.pairEn ≠ on) ∧ (s.bit R.TICK_CTRL_RUN = true)) ∧
    (∃ (s : State), (s.pairEn = false) ∧ (s.pairFits = false)) ∧
    (∃ (s : State), (s.pairEn = false) ∧ (s.bit R.TICK_CTRL_RUN = false) ∧ (s.pairFits = true)) ∧
    (∃ (s : State), (s.pairEn = true) ∧ (s.bit R.TICK_CTRL_RUN = false)) ∧
    (∃ (s : State), (s.pairEn = false)) ∧
    (∃ (s : State), (s.pairState ≠ 4)) ∧
    (∃ (s : State), (s.pairEn = true) ∧ (s.pairState = 4)) ∧
    (∃ (s : State), (s.pairEn = true) ∧ (s.pairState ≠ 0) ∧ (s.pathAUp = false)) ∧
    (∃ (s : State), (s.pairEn = true) ∧ (s.pairState = 2) ∧ (s.pathAUp = true) ∧ (s.holdsClaim = false) ∧ (s.pairSynced = true) ∧ (s.pair.hand = none) ∧ (s.pair.transfer = false) ∧ (s.pair.sender = false)) ∧
    (∃ (s : State), (s.pairEn = true) ∧ (s.pairState = 2) ∧ (s.pathAUp = true) ∧ (s.holdsClaim = false) ∧ (s.pair.transfer = false) ∧ (s.rbufOk = true) ∧ (s.bit R.PAIR_STATUS_EPOCH_DIFF = false)) :=
  ⟨⟨(State.reset), (false), by decide⟩,
   ⟨(st [(R.TICK_CTRL_RUN, 1)]), (true), by decide⟩,
   ⟨({ State.reset with img := { ImgSt.reset with slotA := some { img0 with declMax := 100000 } } }), by decide⟩,
   ⟨(st [(R.PAIR_CTRL_EN, 0), (R.TICK_CTRL_RUN, 0)]), by decide⟩,
   ⟨(st [(R.PAIR_CTRL_EN, 1), (R.TICK_CTRL_RUN, 0)]), by decide⟩,
   ⟨(st [(R.PAIR_CTRL_EN, 0)]), by decide⟩,
   ⟨(State.reset), by decide⟩,
   ⟨(st [(R.PAIR_CTRL_EN, 1), (R.PAIR_STATUS_STATE, 4)]), by decide⟩,
   ⟨(st [(R.PAIR_CTRL_EN, 1), (R.PAIR_STATUS_STATE, 1), (R.PAIR_STATUS_TWIN_UP, 0)]), by decide⟩,
   ⟨({ st [(R.PAIR_CTRL_EN, 1), (R.PAIR_STATUS_STATE, 2), (R.PAIR_STATUS_TWIN_UP, 1), (R.PAIR_STATUS_CLAIM_HELD, 0), (R.PAIR_STATUS_SYNCED, 1)] with pair := { PairSt.zero with hand := none, transfer := false, sender := false } }), by decide⟩,
   ⟨({ st [(R.PAIR_CTRL_EN, 1), (R.PAIR_STATUS_STATE, 2), (R.PAIR_STATUS_TWIN_UP, 1), (R.PAIR_STATUS_CLAIM_HELD, 0), (R.PAIR_STATUS_EPOCH_DIFF, 0), (R.PAIR_RBUF_SIZE, 416)] with pair := { PairSt.zero with transfer := false } }), by decide⟩⟩

/-- States and operands that meet the hypotheses of every clause of PairHeartbeatsAndClaim. -/
theorem witness_PairHeartbeatsAndClaim :
    (∃ (s : State) (l : List Byte), (s.pairEn = false ∨ s.beatParse l = none)) ∧
    (∃ (s : State), (s.pair.inbox = [])) ∧
    (∃ (s : State) (f : RxFrame) (r : List RxFrame) (b : Beat), (s.pair.inbox = f :: r) ∧ (s.pairEn = true) ∧ (s.pathAUp = true) ∧ (s.beatParse ((f.bytes.drop (parseHdr f.bytes).off).take 48) = some b)) ∧
    (∃ (s : State) (l : List Byte) (b : Beat), (s.pairEn = true) ∧ (s.twinMode = true) ∧ (s.chainUp 0 = true) ∧ (s.beatParse l = some b) ∧ (s.pairState = 1) ∧ (b.req = 0) ∧ (b.epoch = s.reg64 R.IMG_EPOCH_LO R.IMG_EPOCH_HI) ∧ (s.digestFor b.tick = none)) ∧
    (∃ (s : State), (s.pairEn = true) ∧ (3 ≤ s.pair.pathB.miss) ∧ (s.pathBUp = true)) ∧
    (∃ (s : State), (s.pairEn = true) ∧ (3 ≤ s.pair.pathA.miss) ∧ (s.pathAUp = true) ∧ (s.pair.transfer = false) ∧ (s.holdsClaim = false) ∧ (s.pair.initiator = false) ∧ (s.pairState = 2) ∧ (s.pathBUp = true)) ∧
    (∃ (s : State) (pathB : Bool), (s.pairEn = false ∨ (if pathB then s.pair.pathB.miss else s.pair.pathA.miss) < 3 ∨ (if pathB then s.pathBUp else s.pathAUp) = false)) ∧
    (∃ (s : State), (s.pairEn = false)) ∧
    (∃ (s : State), (s.pairEn = true) ∧ (s.pairState = 2 ∨ s.pairState = 3) ∧ (s.holdsClaim = false) ∧ (s.pair.claimNext = false) ∧ (s.pair.relTick ≠ s.tick.num + 1)) ∧
    (∃ (s : State), (s.pairEn = true) ∧ (s.pairState = 2 ∨ s.pairState = 3) ∧ (s.holdsClaim = false) ∧ (s.pair.claimNext = false) ∧ (s.pathAUp = false) ∧ (s.pathBUp = false)) :=
  ⟨⟨(st [(R.PAIR_CTRL_EN, 0)]), ([]), by decide⟩,
   ⟨({ State.reset with pair := { PairSt.zero with inbox := [] } }), by decide⟩,
   ⟨({ st [(R.PAIR_CTRL_EN, 1), (R.PAIR_STATUS_TWIN_UP, 1)] with pair := { PairSt.zero with inbox := [beatFrame] }, tick := { TickSt.reset with num := 1 } }), (beatFrame), ([]), (beat0), ⟨rfl, by decide, by decide, by decide +kernel⟩⟩,
   ⟨({ st [(R.PAIR_CTRL_EN, 1), (R.PAIR_STATUS_STATE, 1), (R.CHAIN_STATUS, 7)] with tick := { TickSt.reset with num := 1 } }), (beatBytes), (beat0), ⟨by decide, by decide, by decide, by decide +kernel, by decide, rfl, by decide, by decide⟩⟩,
   ⟨(st [(R.PAIR_CTRL_EN, 1), (R.PAIR_STATUS_PATHB_UP, 1)]), by decide⟩,
   ⟨({ st [(R.PAIR_CTRL_EN, 1), (R.PAIR_STATUS_TWIN_UP, 1), (R.PAIR_STATUS_CLAIM_HELD, 0), (R.PAIR_STATUS_STATE, 2), (R.PAIR_STATUS_PATHB_UP, 1)] with pair := { PairSt.zero with transfer := false, initiator := false } }), by decide⟩,
   ⟨(st [(R.PAIR_CTRL_EN, 0)]), (false), by decide⟩,
   ⟨(st [(R.PAIR_CTRL_EN, 0)]), by decide⟩,
   ⟨({ st [(R.PAIR_CTRL_EN, 1), (R.PAIR_STATUS_STATE, 2), (R.PAIR_STATUS_CLAIM_HELD, 0)] with pair := { PairSt.zero with claimNext := false } }), by decide⟩,
   ⟨({ st [(R.PAIR_CTRL_EN, 1), (R.PAIR_STATUS_STATE, 2), (R.PAIR_STATUS_CLAIM_HELD, 0), (R.PAIR_STATUS_TWIN_UP, 0), (R.PAIR_STATUS_PATHB_UP, 0)] with pair := { PairSt.zero with claimNext := false } }), by decide⟩⟩

/-- States and operands that meet the hypotheses of every clause of PairResyncAndHandover. -/
theorem witness_PairResyncAndHandover :
    (∃ (s : State), (s.pair.transfer = true) ∧ (s.pair.replaying = false) ∧ (s.pathAUp = true)) ∧
    (∃ (s : State), (s.pair.transfer = false ∨ s.pair.replaying = true ∨ s.pathAUp = false)) ∧
    (∃ (s : State), (s.pair.buffer = [] ∨ s.pair.replaying = false)) ∧
    (∃ (s : State) (c : Captured) (r : List Captured), (s.pair.buffer = c :: r) ∧ (s.pair.replaying = true)) ∧
    (∃ (s : State), (s.pair.beat = none ∨ s.pairEn = false ∨ s.pair.transfer = false ∨ s.fld R.PAIR_SETTLE_LEFT ≠ 0)) ∧
    (∃ (s : State) (b : Beat), (s.pair.beat = some b) ∧ (s.pairEn = true) ∧ (s.pairState = 1) ∧ (s.pair.transfer = true) ∧ (s.pair.loaded = true) ∧ (s.pair.recording = false) ∧ (s.pair.commanded = false) ∧ (s.pair.compared ≤ b.tick) ∧ (s.fld R.PAIR_SETTLE_LEFT = 0) ∧ (b.epoch = s.reg64 R.IMG_EPOCH_LO R.IMG_EPOCH_HI) ∧ (b.settle = 0) ∧ (s.digestFor b.tick = some b.digest)) ∧
    (∃ (s : State), (s.pairEn = true) ∧ (s.pairState = 1) ∧ (s.pair.asked = true) ∧ (s.pair.transfer = false) ∧ (s.pair.retry = 0) ∧ (s.pathAUp = true) ∧ (s.bit R.PAIR_STATUS_RESYNC_STOPPED = false) ∧ (s.bit R.PAIR_CTRL_AUTO_RESYNC = true) ∧ (s.bit R.PAIR_STATUS_EPOCH_DIFF = false) ∧ (s.rbufOk = true)) ∧
    (∃ (s : State), (s.pair.asked = false ∨ s.pair.retry ≠ 0 ∨ s.bit R.PAIR_STATUS_RESYNC_STOPPED = true)) ∧
    (∃ (s : State), (s.pair.handRel = false)) ∧
    (∃ (s : State), (s.pair.handRel = true)) ∧
    (∃ (s : State), (s.mayRevert = true) ∧ (s.pairEn = true) ∧ (s.fld R.PAIR_WTR_LEFT = 0) ∧ (s.pathAUp = true) ∧ (s.pair.hand = none) ∧ (s.pair.wtrRetry = 0) ∧ (s.pair.transfer = false)) ∧
    (∃ (s : State), (s.mayRevert = false ∨ s.fld R.PAIR_WTR_LEFT ≠ 0)) :=
  ⟨⟨({ st [(R.PAIR_STATUS_TWIN_UP, 1)] with pair := { PairSt.zero with transfer := true, replaying := false } }), by decide⟩,
   ⟨({ State.reset with pair := { PairSt.zero with transfer := false } }), by decide⟩,
   ⟨({ State.reset with pair := { PairSt.zero with buffer := [] } }), by decide⟩,
   ⟨({ State.reset with pair := { PairSt.zero with buffer := [⟨0, []⟩], replaying := true } }), (⟨0, []⟩), ([]), by decide⟩,
   ⟨({ State.reset with pair := { PairSt.zero with beat := none } }), by decide⟩,
   ⟨({ st [(R.PAIR_CTRL_EN, 1), (R.PAIR_STATUS_STATE, 1), (R.PAIR_SETTLE_LEFT, 0)] with pair := { PairSt.zero with beat := some ⟨1, false, false, false, false, 5, 9, 0, 0, 0, 0⟩, transfer := true, loaded := true }, tick := { TickSt.reset with past := [(5, 9, true)] } }), (⟨1, false, false, false, false, 5, 9, 0, 0, 0, 0⟩), by decide⟩,
   ⟨({ st [(R.PAIR_CTRL_EN, 1), (R.PAIR_STATUS_STATE, 1), (R.PAIR_STATUS_TWIN_UP, 1), (R.PAIR_STATUS_RESYNC_STOPPED, 0), (R.PAIR_CTRL_AUTO_RESYNC, 1), (R.PAIR_STATUS_EPOCH_DIFF, 0), (R.PAIR_RBUF_SIZE, 416)] with pair := { PairSt.zero with asked := true, transfer := false, retry := 0 } }), by decide⟩,
   ⟨({ State.reset with pair := { PairSt.zero with asked := false } }), by decide⟩,
   ⟨({ State.reset with pair := { PairSt.zero with handRel := false } }), by decide⟩,
   ⟨({ State.reset with pair := { PairSt.zero with handRel := true } }), by decide⟩,
   ⟨({ st [(R.PAIR_CTRL_EN, 1), (R.PAIR_WTR_LEFT, 0), (R.PAIR_STATUS_TWIN_UP, 1), (R.PAIR_CTRL_REVERT, 1), (R.PAIR_STATUS_STATE, 2), (R.PAIR_STATUS_SYNCED, 1)] with pair := { PairSt.zero with hand := none, wtrRetry := 0, transfer := false } }), by decide⟩,
   ⟨(State.reset), by decide⟩⟩

/-- States and operands that meet the hypotheses of every clause of ChainTraining. -/
theorem witness_ChainTraining :
    (∃ (s : State) (p : Fin 3), (s.domOn 9 = true) ∧ (bitOf (s.fld R.CHAIN_CTRL_EN) p.val = false)) ∧
    (∃ (s : State) (p : Fin 3), (s.tstate p.val = 1)) ∧
    (∃ (s : State) (p : Fin 3), (s.tstate p.val ≠ 1)) ∧
    (∃ (s : State) (p : Fin 3) (skew : Nat), (s.tstate p.val = 2) ∧ (s.fld (R.CHAIN_P_TRAIN_CNT p.val) < 0xFFFFFFFF) ∧ (skew ≤ 40)) ∧
    (∃ (s : State) (p : Fin 3) (skew : Nat), (s.tstate p.val = 2) ∧ (s.fld (R.CHAIN_P_TRAIN_CNT p.val) < 0xFFFFFFFF) ∧ (40 < skew)) ∧
    (∃ (s : State) (p : Fin 3), (s.tstate p.val = 3)) ∧
    (∃ (s : State) (p : Fin 3), (s.tstate p.val ≠ 3)) ∧
    (∃ (s : State) (p : Fin 3) (l : List Byte) (b : List Byte), (ctrlParse l = some (1, b)) ∧ (s.tstate p.val = 3) ∧ (s.linkCheck p.val b = 0) ∧ ((s.chainPort p.val).linkGood < 15)) ∧
    (∃ (s : State) (p : Fin 3) (l : List Byte) (b : List Byte), (ctrlParse l = some (1, b)) ∧ (s.tstate p.val = 3) ∧ (s.linkCheck p.val b = 0) ∧ (15 ≤ (s.chainPort p.val).linkGood)) ∧
    (∃ (s : State) (p : Fin 3) (l : List Byte) (b : List Byte), (ctrlParse l = some (1, b)) ∧ (s.tstate p.val = 3) ∧ (s.linkCheck p.val b ≠ 0) ∧ (s.fld (R.CHAIN_P_TRAIN_CNT p.val) < 0xFFFFFFFF)) ∧
    (∃ (s : State) (p : Fin 3), (s.tstate p.val < 3)) ∧
    (∃ (s : State) (p : Fin 3) (l : List Byte), (3 ≤ s.tstate p.val) ∧ (ctrlParse l = none) ∧ (s.fld (R.CHAIN_P_BALE_ERR p.val) < 0xFFFFFFFF)) ∧
    (∃ (s : State) (p : Fin 3), (s.fld (R.CHAIN_P_TRAIN_CNT p.val) < 0xFFFFFFFF) ∧ (1 ≤ s.tstate p.val) ∧ (s.tstate p.val ≤ 3)) ∧
    (∃ (s : State) (p : Fin 3), (s.fld (R.CHAIN_P_TRAIN_CNT p.val) < 0xFFFFFFFF) ∧ (s.chainUp p.val = true) ∧ (3 ≤ (s.chainPort p.val).markMiss)) ∧
    (∃ (s : State) (p : Fin 3), (s.fld (R.CHAIN_P_TRAIN_CNT p.val) < 0xFFFFFFFF) ∧ (2 ≤ s.tstate p.val)) ∧
    (∃ (s : State) (p : Fin 3), (s.fld (R.CHAIN_P_TRAIN_CNT p.val) < 0xFFFFFFFF) ∧ (s.chainUp p.val = false ∨ (s.chainPort p.val).markMiss < 3)) ∧
    (∃ (s : State) (p : Fin 3), (s.fld (R.CHAIN_P_TRAIN_CNT p.val) < 0xFFFFFFFF) ∧ (s.tstate p.val = 0 ∨ s.tstate p.val = 4)) ∧
    (∃ (s : State) (p : Fin 3), (s.fld (R.CHAIN_P_TRAIN_CNT p.val) < 0xFFFFFFFF) ∧ (s.tstate p.val < 2)) ∧
    (∃ (s : State) (l : List Byte) (b : List Byte), (s.chainUp 1 = true) ∧ (ctrlParse l = some (2, b))) ∧
    (∃ (s : State) (p : Fin 3) (l : List Byte) (b : List Byte), (s.chainUp p.val = true) ∧ (p.val ≠ 1 ∨ s.bit (R.CLK_REF_CFG_EN 6) = false) ∧ (ctrlParse l = some (2, b))) ∧
    (∃ (s : State) (p : Fin 3), (s.chainUp p.val = false)) :=
  ⟨⟨(st [(R.PWR_DOM_STATUS_ON, 4095)]), (0), by decide⟩,
   ⟨(st [((R.CHAIN_P_STATUS_TSTATE (0 : Fin 3).val), 1)]), (0), by decide⟩,
   ⟨(State.reset), (0), by decide⟩,
   ⟨(st [((R.CHAIN_P_STATUS_TSTATE (0 : Fin 3).val), 2)]), (0), (0), by decide⟩,
   ⟨(st [((R.CHAIN_P_STATUS_TSTATE (0 : Fin 3).val), 2)]), (0), (41), by decide⟩,
   ⟨(st [((R.CHAIN_P_STATUS_TSTATE (0 : Fin 3).val), 3)]), (0), by decide⟩,
   ⟨(State.reset), (0), by decide⟩,
   ⟨(st [((R.CHAIN_P_STATUS_TSTATE (1 : Fin 3).val), 3)]), (1), (ctrlBlock 1 (leBytes 4 0 ++ [2, 0])), (leBytes 4 0 ++ [2, 0]), by decide +kernel⟩,
   ⟨({ st [((R.CHAIN_P_STATUS_TSTATE (1 : Fin 3).val), 3)] with chain := { ChainSt.reset with ports := [((1 : Fin 3).val, { ChainPort.zero with linkGood := 15 })] } }), (1), (ctrlBlock 1 (leBytes 4 0 ++ [2, 0])), (leBytes 4 0 ++ [2, 0]), by decide +kernel⟩,
   ⟨(st [((R.CHAIN_P_STATUS_TSTATE (0 : Fin 3).val), 3)]), (0), (ctrlBlock 1 (leBytes 4 0 ++ [2, 0])), (leBytes 4 0 ++ [2, 0]), by decide +kernel⟩,
   ⟨(State.reset), (0), by decide⟩,
   ⟨(st [((R.CHAIN_P_STATUS_TSTATE (0 : Fin 3).val), 3)]), (0), ([]), by decide⟩,
   ⟨(st [((R.CHAIN_P_STATUS_TSTATE (0 : Fin 3).val), 1)]), (0), by decide⟩,
   ⟨({ st [(R.CHAIN_STATUS, 7)] with chain := { ChainSt.reset with ports := [((0 : Fin 3).val, { ChainPort.zero with markMiss := 3 })] } }), (0), by decide⟩,
   ⟨(st [((R.CHAIN_P_STATUS_TSTATE (0 : Fin 3).val), 2)]), (0), by decide⟩,
   ⟨(State.reset), (0), by decide⟩,
   ⟨(st [((R.CHAIN_P_STATUS_TSTATE (0 : Fin 3).val), 0)]), (0), by decide⟩,
   ⟨(State.reset), (0), by decide⟩,
   ⟨(st [(R.CHAIN_STATUS, 7)]), (ctrlBlock 2 (leBytes 4 0 ++ [2, 0])), (leBytes 4 0 ++ [2, 0]), by decide +kernel⟩,
   ⟨(st [(R.CHAIN_STATUS, 7)]), (2), (ctrlBlock 2 (leBytes 4 0 ++ [2, 0])), (leBytes 4 0 ++ [2, 0]), by decide +kernel⟩,
   ⟨(State.reset), (0), by decide⟩⟩

/-- States and operands that meet the hypotheses of every clause of ChainBales. -/
theorem witness_ChainBales :
    (∃ (s : State) (p : Fin 3) (r : _) (rest : _), (s.chainUp p.val = true) ∧ (s.baleTx p.val = true) ∧ ((s.chainPort p.val).txTrail = false) ∧ (s.bit R.FCU_STATUS_SAFE = false) ∧ ((s.chainPort p.val).fwd = r :: rest)) ∧
    (∃ (s : State) (p : Fin 3) (r : _), (s.chainUp p.val = true) ∧ (s.baleTx p.val = true) ∧ ((s.chainPort p.val).txTrail = false) ∧ (s.bit R.FCU_STATUS_SAFE = false) ∧ (s.readyRun p.val = some r)) ∧
    (∃ (s : State) (p : Fin 3), (s.chainUp p.val = true) ∧ (s.baleTx p.val = true) ∧ ((s.chainPort p.val).txTrail = false) ∧ (s.bit R.FCU_STATUS_SAFE = false) ∧ (s.readyRun p.val = none)) ∧
    (∃ (s : State) (p : Fin 3), (s.chainUp p.val = true) ∧ (s.baleTx p.val = true) ∧ ((s.chainPort p.val).txTrail = false) ∧ (s.bit R.FCU_STATUS_SAFE = false) ∧ ((s.chainPort p.val).fwd = [])) ∧
    (∃ (s : State) (p : Fin 3), (s.chainUp p.val = true) ∧ (s.baleTx p.val = true) ∧ ((s.chainPort p.val).txTrail = false) ∧ (s.bit R.FCU_STATUS_SAFE = false) ∧ (s.unsent p.val = 0) ∧ ((s.chainPort p.val).fwd = []) ∧ (p.val = 0 ∨ s.chainUp 1 = false ∨ (s.chainPort 1).rxTrail = true)) ∧
    (∃ (s : State) (p : Fin 3), (s.chainUp p.val = true) ∧ (s.baleTx p.val = true) ∧ ((s.chainPort p.val).txTrail = false) ∧ (s.bit R.FCU_STATUS_SAFE = false) ∧ (0 < s.unsent p.val)) ∧
    (∃ (s : State) (p : Fin 3), (s.chainUp p.val = true) ∧ (s.baleTx p.val = true) ∧ ((s.chainPort p.val).txTrail = false) ∧ (s.bit R.FCU_STATUS_SAFE = false) ∧ (s.fld (R.CHAIN_P_ABANDON p.val) + s.unsent p.val + (s.chainPort p.val).fwd.length < 0x100000000)) ∧
    (∃ (s : State) (p : Fin 3), (s.chainUp p.val = false)) ∧
    (∃ (s : State) (p : Fin 3), (s.chainUp p.val = false)) ∧
    (∃ (s : State) (p : Fin 3), (s.chainUp p.val = false)) ∧
    (∃ (s : State) (p : Fin 3), (s.chainUp p.val = false)) ∧
    (∃ (s : State) (p : Fin 3) (l : List Byte), (s.chainUp p.val = true) ∧ (s.baleRx p.val = true) ∧ ((s.chainPort p.val).rxErr = false) ∧ (s.fld (R.CHAIN_P_BALE_ERR p.val) < 0xFFFFFFFF) ∧ (l.length = 32) ∧ (leAt l 0x1C 4 = crc32c (l.take 0x1C)) ∧ (leAt l 0 2 = 0x5642) ∧ (leAt l 8 8 = s.tick.num)) ∧
    (∃ (s : State) (p : Fin 3) (l : List Byte), (s.chainUp p.val = true) ∧ (s.baleRx p.val = true) ∧ ((s.chainPort p.val).rxErr = false) ∧ (s.fld (R.CHAIN_P_BALE_ERR p.val) < 0xFFFFFFFF) ∧ (l.length ≠ 32)) ∧
    (∃ (s : State) (p : Fin 3) (l : List Byte), (s.chainUp p.val = true) ∧ (s.baleRx p.val = true) ∧ ((s.chainPort p.val).rxErr = false) ∧ (s.fld (R.CHAIN_P_BALE_ERR p.val) < 0xFFFFFFFF) ∧ (runParse s.nsmp l = none) ∧ (s.fld (R.CHAIN_P_RUN_ERR p.val) < 0xFFFFFFFF)) ∧
    (∃ (s : State) (p : Fin 3) (l : List Byte) (r : _), (s.chainUp p.val = true) ∧ (s.baleRx p.val = true) ∧ ((s.chainPort p.val).rxErr = false) ∧ (s.fld (R.CHAIN_P_BALE_ERR p.val) < 0xFFFFFFFF) ∧ (runParse s.nsmp l = some r)) ∧
    (∃ (s : State) (p : Fin 3) (l : List Byte) (r : _), (s.chainUp p.val = true) ∧ (s.baleRx p.val = true) ∧ ((s.chainPort p.val).rxErr = false) ∧ (s.fld (R.CHAIN_P_BALE_ERR p.val) < 0xFFFFFFFF) ∧ (runParse s.nsmp l = some r) ∧ (s.fld (R.CHAIN_P_LATE p.val) < 0xFFFFFFFF)) ∧
    (∃ (s : State) (p : Fin 3) (l : List Byte), (s.chainUp p.val = true) ∧ (s.baleRx p.val = true) ∧ ((s.chainPort p.val).rxErr = false) ∧ (s.fld (R.CHAIN_P_BALE_ERR p.val) < 0xFFFFFFFF) ∧ (l.length = 16) ∧ (leAt l 12 4 = crc32c (l.take 12)) ∧ (leAt l 0 2 = 0x5654) ∧ (leAt l 4 4 = (s.chainPort p.val).rxRuns) ∧ (leAt l 8 4 = s.tick.num % 0x100000000) ∧ ((s.chainPort p.val).rxHead = true) ∧ (s.fld (R.CHAIN_P_BALES p.val) < 0xFFFFFFFF)) ∧
    (∃ (s : State) (p : Fin 3), (s.chainUp p.val = true) ∧ (s.baleRx p.val = true) ∧ ((s.chainPort p.val).rxErr = false) ∧ (s.fld (R.CHAIN_P_BALE_ERR p.val) < 0xFFFFFFFF) ∧ ((s.chainPort p.val).rxHead = true) ∧ ((s.chainPort p.val).rxTrail = false)) ∧
    (∃ (s : State) (p : Fin 3), (s.chainUp p.val = true) ∧ (s.baleRx p.val = true) ∧ ((s.chainPort p.val).rxErr = false) ∧ (s.fld (R.CHAIN_P_BALE_ERR p.val) < 0xFFFFFFFF) ∧ ((s.chainPort p.val).rxHead = false)) ∧
    (∃ (s : State) (p : Fin 3), (s.chainUp p.val = true) ∧ (s.baleRx p.val = true) ∧ ((s.chainPort p.val).rxErr = false) ∧ (s.fld (R.CHAIN_P_BALE_ERR p.val) < 0xFFFFFFFF) ∧ (3 ≤ (s.chainPort p.val).miss) ∧ ((s.chainPort p.val).lost = false) ∧ (s.fld (R.CHAIN_P_LOST p.val) < 0xFFFFFFFF)) ∧
    (∃ (s : State) (p : Fin 3), (s.chainUp p.val = true) ∧ (s.baleRx p.val = true) ∧ ((s.chainPort p.val).rxErr = false) ∧ (s.fld (R.CHAIN_P_BALE_ERR p.val) < 0xFFFFFFFF) ∧ ((s.chainPort p.val).miss < 3)) :=
  ⟨⟨({ st [(R.FCU_STATUS_SAFE, 0), (R.CHAIN_STATUS, 7)] with chain := { ChainSt.reset with ports := [((2 : Fin 3).val, { ChainPort.zero with txTrail := false, fwd := ⟨3, 1, 0, [9]⟩ :: [] })] } }), (2), (⟨3, 1, 0, [9]⟩), ([]), by decide⟩,
   ⟨({ st [(R.CHAIN_STATUS, 7)] with chain := { ChainSt.reset with ports := [(2, { ChainPort.zero with tx := [(48, 1)] })], txMap := { ChainMap.empty with ringSlots := 4, action := [(3, 1)] } } }), (2), ((3, 1)), by decide⟩,
   ⟨({ st [(R.FCU_STATUS_SAFE, 0), (R.CHAIN_STATUS, 7)] with chain := { ChainSt.reset with ports := [((2 : Fin 3).val, { ChainPort.zero with txTrail := false })] } }), (2), by decide⟩,
   ⟨({ st [(R.FCU_STATUS_SAFE, 0), (R.CHAIN_STATUS, 7)] with chain := { ChainSt.reset with ports := [((2 : Fin 3).val, { ChainPort.zero with txTrail := false, fwd := [] })] } }), (2), by decide⟩,
   ⟨(st [(R.CHAIN_STATUS, 5)]), (2), by decide⟩,
   ⟨({ st [(R.CHAIN_STATUS, 7)] with chain := { ChainSt.reset with txMap := { ChainMap.empty with ringSlots := 4, action := [(3, 1)] } } }), (2), by decide⟩,
   ⟨({ st [(R.FCU_STATUS_SAFE, 0), (R.CHAIN_STATUS, 7)] with chain := { ChainSt.reset with ports := [((2 : Fin 3).val, { ChainPort.zero with txTrail := false })] } }), (2), by decide⟩,
   ⟨(State.reset), (2), by decide⟩,
   ⟨(State.reset), (2), by decide⟩,
   ⟨(State.reset), (2), by decide⟩,
   ⟨(State.reset), (2), by decide⟩,
   ⟨({ st [(R.CHAIN_STATUS, 7)] with chain := { ChainSt.reset with ports := [((1 : Fin 3).val, { ChainPort.zero with rxErr := false })] } }), (1), (leBytes 2 0x5642 ++ List.replicate 26 0 ++ leBytes 4 (crc32c (leBytes 2 0x5642 ++ List.replicate 26 0))), by decide +kernel⟩,
   ⟨({ st [(R.CHAIN_STATUS, 7)] with chain := { ChainSt.reset with ports := [((1 : Fin 3).val, { ChainPort.zero with rxErr := false })] } }), (1), ([]), by decide⟩,
   ⟨({ st [(R.CHAIN_STATUS, 7)] with chain := { ChainSt.reset with ports := [((1 : Fin 3).val, { ChainPort.zero with rxErr := false })] } }), (1), ([]), by decide⟩,
   ⟨({ st [(R.CHAIN_STATUS, 7)] with chain := { ChainSt.reset with ports := [((1 : Fin 3).val, { ChainPort.zero with rxErr := false })] } }), (1), (runBytes ⟨3, 1, 0, List.replicate 8 9⟩), (⟨3, 1, 0, List.replicate 8 9⟩), by decide +kernel⟩,
   ⟨({ st [(R.CHAIN_STATUS, 7)] with chain := { ChainSt.reset with ports := [((1 : Fin 3).val, { ChainPort.zero with rxErr := false })] } }), (1), (runBytes ⟨3, 1, 0, List.replicate 8 9⟩), (⟨3, 1, 0, List.replicate 8 9⟩), by decide +kernel⟩,
   ⟨({ st [(R.CHAIN_STATUS, 7)] with chain := { ChainSt.reset with ports := [((1 : Fin 3).val, { ChainPort.zero with rxErr := false, rxHead := true })] } }), (1), (leBytes 2 0x5654 ++ List.replicate 10 0 ++ leBytes 4 (crc32c (leBytes 2 0x5654 ++ List.replicate 10 0))), by decide +kernel⟩,
   ⟨({ st [(R.CHAIN_STATUS, 7)] with chain := { ChainSt.reset with ports := [((1 : Fin 3).val, { ChainPort.zero with rxErr := false, rxHead := true, rxTrail := false })] } }), (1), by decide⟩,
   ⟨({ st [(R.CHAIN_STATUS, 7)] with chain := { ChainSt.reset with ports := [((1 : Fin 3).val, { ChainPort.zero with rxErr := false, rxHead := false })] } }), (1), by decide⟩,
   ⟨({ st [(R.CHAIN_STATUS, 7)] with chain := { ChainSt.reset with ports := [((1 : Fin 3).val, { ChainPort.zero with rxErr := false, miss := 3, lost := false })] } }), (1), by decide⟩,
   ⟨({ st [(R.CHAIN_STATUS, 7)] with chain := { ChainSt.reset with ports := [((1 : Fin 3).val, { ChainPort.zero with rxErr := false })] } }), (1), by decide⟩⟩

/-- States and operands that meet the hypotheses of every clause of FabricCommands. -/
theorem witness_FabricCommands :
    (∃ (s : State) (p : Fin 3), (p.val = 0 ∨ s.fabEn = false ∨ s.chainUp p.val = false)) ∧
    (∃ (s : State) (p : Fin 3) (l : List Byte) (b : List Byte), (p.val ≠ 0) ∧ (s.fabEn = true) ∧ (s.chainUp p.val = true) ∧ (ctrlParse l = some (3, b)) ∧ (s.beaconOk b = false)) ∧
    (∃ (s : State) (p : Fin 3) (l : List Byte), (p.val ≠ 0) ∧ (s.fabEn = true) ∧ (s.chainUp p.val = true) ∧ (ctrlParse l = none) ∧ (s.fld (R.CHAIN_P_BALE_ERR p.val) < 0xFFFFFFFF)) ∧
    (∃ (s : State) (p : Fin 3) (l : List Byte) (b : List Byte), (p.val ≠ 0) ∧ (s.fabEn = true) ∧ (s.chainUp p.val = true) ∧ (ctrlParse l = some (3, b)) ∧ (s.beaconOk b = true) ∧ (s.fabRole = 1) ∧ (s.fab.actStop = false) ∧ (s.bit R.FAB_STATUS_RESUMING = false) ∧ ((beaconParse b).acting = false) ∧ ((beaconParse b).origin = s.fld R.FAB_ID_NODE)) ∧
    (∃ (s : State) (p : Fin 3) (l : List Byte) (b : List Byte) (corr : Int), (p.val ≠ 0) ∧ (s.fabEn = true) ∧ (s.fabRole = 0) ∧ (s.chainUp p.val = true) ∧ (ctrlParse l = some (3, b)) ∧ (s.beaconOk b = true) ∧ (s.fab.used = none) ∧ (s.fab.actStop = false) ∧ (s.bit R.TICK_STATUS_RUNNING = true) ∧ (corr = (beaconParse b).corr + (s.fld (R.CHAIN_P_DELAY p.val) : Int) * 65536 / 1000)) ∧
    (∃ (s : State), (s.fabEn = true) ∧ (s.fabRole = 2) ∧ (s.bit R.FAB_ID_DEPUTY_EN = true) ∧ (s.bit R.FAB_STATUS_ACTING = false) ∧ (12 ≤ s.fab.sinceReal)) ∧
    (∃ (s : State), (s.fabRole ≠ 2 ∨ s.fab.sinceReal < 12)) ∧
    (∃ (s : State), (s.follows = true) ∧ (12 ≤ s.fab.sinceAny) ∧ (s.bit R.FAB_STATUS_NO_BEACON = false)) ∧
    (∃ (s : State), (s.follows = false ∨ s.fab.sinceAny < 12)) ∧
    (∃ (s : State) (hi : Word) (n : Nat), (s.fabRole = 1 ∨ (s.fabRole = 2 ∧ s.bit R.FAB_STATUS_ACTING = true)) ∧ (n = s.fld R.FAB_STOP_AT_LO + hi.toNat * 0x100000000) ∧ (s.tick.num + 2 ≤ n)) ∧
    (∃ (s : State) (hi : Word) (n : Nat), (s.fabRole = 1 ∨ (s.fabRole = 2 ∧ s.bit R.FAB_STATUS_ACTING = true)) ∧ (n = s.fld R.FAB_STOP_AT_LO + hi.toNat * 0x100000000) ∧ (n < s.tick.num + 2)) ∧
    (∃ (s : State), (s.fabRole ≠ 1) ∧ (s.fabRole = 2 → s.bit R.FAB_STATUS_ACTING = false)) ∧
    (∃ (s : State), (s.fabSends = false ∨ s.bit R.TICK_STATUS_RUNNING = true)) ∧
    (∃ (s : State), (s.fabSends = true) ∧ (s.bit R.TICK_STATUS_RUNNING = false)) :=
  ⟨⟨(State.reset), (0), by decide⟩,
   ⟨(st [(R.FAB_CTRL_EN, 1), (R.CHAIN_STATUS, 7)]), (1), (ctrlBlock 3 []), ([]), by decide +kernel⟩,
   ⟨(st [(R.FAB_CTRL_EN, 1), (R.CHAIN_STATUS, 7)]), (1), ([]), by decide⟩,
   ⟨({ st [(R.FAB_CTRL_EN, 1), (R.FAB_CTRL_ROLE, 1), (R.FAB_STATUS_RESUMING, 0), (R.CHAIN_STATUS, 7)] with fab := { FabSt.reset with actStop := false } }), (1), (ctrlBlock 3 (leBytes 2 0x4642 ++ List.replicate 86 0)), (leBytes 2 0x4642 ++ List.replicate 86 0), by decide +kernel⟩,
   ⟨({ st [(R.FAB_CTRL_EN, 1), (R.FAB_CTRL_ROLE, 0), (R.TICK_STATUS_RUNNING, 1), (R.CHAIN_STATUS, 7)] with fab := { FabSt.reset with used := none, actStop := false } }), (1), (ctrlBlock 3 (leBytes 2 0x4642 ++ List.replicate 86 0)), (leBytes 2 0x4642 ++ List.replicate 86 0), (0), by decide +kernel⟩,
   ⟨({ st [(R.FAB_CTRL_EN, 1), (R.FAB_CTRL_ROLE, 2), (R.FAB_ID_DEPUTY_EN, 1)] with fab := { FabSt.reset with sinceReal := 12 } }), by decide⟩,
   ⟨(State.reset), by decide⟩,
   ⟨({ st [(R.FAB_CTRL_EN, 1), (R.FAB_CTRL_ROLE, 2)] with fab := { FabSt.reset with sinceAny := 12 } }), by decide⟩,
   ⟨(State.reset), by decide⟩,
   ⟨(st [(R.FAB_CTRL_ROLE, 1), (R.FAB_STOP_AT_LO, 2)]), (0), (2), by decide⟩,
   ⟨(st [(R.FAB_CTRL_ROLE, 1)]), (0), (0), by decide⟩,
   ⟨(State.reset), by decide⟩,
   ⟨(State.reset), by decide⟩,
   ⟨(st [(R.TICK_STATUS_RUNNING, 0), (R.FAB_CTRL_EN, 1), (R.FAB_CTRL_ROLE, 1)]), by decide⟩⟩

/-- States and operands that meet the hypotheses of every clause of AmplifierStarts. -/
theorem witness_AmplifierStarts :
    (∃ (s : State) (n : Fin 32), (s.domOn 11 = true ∨ s.hasAmp = false) ∧ (s.hasAmp = false ∨ s.ampState n.val ≠ 0)) ∧
    (∃ (s : State) (n : Fin 32), (s.domOn 11 = true ∨ s.hasAmp = false) ∧ (s.hasAmp = true) ∧ (s.ampState n.val = 0) ∧ (s.ampMapped n.val = false)) ∧
    (∃ (s : State) (n : Fin 32), (s.domOn 11 = true ∨ s.hasAmp = false) ∧ (s.hasAmp = true) ∧ (s.ampState n.val = 0) ∧ (s.ampMapped n.val = true) ∧ (s.bit R.AMP_CTRL_EN = false ∨ s.fld (R.AMP_CH_SCALE_VFS n.val) = 0 ∨ s.fld (R.AMP_CH_ILIM n.val) = 0)) ∧
    (∃ (s : State) (n : Fin 32), (s.domOn 11 = true ∨ s.hasAmp = false) ∧ (s.hasAmp = true) ∧ (s.ampState n.val = 0) ∧ (s.ampMapped n.val = true) ∧ (s.bit R.AMP_CTRL_EN = true) ∧ (bitOf (s.fld R.AMP_GRP_CTRL_EN) (n.val / 4) = true) ∧ (s.fld (R.AMP_CH_SCALE_VFS n.val) ≠ 0) ∧ (s.fld (R.AMP_CH_SCALE_IFS n.val) ≠ 0) ∧ (s.fld (R.AMP_CH_ILIM n.val) ≠ 0)) ∧
    (∃ (s : State), (s.domOn 11 = true ∨ s.hasAmp = false) ∧ (s.hasAmp = true)) ∧
    (∃ (s : State) (n : Fin 32), (s.domOn 11 = true ∨ s.hasAmp = false) ∧ (s.hasAmp = true) ∧ (s.ampState n.val = 6 ∨ s.ampState n.val = 7) ∧ (s.bit R.FCU_STATUS_SAFE = true)) ∧
    (∃ (s : State) (n : Fin 32), (s.domOn 11 = true ∨ s.hasAmp = false) ∧ (s.hasAmp = true) ∧ (s.ampState n.val = 6 ∨ s.ampState n.val = 7) ∧ (s.bit R.FCU_STATUS_SAFE = false)) ∧
    (∃ (s : State) (n : Fin 32), (s.ampState n.val = 1) ∧ ((s.ampCh n.val).startLeft = 0)) ∧
    (∃ (s : State) (n : Fin 32), (s.ampState n.val ≠ 1 ∨ (s.ampCh n.val).startLeft ≠ 0)) ∧
    (∃ (s : State), (s.hasAmp = false ∨ s.bit R.PAIR_CTRL_EN = false ∨ s.bit R.PAIR_STATUS_CLAIM_HELD = true)) ∧
    (∃ (s : State) (k : Nat), (s.hasAmp = true) ∧ (s.bit R.PAIR_CTRL_EN = true) ∧ (s.bit R.PAIR_STATUS_CLAIM_HELD = false) ∧ (s.bit R.PAIR_STATUS_TWIN_UP = true) ∧ (2 * k < s.stagDiv) ∧ (k ≤ 16384 / s.stagDiv) ∧ (s.amp.stagRef + k < s.stagDiv)) :=
  ⟨⟨({ st [(R.PWR_DOM_STATUS_ON, 4095)] with part := .ni }), (0), by decide⟩,
   ⟨(st [(R.PWR_DOM_STATUS_ON, 4095), ((R.AMP_CH_STATE_STATE (0 : Fin 32).val), 0)]), (0), by decide⟩,
   ⟨({ st [(R.PWR_DOM_STATUS_ON, 4095), ((R.AMP_CH_STATE_STATE (0 : Fin 32).val), 0), (R.AMP_CTRL_EN, 0)] with amp := { AmpSt.reset with map := [⟨0, false⟩] } }), (0), by decide⟩,
   ⟨({ st [(R.PWR_DOM_STATUS_ON, 4095), (R.AMP_CTRL_EN, 1), (R.AMP_GRP_CTRL_EN, 128), (R.AMP_CH_SCALE_VFS 31, 1), (R.AMP_CH_SCALE_IFS 31, 1), (R.AMP_CH_ILIM 31, 1)] with amp := { AmpSt.reset with map := [⟨31, false⟩] } }), (31), by decide⟩,
   ⟨(st [(R.PWR_DOM_STATUS_ON, 4095)]), by decide⟩,
   ⟨(st [(R.PWR_DOM_STATUS_ON, 4095), ((R.AMP_CH_STATE_STATE (0 : Fin 32).val), 6), (R.FCU_STATUS_SAFE, 1)]), (0), by decide⟩,
   ⟨(st [(R.PWR_DOM_STATUS_ON, 4095), ((R.AMP_CH_STATE_STATE (0 : Fin 32).val), 6), (R.FCU_STATUS_SAFE, 0)]), (0), by decide⟩,
   ⟨(st [((R.AMP_CH_STATE_STATE (0 : Fin 32).val), 1)]), (0), by decide⟩,
   ⟨(State.reset), (0), by decide⟩,
   ⟨({ State.reset with part := .ni }), by decide⟩,
   ⟨(st [(R.PAIR_CTRL_EN, 1), (R.PAIR_STATUS_CLAIM_HELD, 0), (R.PAIR_STATUS_TWIN_UP, 1)]), (0), by decide⟩⟩

/-- States and operands that meet the hypotheses of every clause of AmplifierProtection. -/
theorem witness_AmplifierProtection :
    (∃ (s : State) (n : Fin 32), (s.hasAmp = true) ∧ (switching (s.ampState n.val) = true) ∧ (s.bit (R.AMP_CH_CFG_DROP_EN n.val) = false) ∧ (s.fld (R.AMP_CH_STATE_RETRIES n.val) = 3)) ∧
    (∃ (s : State) (n : Fin 32), (s.hasAmp = true) ∧ (switching (s.ampState n.val) = true) ∧ (s.bit (R.AMP_CH_CFG_DROP_EN n.val) = false) ∧ (s.fld (R.AMP_CH_STATE_RETRIES n.val) ≠ 3)) ∧
    (∃ (s : State) (n : Fin 32), (s.hasAmp = true) ∧ (switching (s.ampState n.val) = true) ∧ (s.bit (R.AMP_CH_CFG_DROP_EN n.val) = true) ∧ (s.fld (R.AMP_CH_STATE_RETRIES n.val) ≠ 3)) ∧
    (∃ (s : State) (n : Fin 32), (switching (s.ampState n.val) = false)) ∧
    (∃ (s : State) (n : Fin 32), (s.ampState n.val = 5) ∧ ((s.ampCh n.val).retryLeft = 0) ∧ (∀ m : Fin 32, (s.ampCh m.val).leader = none) ∧ (bitOf (s.fld R.AMP_GRP_STATUS_OT) (n.val / 4) = false) ∧ (s.fld (R.AMP_CH_STATE_REASON n.val) = 1)) ∧
    (∃ (s : State) (n : Fin 32), (s.ampState n.val ≠ 5 ∨ (s.ampCh n.val).retryLeft ≠ 0)) ∧
    (∃ (s : State) (n : Fin 32), (s.ampState n.val = 2) ∧ (12000 ≤ (s.ampCh n.val).okTicks)) ∧
    (∃ (s : State) (n : Fin 32), ((s.ampCh n.val).okTicks < 12000)) ∧
    (∃ (s : State) (g : Fin 8), (s.hasAmp = true) ∧ (∀ i : Fin 4, s.ampLive (4 * g.val + i.val) = false)) ∧
    (∃ (s : State), (s.hasAmp = true)) ∧
    (∃ (s : State), (s.hasAmp = false)) ∧
    (∃ (s : State) (g : Fin 8), (s.hasAmp = true) ∧ (bitOf (s.fld R.AMP_GRP_STATUS_OT) g.val = true) ∧ (s.fld R.AMP_OT_RESTART = 0)) ∧
    (∃ (s : State) (g : Fin 8), (s.hasAmp = true) ∧ (bitOf (s.fld R.AMP_GRP_STATUS_OT) g.val = true) ∧ (s.fld R.AMP_OT_RESTART ≠ 0) ∧ (s.bit R.FCU_STATUS_SAFE = false)) ∧
    (∃ (s : State) (g : Fin 8), (bitOf (s.fld R.AMP_GRP_STATUS_OT) g.val = false)) ∧
    (∃ (s : State) (k : Fin 3) (n : Fin 32), (s.hasAmp = true) ∧ (k.val < 2) ∧ (s.ampLive n.val = true)) ∧
    (∃ (s : State), (s.hasAmp = true)) ∧
    (∃ (s : State), (s.hasAmp = false)) ∧
    (∃ (s : State) (n : Fin 32) (f : Nat), (s.hasAmp = true) ∧ (s.ampState n.val = 2) ∧ (s.ampQuiet n.val = true) ∧ (3000 ≤ f) ∧ (f ≤ 7000)) ∧
    (∃ (s : State) (n : Fin 32) (f : Nat), (s.hasAmp = true) ∧ (s.ampState n.val = 2) ∧ (s.ampQuiet n.val = true) ∧ (f < 3000 ∨ (7000 < f ∧ f < 0x10000))) ∧
    (∃ (s : State) (n : Fin 32), (s.ampState n.val ≠ 2 ∨ s.ampQuiet n.val = false)) :=
  ⟨⟨(st [((R.AMP_CH_CFG_DROP_EN (0 : Fin 32).val), 0), ((R.AMP_CH_STATE_RETRIES (0 : Fin 32).val), 3), ((R.AMP_CH_STATE_STATE (0 : Fin 32).val), 2)]), (0), by decide⟩,
   ⟨(st [((R.AMP_CH_CFG_DROP_EN (0 : Fin 32).val), 0), ((R.AMP_CH_STATE_STATE (0 : Fin 32).val), 1)]), (0), by decide⟩,
   ⟨(st [((R.AMP_CH_CFG_DROP_EN (0 : Fin 32).val), 1), ((R.AMP_CH_STATE_STATE (0 : Fin 32).val), 3)]), (0), by decide⟩,
   ⟨(State.reset), (0), by decide⟩,
   ⟨(st [((R.AMP_CH_STATE_STATE (0 : Fin 32).val), 5), ((R.AMP_CH_STATE_REASON (0 : Fin 32).val), 1)]), (0), by decide⟩,
   ⟨(State.reset), (0), by decide⟩,
   ⟨({ st [((R.AMP_CH_STATE_STATE (0 : Fin 32).val), 2)] with amp := { AmpSt.reset with chans := [(0, { AmpCh.zero with okTicks := 12000 })] } }), (0), by decide⟩,
   ⟨(State.reset), (0), by decide⟩,
   ⟨(State.reset), (0), by decide⟩,
   ⟨(State.reset), by decide⟩,
   ⟨({ State.reset with part := .ni }), by decide⟩,
   ⟨(st [(R.AMP_OT_RESTART, 0), (R.AMP_GRP_STATUS_OT, 1), (R.AMP_OT_RESTART, 0)]), (0), by decide⟩,
   ⟨(st [(R.AMP_OT_RESTART, 1), (R.FCU_STATUS_SAFE, 0), (R.AMP_GRP_STATUS_OT, 1)]), (0), by decide⟩,
   ⟨(State.reset), (0), by decide⟩,
   ⟨(st [((R.AMP_CH_STATE_STATE (0 : Fin 32).val), 1)]), (0), (0), by decide⟩,
   ⟨(State.reset), by decide⟩,
   ⟨({ State.reset with part := .ni }), by decide⟩,
   ⟨(st [((R.AMP_CH_STATE_STATE (0 : Fin 32).val), 2)]), (0), (3000), by decide⟩,
   ⟨(st [((R.AMP_CH_STATE_STATE (0 : Fin 32).val), 2)]), (0), (0), by decide⟩,
   ⟨(State.reset), (0), by decide⟩⟩

/-- States and operands that meet the hypotheses of every clause of GranaryAccesses. -/
theorem witness_GranaryAccesses :
    (∃ (s : State) (a : Nat), (inGran a = true) ∧ (s.granGood 0 a)) ∧
    (∃ (s : State) (a : Nat) (bs : List Byte), (inGran a = true) ∧ (s.halfState (granHalf a) = 0) ∧ (a % 8 = 0) ∧ (bs.length = 8)) ∧
    (∃ (s : State) (a : Nat), (inGran a = true) ∧ (s.granGood 0 a) ∧ (s.granGood 1 a)) ∧
    (∃ (s : State) (a : Nat), (inGran a = true) ∧ (s.granGood 1 a)) ∧
    (∃ (a : Nat), (inGran a = false)) ∧
    (∃ (s : State) (a : Nat), (inGran a = true) ∧ (s.halfState (granHalf a) ≠ 0)) :=
  ⟨⟨(State.reset), (granBase), by unfold State.granGood; decide⟩,
   ⟨(State.reset), (granBase), (List.replicate 8 0), by decide⟩,
   ⟨(State.reset), (granBase), by unfold State.granGood; decide⟩,
   ⟨(State.reset), (granBase), by unfold State.granGood; decide⟩,
   ⟨(0), by decide⟩,
   ⟨(st [(R.GRAN_PWR_STATUS_A_STATE, 1)]), (granBase), by decide⟩⟩

/-- States and operands that meet the hypotheses of every clause of HalvesAndGleaner. -/
theorem witness_HalvesAndGleaner :
    (∃ (s : State), (s.halfDeclared 0 = false) ∧ (s.halfDeclared 1 = false)) ∧
    (∃ (s : State), (s.halfDeclared 0 = true)) ∧
    (∃ (s : State), (s.halfDeclared 0 = false)) ∧
    (∃ (s : State), (s.halfState 0 = 1 ∨ s.halfState 0 = 2)) ∧
    (∃ (s : State) (h : Fin 2), (s.halfState h.val = 3)) ∧
    (∃ (s : State) (h : Fin 2), (s.halfState h.val ≠ 3)) ∧
    (∃ (s : State) (h : Fin 2), (bitOf s.mem14.lost h.val = true) ∧ (s.halfState h.val = 4)) ∧
    (∃ (s : State) (h : Fin 2), (bitOf s.mem14.lost h.val = false)) ∧
    (∃ (s : State), (s.bit R.GLEAN_CTRL_GRAN_SCRUB = false)) ∧
    (∃ (s : State) (w : Nat), (s.bit R.GLEAN_CTRL_GRAN_SCRUB = true) ∧ (s.scrubWord = some w) ∧ (s.granGood 1 (granBase + 8 * w))) ∧
    (∃ (s : State) (w : Nat), (s.bit R.GLEAN_CTRL_GRAN_SCRUB = true) ∧ (s.scrubWord = some w) ∧ (s.granGood 1 (granBase + 8 * w)) ∧ (s.fld R.GLEAN_CE_CNT < 0xFFFFFFFF) ∧ (s.fld R.GRAN_ECC_CE < 0xFFFFFFFF)) ∧
    (∃ (s : State), (s.bit R.GLEAN_CTRL_DDR_SCRUB = false ∨ s.ddrSize = 0)) ∧
    (∃ (s : State), (s.bit R.GLEAN_CTRL_DDR_SCRUB = true) ∧ (s.ddrSize ≠ 0) ∧ (s.bit R.PWR_STATUS_STANDBY = false) ∧ (s.ddrGood (ddrBase + 64 * (s.mem14.scrubDdr % (s.ddrSize / 64))))) ∧
    (∃ (s : State), (s.bit R.GLEAN_CTRL_MARCH_EN = false ∨ s.bit R.GLEAN_STATUS_REPAIRED = true)) ∧
    (∃ (s : State), (s.bit R.GLEAN_CTRL_MARCH_EN = true) ∧ (s.bit R.GLEAN_STATUS_REPAIRED = false) ∧ (s.mem14.marchNext < 4095) ∧ (s.halfState 0 = 0)) :=
  ⟨⟨(State.reset), by decide⟩,
   ⟨(running { img0 with flags := 2 } State.reset), by decide⟩,
   ⟨(State.reset), by decide⟩,
   ⟨(st [(R.GRAN_PWR_STATUS_A_STATE, 1)]), by decide⟩,
   ⟨(st [(R.GRAN_PWR_STATUS_B_STATE, 3)]), (1), by decide⟩,
   ⟨(State.reset), (0), by decide⟩,
   ⟨({ st [(R.GRAN_PWR_STATUS_B_STATE, 4)] with mem14 := { MemSt.reset with lost := 2 } }), (1), by decide⟩,
   ⟨(State.reset), (0), by decide⟩,
   ⟨(st [(R.GLEAN_CTRL_GRAN_SCRUB, 0)]), by decide⟩,
   ⟨(st [(R.GLEAN_CTRL_GRAN_SCRUB, 1)]), (0), by unfold State.granGood; decide⟩,
   ⟨(st [(R.GLEAN_CTRL_GRAN_SCRUB, 1)]), (0), by unfold State.granGood; decide⟩,
   ⟨(st [(R.GLEAN_CTRL_DDR_SCRUB, 0)]), by decide⟩,
   ⟨(st [(R.GLEAN_CTRL_DDR_SCRUB, 1), (R.PWR_STATUS_STANDBY, 0), (R.DDR_CFG_SIZE, 1)]), ⟨by decide, by decide, by decide, by unfold State.ddrGood; decide⟩⟩,
   ⟨(st [(R.GLEAN_CTRL_MARCH_EN, 0)]), by decide⟩,
   ⟨(st [(R.GLEAN_CTRL_MARCH_EN, 1), (R.GLEAN_STATUS_REPAIRED, 0)]), by decide⟩⟩

/-- States and operands that meet the hypotheses of every clause of HoppersAndLpddr5. -/
theorem witness_HoppersAndLpddr5 :
    (∃ (s : State) (n : Fin 64), (s.writeUnsafe true (R.HOP_Q_CFG_EN n.val).addr (s.hopEnWord n.val) = none) ∧ (s.hopEn n.val = false) ∧ (s.hopCfgOk n.val = true)) ∧
    (∃ (s : State) (n : Fin 64), (s.writeUnsafe true (R.HOP_Q_CFG_EN n.val).addr (s.hopEnWord n.val) = none) ∧ (s.hopEn n.val = false) ∧ (s.hopCfgOk n.val = false)) ∧
    (∃ (s : State) (n : Fin 64) (r : Nat), (s.writeUnsafe true (R.HOP_Q_CFG_EN n.val).addr (s.hopEnWord n.val) = some r)) ∧
    (∃ (s : State) (n : Fin 64), (s.writeUnsafe true (R.HOP_Q_CFG_EN n.val).addr 0 = none)) ∧
    (∃ (s : State) (n : Fin 64) (lag : Nat) (hidden : Nat), (hidden = (if s.bit (R.HOP_Q_CFG_CLK n.val) then lag else 0)) ∧ (s.hopEn n.val = true) ∧ ((s.hop n.val).entries.length + hidden < s.fld (R.HOP_Q_CFG_DEPTH n.val))) ∧
    (∃ (s : State) (n : Fin 64) (lag : Nat) (hidden : Nat), (hidden = (if s.bit (R.HOP_Q_CFG_CLK n.val) then lag else 0)) ∧ (s.hopEn n.val = false ∨ s.fld (R.HOP_Q_CFG_DEPTH n.val) ≤ (s.hop n.val).entries.length + hidden)) ∧
    (∃ (s : State) (n : Fin 64) (lag : Nat) (hidden : Nat) (x : _) (r : _), (hidden = (if s.bit (R.HOP_Q_CFG_CLK n.val) then lag else 0)) ∧ (s.hopEn n.val = true) ∧ ((s.hop n.val).entries = x :: r) ∧ (hidden ≤ r.length)) ∧
    (∃ (s : State) (n : Fin 64) (lag : Nat) (hidden : Nat), (hidden = (if s.bit (R.HOP_Q_CFG_CLK n.val) then lag else 0)) ∧ (s.hopEn n.val = false ∨ (s.hop n.val).entries.length ≤ hidden)) ∧
    (∃ (s : State) (n : Fin 64) (lag : Nat) (hidden : Nat) (x : _) (r : _), (hidden = (if s.bit (R.HOP_Q_CFG_CLK n.val) then lag else 0)) ∧ (s.hopEn n.val = true) ∧ ((s.hop n.val).entries = x :: r) ∧ (s.bit (R.HOP_Q_CFG_CLK n.val) = true → (s.hop n.val).entries.length + lag < s.fld (R.HOP_Q_CFG_DEPTH n.val))) ∧
    (∃ (s : State) (n : Fin 64) (v : Word), (s.writeUnsafe true (0x40091014 + 0x20 * n.val) v.toNat = none) ∧ (s.hopWords n.val = 1) ∧ (s.hopEn n.val = true) ∧ ((s.hop n.val).entries.length < s.fld (R.HOP_Q_CFG_DEPTH n.val))) ∧
    (∃ (s : State) (n : Fin 64) (v : Word), (s.writeUnsafe true (0x40091014 + 0x20 * n.val) v.toNat = none) ∧ (s.hopWords n.val = 4) ∧ ((s.hop n.val).pushBuf.length < 3)) ∧
    (∃ (s : State) (n : Fin 64) (v : Word) (a : _) (b : _) (c : _), (s.writeUnsafe true (0x40091014 + 0x20 * n.val) v.toNat = none) ∧ (s.hopWords n.val = 4) ∧ ((s.hop n.val).pushBuf = [a, b, c]) ∧ (s.hopEn n.val = true) ∧ ((s.hop n.val).entries.length < s.fld (R.HOP_Q_CFG_DEPTH n.val))) ∧
    (∃ (s : State) (n : Fin 64) (x : _) (r : _), (s.readUnsafe (0x40091018 + 0x20 * n.val) = none) ∧ (s.hopWords n.val = 1) ∧ (s.hopEn n.val = true) ∧ ((s.hop n.val).entries = x :: r)) ∧
    (∃ (s : State) (n : Fin 64) (w : _) (r : _), (s.readUnsafe (0x40091018 + 0x20 * n.val) = none) ∧ (s.hopWords n.val = 4) ∧ ((s.hop n.val).popBuf = w :: r)) ∧
    (∃ (s : State) (n : Fin 64) (x : _) (r : _), (s.readUnsafe (0x40091018 + 0x20 * n.val) = none) ∧ (s.hopWords n.val = 4) ∧ ((s.hop n.val).popBuf = []) ∧ (s.hopEn n.val = true) ∧ ((s.hop n.val).entries = x :: r)) ∧
    (∃ (s : State) (n : Fin 64) (r : Nat), (s.readUnsafe (0x40091018 + 0x20 * n.val) = some r)) ∧
    (∃ (s : State) (a : Nat), (s.inDdr a = true) ∧ (s.inDdr (a + 3) = true) ∧ (a % 64 ≤ 60) ∧ (s.ddrGood a)) ∧
    (∃ (s : State) (a : Nat) (l : List Byte), (l.length = 64) ∧ (a % 64 = 0) ∧ (s.inDdr a = true) ∧ (s.inDdr (a + 63) = true)) ∧
    (∃ (s : State) (q : BusReq), (s.inDdr q.addr = false)) ∧
    (∃ (s : State) (c : Fin 32), (s.fld R.DDR_STATUS_REFRATE = c.val)) ∧
    (∃ (s : State) (c : Fin 32), (s.fld R.DDR_STATUS_REFRATE ≠ c.val)) :=
  ⟨⟨(State.reset), (0), by decide⟩,
   ⟨(st [(R.HOP_Q_CFG_DEPTH 63, 1)]), (63), by decide⟩,
   ⟨(st [(R.HOP_Q_CFG_DEPTH 63, 2), (R.HOP_Q_CFG_DEPTH 62, 2), (R.HOP_Q_CFG_EN 62, 1)]), (63), (377), by decide⟩,
   ⟨(State.reset), (0), by decide⟩,
   ⟨(st [(R.HOP_Q_CFG_EN 63, 1), (R.HOP_Q_CFG_DEPTH 63, 2), (R.HOP_Q_CFG_CLK 63, 1)]), (63), (1), (1), by decide⟩,
   ⟨(State.reset), (0), (0), (0), by decide⟩,
   ⟨({ st [(R.HOP_Q_CFG_EN 63, 1), (R.HOP_Q_CFG_DEPTH 63, 2)] with hops := [(63, { Hop.empty with entries := [5] })] }), (63), (0), (0), (5), ([]), by decide⟩,
   ⟨(State.reset), (0), (0), (0), by decide⟩,
   ⟨({ st [(R.HOP_Q_CFG_EN 63, 1), (R.HOP_Q_CFG_DEPTH 63, 2)] with hops := [(63, { Hop.empty with entries := [5] })] }), (63), (0), (0), (5), ([]), by decide⟩,
   ⟨(st [(R.HOP_Q_CFG_EN 63, 1), (R.HOP_Q_CFG_DEPTH 63, 2)]), (63), (0), by decide⟩,
   ⟨(st [(R.HOP_Q_CFG_EN 63, 1), (R.HOP_Q_CFG_DEPTH 63, 2), (R.HOP_Q_CFG_USE 63, 2)]), (63), (0), by decide⟩,
   ⟨({ st [(R.HOP_Q_CFG_EN 63, 1), (R.HOP_Q_CFG_DEPTH 63, 2), (R.HOP_Q_CFG_USE 63, 2)] with hops := [(63, { Hop.empty with pushBuf := [1, 2, 3] })] }), (63), (0), (1), (2), (3), by decide⟩,
   ⟨({ st [(R.HOP_Q_CFG_EN 63, 1), (R.HOP_Q_CFG_DEPTH 63, 2)] with hops := [(63, { Hop.empty with entries := [5] })] }), (63), (5), ([]), by decide⟩,
   ⟨({ st [(R.HOP_Q_CFG_EN 63, 1), (R.HOP_Q_CFG_DEPTH 63, 2), (R.HOP_Q_CFG_USE 63, 2)] with hops := [(63, { Hop.empty with popBuf := [7] })] }), (63), (7), ([]), by decide⟩,
   ⟨({ st [(R.HOP_Q_CFG_EN 63, 1), (R.HOP_Q_CFG_DEPTH 63, 2), (R.HOP_Q_CFG_USE 63, 2)] with hops := [(63, { Hop.empty with entries := [5] })] }), (63), (5), ([]), by decide⟩,
   ⟨({ st [(R.HOP_Q_CFG_USE 0, 1)] with bind := { BindSt.reset with gather := [⟨0, 0, 128, 0⟩] } }), (0), (194), by decide⟩,
   ⟨(st [(R.DDR_CFG_SIZE, 1)]), (ddrBase + 60), ⟨by decide, by decide, by decide, by unfold State.ddrGood; decide⟩⟩,
   ⟨(st [(R.DDR_CFG_SIZE, 1)]), (ddrBase + 0x7FFFFFC0), (List.replicate 64 0), by decide⟩,
   ⟨(State.reset), (⟨0, 4, none⟩), by decide⟩,
   ⟨(st [(R.DDR_STATUS_REFRATE, (0 : Fin 32).val)]), (0), by decide⟩,
   ⟨(State.reset), (31), by decide⟩⟩

/-- States and operands that meet the hypotheses of every clause of HostRequests. -/
theorem witness_HostRequests :
    (∃ (s : State), (s.bit R.PCIE_LINK_UP = false)) ∧
    (∃ (s : State) (q : HostReq), (s.bit R.PCIE_LINK_UP = true) ∧ (s.hostDest q.bar q.offset q.len = .unmapped) ∧ (s.fld R.PCIE_UR_CNT < 0xFFFFFFFF)) ∧
    (∃ (s : State) (o : Nat), (s.bit R.PCIE_LINK_UP = true) ∧ (s.busFull 1 = false) ∧ (o % 8 ≤ 4) ∧ (o + 4 ≤ 0x2000000) ∧ (s.granGood 1 (granBase + o))) ∧
    (∃ (s : State) (o : Nat), (s.bit R.PCIE_LINK_UP = true) ∧ (s.busFull 1 = false) ∧ (o % 8 ≤ 4) ∧ (o + 4 ≤ 0x2000000) ∧ (s.halfState (granHalf (granBase + o)) ≠ 0)) ∧
    (∃ (s : State) (o : Nat) (l : List Byte), (s.bit R.PCIE_LINK_UP = true) ∧ (s.busFull 1 = false) ∧ (o % 8 = 0) ∧ (o + 8 ≤ 0x2000000) ∧ (l.length = 8) ∧ (s.halfState (granHalf (granBase + o)) = 0) ∧ (s.hostDataUnsafe (granBase + o) 8 = none)) ∧
    (∃ (s : State) (b : Nat) (o : Nat) (n : Nat) (a : Nat), (s.bit R.PCIE_LINK_UP = true) ∧ (s.busFull 1 = false) ∧ (s.hostDest b o n = .bus a) ∧ (s.target 1 a n = .default) ∧ (s.fld R.PCIE_UR_CNT < 0xFFFFFFFF)) ∧
    (∃ (s : State) (q : HostReq) (a : Nat), (s.bit R.PCIE_LINK_UP = true) ∧ (s.busFull 1 = false) ∧ (s.hostDest q.bar q.offset q.len = .bus a) ∧ (s.target 1 a q.len ≠ .default)) ∧
    (∃ (s : State) (w : Fin 256), (s.bit R.PCIE_LINK_UP = true) ∧ (s.msixWord w.val < 0x100000000)) ∧
    (∃ (s : State) (w : Fin 256), (s.bit R.PCIE_LINK_UP = true) ∧ (w.val % 4 ≠ 3)) ∧
    (∃ (s : State) (v : Fin 64), (s.bit R.PCIE_LINK_UP = true) ∧ (s.msixWord (4 * v.val + 3) = 1) ∧ (bitOf s.pcie.pba v.val = true)) ∧
    (∃ (s : State), (s.bit R.PCIE_LINK_UP = true)) ∧
    (∃ (s : State) (q : HostReq) (r : Nat), (s.busFull 1 = false) ∧ (s.hostUnsafe q = some r)) :=
  ⟨⟨(st [(R.PCIE_LINK_UP, 0)]), by decide⟩,
   ⟨(st [(R.PCIE_LINK_UP, 1)]), (⟨1, 0, 4, none⟩), by decide⟩,
   ⟨(st [(R.PCIE_LINK_UP, 1)]), (0x1FFFFFC), ⟨by decide, by decide, by decide, by decide, by unfold State.granGood; decide⟩⟩,
   ⟨(st [(R.PCIE_LINK_UP, 1), (R.GRAN_PWR_STATUS_B_STATE, 1)]), (0x1FFFFFC), by decide⟩,
   ⟨(st [(R.PCIE_LINK_UP, 1)]), (0x1FFFFF8), (List.replicate 8 0), by decide⟩,
   ⟨(st [(R.PCIE_LINK_UP, 1)]), (4), (0), (4), (ddrBase), by decide⟩,
   ⟨(st [(R.PCIE_LINK_UP, 1)]), (⟨2, 0, 4, none⟩), (granBase), by decide⟩,
   ⟨(st [(R.PCIE_LINK_UP, 1)]), (0), by decide⟩,
   ⟨(st [(R.PCIE_LINK_UP, 1)]), (0), by decide⟩,
   ⟨({ st [(R.PCIE_LINK_UP, 1)] with pcie := { PcieSt.reset with pba := 2 ^ 63 } }), (63), by decide⟩,
   ⟨(st [(R.PCIE_LINK_UP, 1)]), by decide⟩,
   ⟨(st [(R.PCIE_LINK_UP, 1), (R.PCIE_DB_H2G, 1)]), (⟨0, 0x1C0014, 4, some [some 1, some 0, some 0, some 0]⟩), (416), by decide⟩⟩

/-- States and operands that meet the hypotheses of every clause of HostPort. -/
theorem witness_HostPort :
    (∃ (s : State) (v : Word), (s.writeUnsafe false 0x401C0014 v.toNat = none) ∧ (s.bit R.PWR_STATUS_STANDBY = false) ∧ (s.grng.waitHost = false)) ∧
    (∃ (s : State) (v : Word) (r : Nat), (s.writeUnsafe false 0x401C0014 v.toNat = some r)) ∧
    (∃ (s : State), (s.bit R.PCIE_LINK_UP = true)) ∧
    (∃ (s : State), (s.bit R.PCIE_LINK_UP = false)) ∧
    (∃ (w : Nat) (v : Nat), (w < 16) ∧ (v < 8)) ∧
    (∃ (s : State), (s.bit R.GRNG_ODMA_CTRL_START = false)) ∧
    (∃ (s : State), (s.bit R.GRNG_ODMA_CTRL_START = false)) ∧
    (∃ (s : State), (s.bit R.GRNG_ODMA_CTRL_START = true)) ∧
    (∃ (s : State) (a : Nat), (s.bit R.GRNG_ODMA_CTRL_START = true) ∧ (a = s.fld R.GRNG_ODMA_SRC_LO + s.fld R.GRNG_ODMA_SRC_HI * 0x100000000) ∧ (inGran a = true) ∧ (a % 8 ≤ 4) ∧ (s.fld R.GRNG_ODMA_LEN = 4) ∧ (s.granGood 1 a)) :=
  ⟨⟨({ st [(R.PWR_STATUS_STANDBY, 0)] with grng := { GrngSt.reset with waitHost := false } }), (0), by decide⟩,
   ⟨(st [(R.PCIE_DB_H2G, 1)]), (1), (416), by decide⟩,
   ⟨(st [(R.PCIE_LINK_UP, 1)]), by decide⟩,
   ⟨(st [(R.PCIE_LINK_UP, 0)]), by decide⟩,
   ⟨(0), (0), by decide⟩,
   ⟨(st [(R.GRNG_ODMA_CTRL_START, 0)]), by decide⟩,
   ⟨(st [(R.GRNG_ODMA_CTRL_START, 0)]), by decide⟩,
   ⟨(st [(R.GRNG_ODMA_CTRL_START, 1)]), by decide⟩,
   ⟨(st [(R.GRNG_ODMA_CTRL_START, 1), (R.GRNG_ODMA_SRC_LO, granBase), (R.GRNG_ODMA_LEN, 4)]), (granBase), by unfold State.granGood; decide⟩⟩

/-- States and operands that meet the hypotheses of every clause of FaultMessages. -/
theorem witness_FaultMessages :
    (∃ (src : Fin 128) (kind : Fin 32), (severityOf src.val kind.val = 4)) ∧
    (∃ (src : Fin 128) (kind : Fin 32), (severityOf src.val kind.val ≠ 4)) ∧
    (∃ (s : State) (src : Fin 128) (kind : Fin 32) (a : Nat), (a < 0x1000000000) ∧ (severityOf src.val kind.val ≠ 4) ∧ (s.shadowed src.val = false ∨ severityOf src.val kind.val = 3) ∧ (s.fcu.lastNew = false) ∧ (s.fcu.firstNew = false)) ∧
    (∃ (s : State) (src : Fin 128) (kind : Fin 32) (a : Nat), (a < 0x1000000000) ∧ (severityOf src.val kind.val < 3) ∧ (s.shadowed src.val = true) ∧ (s.fcu.lastNew = false) ∧ (s.fld R.FCU_SHADOW_CNT < 0xFFFFFFFF)) :=
  ⟨⟨(0), (0), by decide⟩,
   ⟨(46), (1), by decide⟩,
   ⟨({ State.reset with fcu := { FcuSt.reset with lastNew := false, firstNew := false } }), (0), (2), (0xFFFFFFFFF), by decide⟩,
   ⟨({ State.reset with fcu := { FcuSt.reset with windows := [⟨2 ^ 46, 1⟩] } }), (46), (1), (0xFFFFFFFFF), by decide⟩⟩

/-- States and operands that meet the hypotheses of every clause of CollectorCommands. -/
theorem witness_CollectorCommands :
    (∃ (s : State), (s.bit R.FCU_STATUS_SAFE = true)) ∧
    (∃ (s : State), (s.bit R.FCU_STATUS_SAFE = false)) ∧
    (∃ (s : State) (v : Word), (v.toNat / 256 % 256 = 0x5A) ∧ (v.toNat % 16 ≤ 5 ∨ v.toNat % 16 = 7 ∨ (v.toNat % 16 = 6 ∧ s.bit R.SYS_REMAP = false)) ∧ (s.bit R.FCU_INJECT_ARMED = false)) ∧
    (∃ (s : State) (v : Word), (v.toNat / 256 % 256 = 0x5A) ∧ (v.toNat % 16 = 8 ∨ v.toNat % 16 = 9) ∧ (s.bit R.FCU_INJECT_ARMED = false)) ∧
    (∃ (s : State) (v : Word), (v.toNat / 256 % 256 ≠ 0x5A ∨ 10 ≤ v.toNat % 16 ∨ s.bit R.FCU_INJECT_ARMED = true)) ∧
    (∃ (s : State), (s.bit R.FCU_STATUS_SAFE = true)) ∧
    (∃ (s : State), (s.bit R.FCU_STATUS_SAFE = false) ∧ (s.fcu.todo = [])) ∧
    (∃ (s : State) (src : Fin 128) (kind : Fin 32), (s.fcu.todo = []) ∧ (s.shadowed src.val = false) ∧ (s.reactionOf src.val kind.val = 3) ∧ (s.fld R.FCU_SHADOW_TICKS ≠ 0)) ∧
    (∃ (s : State) (kind : Fin 32), (s.fcu.todo = []) ∧ (s.shadowed 46 = false) ∧ (s.reactionOf 46 kind.val = 2)) ∧
    (∃ (s : State) (h : Fin 64) (kind : Fin 32) (n : _), (s.fcu.todo = []) ∧ (s.shadowed 46 = false) ∧ (s.reactionOf 46 kind.val = 2) ∧ (n ≠ h.val)) :=
  ⟨⟨(st [(R.FCU_STATUS_SAFE, 1)]), by decide⟩,
   ⟨(st [(R.FCU_STATUS_SAFE, 0)]), by decide⟩,
   ⟨(st [(R.FCU_INJECT_ARMED, 0)]), (0x5A06), by decide⟩,
   ⟨(st [(R.FCU_INJECT_ARMED, 0)]), (0x5A09), by decide⟩,
   ⟨(State.reset), (0), by decide⟩,
   ⟨(st [(R.FCU_STATUS_SAFE, 1)]), by decide⟩,
   ⟨({ st [(R.FCU_STATUS_SAFE, 0)] with fcu := { FcuSt.reset with todo := [] } }), by decide⟩,
   ⟨({ State.reset with fcu := { FcuSt.reset with react := [(33, 4)] } }), (1), (1), by decide⟩,
   ⟨({ State.reset with fcu := { FcuSt.reset with react := [(1473, 3)] } }), (1), by decide⟩,
   ⟨({ State.reset with fcu := { FcuSt.reset with react := [(1473, 3)] } }), (0), (1), (63), by decide⟩⟩

/-- States and operands that meet the hypotheses of every clause of MailboxCommands. -/
theorem witness_MailboxCommands :
    (∃ (s : State) (via : Mbx), (s.mbxOpen via = false)) ∧
    (∃ (s : State) (via : Mbx) (c : Nat) (t : Nat) (n : Nat), (s.mbxOpen via = true) ∧ (mbxKnown c = false) ∧ (t < 256) ∧ (n < 65536) ∧ (arg (s.mbxWords via) 0 = c * 0x1000000 + t * 0x10000 + n)) ∧
    (∃ (s : State) (via : Mbx) (t : Nat) (n : Nat), (s.mbxOpen via = true) ∧ (s.fld R.LCS_STATE_STATE ≠ 4) ∧ (t < 256) ∧ (63 < n) ∧ (n < 65536) ∧ (arg (s.mbxWords via) 0 = 0x1000000 + t * 0x10000 + n)) ∧
    (∃ (c : Nat) (t : Nat) (st : Nat), (c < 256) ∧ (t < 256) ∧ (st < 256)) ∧
    (∃ (s : State) (via : Mbx) (t : Nat), (s.mbxHas via 1 t [])) ∧
    (∃ (s : State) (via : Mbx) (t : Nat) (q : Nat) (r : List Byte), (s.mbxHas via 2 t [q, 1]) ∧ (s.injArmed 7 = false) ∧ (s.logRead q = some r)) ∧
    (∃ (s : State) (via : Mbx) (t : Nat) (q : Nat) (lo : Nat) (hi : Nat) (r : List Byte), (s.mbxHas via 3 t [q, 1, lo, hi]) ∧ (s.injArmed 7 = false) ∧ (s.bit R.GRNG_ODMA_CTRL_START = false) ∧ (s.logRead q = some r)) ∧
    (∃ (s : State) (via : Mbx) (t : Nat) (a : List Nat), (s.mbxHas via 3 t a) ∧ (a.length ≠ 4)) ∧
    (∃ (s : State) (via : Mbx) (t : Nat) (a : List Nat), (s.mbxHas via 4 t a) ∧ (a.length = 7) ∧ (s.grng.logBuf.length < 256)) ∧
    (∃ (s : State) (via : Mbx) (t : Nat) (o : Nat) (n : Nat), (s.mbxHas via 5 t [o, n]) ∧ (1 ≤ n) ∧ (n ≤ 60) ∧ (o + 4 * n ≤ 16368)) ∧
    (∃ (s : State) (via : Mbx) (t : Nat) (o : Nat) (w : Nat), (s.mbxHas via 6 t [o, w]) ∧ (o + 4 ≤ 16368)) ∧
    (∃ (s : State) (via : Mbx) (t : Nat) (g : Nat) (b : List Byte), (s.mbxHas via 7 t []) ∧ (s.cfgValid 0 = some (g, b)) ∧ (s.cfgValid 1 = none)) ∧
    (∃ (s : State) (via : Mbx) (t : Nat) (k : Fin 34), (s.mbxHas via 8 t [k.val, 1])) ∧
    (∃ (s : State) (via : Mbx) (t : Nat) (a : Nat) (n : Nat), (s.mbxHas via 8 t [a, n]) ∧ (34 < a + n)) :=
  ⟨⟨(State.reset), (.mgmt [0x1FF0000]), by decide⟩,
   ⟨(st [(R.GRNG_STATUS_RUN, 1), (R.GRNG_CTRL_MGMT_CMD, 1)]), (.mgmt [0x9FF0000]), (9), (255), (0), by decide⟩,
   ⟨(st [(R.GRNG_STATUS_RUN, 1), (R.GRNG_CTRL_MGMT_CMD, 1)]), (.mgmt [0x1FF0040]), (255), (64), by decide⟩,
   ⟨(0), (0), (0), by decide⟩,
   ⟨(st [(R.GRNG_STATUS_RUN, 1), (R.GRNG_CTRL_MGMT_CMD, 1)]), (.mgmt [0x1FF0000]), (255), by unfold State.mbxHas; decide⟩,
   ⟨((st [(R.GRNG_STATUS_RUN, 1), (R.GRNG_CTRL_MGMT_CMD, 1)]).setBytes (logAddr 5) ((⟨1, 0, 0, 0, []⟩ : LogRec).image 5)), (.mgmt [0x2FF0002, 5, 1]), (255), (5), ((⟨1, 0, 0, 0, []⟩ : LogRec).image 5), ⟨by unfold State.mbxHas; decide, by decide, by decide +kernel⟩⟩,
   ⟨((st [(R.GRNG_STATUS_RUN, 1), (R.GRNG_CTRL_MGMT_CMD, 1)]).setBytes (logAddr 5) ((⟨1, 0, 0, 0, []⟩ : LogRec).image 5)), (.mgmt [0x3FF0004, 5, 1, 0, 0]), (255), (5), (0), (0), ((⟨1, 0, 0, 0, []⟩ : LogRec).image 5), ⟨by unfold State.mbxHas; decide, by decide, by decide, by decide +kernel⟩⟩,
   ⟨(st [(R.GRNG_STATUS_RUN, 1), (R.GRNG_CTRL_MGMT_CMD, 1)]), (.mgmt [0x3FF0001, 1]), (255), ([1]), by unfold State.mbxHas; decide⟩,
   ⟨(st [(R.GRNG_STATUS_RUN, 1), (R.GRNG_CTRL_MGMT_CMD, 1)]), (.mgmt [0x4FF0007, 0, 0, 0, 0, 0, 0, 0]), (255), (List.replicate 7 0), by unfold State.mbxHas; decide⟩,
   ⟨(st [(R.GRNG_STATUS_RUN, 1), (R.GRNG_CTRL_MGMT_CMD, 1)]), (.mgmt [0x5FF0002, 16128, 60]), (255), (16128), (60), by unfold State.mbxHas; decide⟩,
   ⟨(st [(R.GRNG_STATUS_RUN, 1), (R.GRNG_CTRL_MGMT_CMD, 1)]), (.mgmt [0x6FF0002, 16364, 7]), (255), (16364), (7), by unfold State.mbxHas; decide⟩,
   ⟨((st [(R.GRNG_STATUS_RUN, 1), (R.GRNG_CTRL_MGMT_CMD, 1)]).setBytes (cfgBase 0) (cfgImage 1 [])), (.mgmt [0x7FF0000]), (255), (1), ([]), ⟨by unfold State.mbxHas; decide, by decide +kernel, by decide +kernel⟩⟩,
   ⟨(st [(R.GRNG_STATUS_RUN, 1), (R.GRNG_CTRL_MGMT_CMD, 1)]), (.mgmt [0x8FF0002, 33, 1]), (255), (33), by unfold State.mbxHas; decide⟩,
   ⟨(st [(R.GRNG_STATUS_RUN, 1), (R.GRNG_CTRL_MGMT_CMD, 1)]), (.mgmt [0x8FF0002, 34, 1]), (255), (34), (1), by unfold State.mbxHas; decide⟩⟩

/-- States and operands that meet the hypotheses of every clause of UpdatesAndLifeCycle. -/
theorem witness_UpdatesAndLifeCycle :
    (∃ (s : State) (via : Mbx) (t : Nat) (k : Nat) (lo : Nat) (hi : Nat) (n : Nat), (s.mbxHas via 0x10 t [k, lo, hi, n]) ∧ (k ≤ 1) ∧ (k = s.grng.active)) ∧
    (∃ (s : State) (via : Mbx) (t : Nat) (k : Nat) (lo : Nat) (hi : Nat) (n : Nat), (s.mbxHas via 0x10 t [k, lo, hi, n]) ∧ (k ≤ 1) ∧ (k ≠ s.grng.active) ∧ (0 < n) ∧ (n ≤ 0x100000) ∧ (s.grng.staging.isSome = true)) ∧
    (∃ (s : State) (via : Mbx) (t : Nat) (k : Nat) (lo : Nat) (hi : Nat) (n : Nat) (l : List Byte), (s.mbxHas via 0x10 t [k, lo, hi, n]) ∧ (k ≤ 1) ∧ (k ≠ s.grng.active) ∧ (0 < n) ∧ (n ≤ 0x100000) ∧ (s.packageClash (lo + hi * 0x100000000) n = false) ∧ (s.grng.staging = none) ∧ (s.bit R.GRNG_STATUS_TRIAL = false) ∧ (s.readShared 0 (lo + hi * 0x100000000) n 0 = (some l, s)) ∧ (s.pkgVerifies l = true) ∧ (s.fld (R.LCS_CNT 0) ≤ pkgSecVer l)) ∧
    (∃ (s : State) (via : Mbx) (t : Nat) (k : Nat) (lo : Nat) (hi : Nat) (n : Nat), (s.mbxHas via 0x10 t [k, lo, hi, n]) ∧ (k ≤ 1) ∧ (k ≠ s.grng.active) ∧ (0 < n) ∧ (n ≤ 0x100000) ∧ (s.grng.staging = none) ∧ (s.bit R.GRNG_STATUS_TRIAL = false) ∧ (s.packageClash (lo + hi * 0x100000000) n = true)) ∧
    (∃ (s : State), (s.grng.staging = none)) ∧
    (∃ (s : State) (m : Bool) (j : Nat) (t : Nat) (l : List Byte), (s.grng.staging = some (2 + 256 * j, l, t, m)) ∧ (j ≤ 255) ∧ (l.length < 0x100000000)) ∧
    (∃ (s : State) (m : Bool) (k : Nat) (t : Nat) (l : List Byte), (s.grng.staging = some (k, l, t, m)) ∧ (k ≤ 1)) ∧
    (∃ (s : State) (via : Mbx) (t : Nat), (s.mbxHas via 0x11 t []) ∧ (s.grng.staged = none)) ∧
    (∃ (s : State) (via : Mbx) (t : Nat) (k : Nat), (s.mbxHas via 0x11 t []) ∧ (s.grng.staged = some k)) ∧
    (∃ (s : State) (via : Mbx) (t : Nat), (s.mbxHas via 0x12 t []) ∧ (s.bit R.GRNG_STATUS_TRIAL = false)) ∧
    (∃ (s : State) (t : Nat) (ws : List Word), (s.mbxHas (.mgmt ws) 0x12 t []) ∧ (s.bit R.GRNG_STATUS_TRIAL = true) ∧ (s.fld (R.LCS_CNT 0) < 0x100000000)) ∧
    (∃ (s : State), (s.bit R.GRNG_STATUS_TRIAL = false)) ∧
    (∃ (s : State), (s.bit R.GRNG_STATUS_TRIAL = true)) ∧
    (∃ (s : State) (via : Mbx) (t : Nat) (k : Nat) (lo : Nat) (hi : Nat), (s.mbxHas via 0x13 t [k, lo, hi]) ∧ (255 < k ∨ s.norLe (libEntry k + 4) = 0)) ∧
    (∃ (s : State) (v : State) (via : Mbx) (t : Nat) (k : Nat) (lo : Nat) (hi : Nat) (n : Nat) (l : List Byte), (s.mbxHas via 0x13 t [k, lo, hi]) ∧ (k ≤ 255) ∧ (n = s.norLe (libEntry k + 4)) ∧ (0 < n) ∧ (n ≤ 0x10000000) ∧ (l = s.norBytes (s.norLe (libEntry k)) n) ∧ (crc32c l = s.norLe (libEntry k + 12)) ∧ (s.packageClash (lo + hi * 0x100000000) n = false) ∧ (s.writeShared 0 (lo + hi * 0x100000000) l 0 = (true, v))) ∧
    (∃ (s : State) (via : Mbx) (t : Nat) (k : Nat) (lo : Nat) (hi : Nat) (n : Nat) (l : List Byte), (s.mbxHas via 0x13 t [k, lo, hi]) ∧ (k ≤ 255) ∧ (n = s.norLe (libEntry k + 4)) ∧ (0 < n) ∧ (n ≤ 0x10000000) ∧ (l = s.norBytes (s.norLe (libEntry k)) n) ∧ (crc32c l ≠ s.norLe (libEntry k + 12))) ∧
    (∃ (s : State) (via : Mbx) (t : Nat) (k : Nat) (lo : Nat) (hi : Nat) (n : Nat) (l : List Byte), (s.mbxHas via 0x13 t [k, lo, hi]) ∧ (k ≤ 255) ∧ (n = s.norLe (libEntry k + 4)) ∧ (0 < n) ∧ (n ≤ 0x10000000) ∧ (l = s.norBytes (s.norLe (libEntry k)) n) ∧ (crc32c l = s.norLe (libEntry k + 12)) ∧ (s.packageClash (lo + hi * 0x100000000) n = true)) ∧
    (∃ (s : State) (via : Mbx) (t : Nat) (k : Fin 8), (s.mbxHas via 0x14 t [k.val])) ∧
    (∃ (s : State) (via : Mbx) (t : Nat) (k : Nat), (s.mbxHas via 0x15 t [k]) ∧ (7 < k)) ∧
    (∃ (s : State) (via : Mbx) (t : Nat) (k : Fin 8) (b : List Byte), (s.mbxHas via 0x15 t [k.val]) ∧ (cfgBody (s.norBytes (0x200000 + 0x10000 * k.val) (16 + Nat.min (s.norLe (0x200000 + 0x10000 * k.val + 8)) 16368)) = some b)) ∧
    (∃ (s : State) (ws : List Word) (t : Nat) (a : List Nat), (s.mbxHas (.mgmt ws) 0x20 t a)) ∧
    (∃ (s : State) (ws : List Word) (t : Nat) (a : List Nat), (s.mbxHas (.mgmt ws) 0x21 t a)) ∧
    (∃ (s : State) (ws : List Word) (t : Nat) (a : List Nat), (s.mbxHas (.mgmt ws) 0x23 t a)) ∧
    (∃ (s : State) (t : Nat) (n : Nat), (s.mbxHas .host 0x20 t [n]) ∧ (s.grng.staging = none) ∧ (lcPath (s.fld R.LCS_STATE_STATE) n = some false) ∧ (n = 1 → s.fld R.LCS_KEYVALID ≠ 0)) ∧
    (∃ (s : State) (t : Nat) (n : Nat), (s.mbxHas .host 0x20 t [n]) ∧ (s.grng.staging = none) ∧ (lcPath (s.fld R.LCS_STATE_STATE) n = none)) ∧
    (∃ (s : State) (t : Nat) (k : Nat) (a : List Nat), (s.mbxHas .host 0x21 t (k :: a)) ∧ (s.fld R.LCS_STATE_STATE ≤ 1) ∧ (a.length = 16) ∧ (k ≤ 3)) ∧
    (∃ (s : State) (via : Mbx) (t : Nat) (k : Nat), (s.mbxHas via 0x22 t [k]) ∧ (2 ≤ k) ∧ (k ≤ 7) ∧ (s.fld (R.LCS_CNT k) < 0xFFFFFFFF)) ∧
    (∃ (s : State) (via : Mbx) (t : Nat) (k : Nat), (s.mbxHas via 0x22 t [k]) ∧ (k < 2 ∨ 7 < k)) ∧
    (∃ (s : State) (t : Nat) (v : Nat), (s.mbxHas .host 0x23 t [v]) ∧ (v ≤ 1)) ∧
    (∃ (s : State) (via : Mbx) (t : Nat) (n : Nat), (s.mbxOpen via = true) ∧ (s.fld R.LCS_STATE_STATE = 4) ∧ (t < 256) ∧ (n ≤ 63) ∧ (arg (s.mbxWords via) 0 = 0x23000000 + t * 0x10000 + n)) ∧
    (∃ (s : State) (via : Mbx) (t : Nat) (a : List Nat), (s.mbxHas via 0x30 t a)) ∧
    (∃ (s : State) (via : Mbx) (t : Nat) (a : List Nat), (s.mbxHas via 0x31 t a)) :=
  ⟨⟨(st [(R.GRNG_STATUS_RUN, 1), (R.GRNG_CTRL_MGMT_CMD, 1)]), (.mgmt [0x10FF0004, 0, 0, 0, 4]), (255), (0), (0), (0), (4), by unfold State.mbxHas; decide⟩,
   ⟨({ st [(R.GRNG_STATUS_RUN, 1), (R.GRNG_CTRL_MGMT_CMD, 1)] with grng := { GrngSt.reset with staging := some (0, [], 0, false) } }), (.mgmt [0x10FF0004, 1, 0, 0, 1048576]), (255), (1), (0), (0), (0x100000), by unfold State.mbxHas; decide⟩,
   ⟨((st [(R.GRNG_STATUS_RUN, 1), (R.GRNG_CTRL_MGMT_CMD, 1), (R.LCS_SIGREQ_FW, 0)]).setBytes granBase (leBytes 4 0x56594657 ++ List.replicate 124 0)), (.mgmt [0x10FF0004, 1, 0x10000000, 0, 128]), (255), (1), (granBase), (0), (128), (leBytes 4 0x56594657 ++ List.replicate 124 0), ⟨by unfold State.mbxHas; decide, by decide, by decide, by decide, by decide, by decide +kernel, by decide, by decide, by decide +kernel, by decide +kernel, by decide +kernel⟩⟩,
   ⟨({ st [(R.GRNG_STATUS_RUN, 1), (R.GRNG_CTRL_MGMT_CMD, 1)] with marv := { MarvSt.reset with upd := some (granBase, 8, 0) } }), (.mgmt [0x10FF0004, 1, 0x10000000, 0, 128]), (255), (1), (granBase), (0), (128), by unfold State.mbxHas; decide⟩,
   ⟨({ State.reset with grng := { GrngSt.reset with staging := none } }), by decide⟩,
   ⟨({ State.reset with grng := { GrngSt.reset with staging := some (2 + 256 * 0, [], 0, false) } }), (false), (0), (0), ([]), by decide⟩,
   ⟨({ State.reset with grng := { GrngSt.reset with staging := some (1, [], 0, false) } }), (false), (1), (0), ([]), by decide⟩,
   ⟨(st [(R.GRNG_STATUS_RUN, 1), (R.GRNG_CTRL_MGMT_CMD, 1)]), (.mgmt [0x11FF0000]), (255), by unfold State.mbxHas; decide⟩,
   ⟨({ st [(R.GRNG_STATUS_RUN, 1), (R.GRNG_CTRL_MGMT_CMD, 1)] with grng := { GrngSt.reset with staged := some 1 } }), (.mgmt [0x11FF0000]), (255), (1), by unfold State.mbxHas; decide⟩,
   ⟨(st [(R.GRNG_STATUS_RUN, 1), (R.GRNG_CTRL_MGMT_CMD, 1)]), (.mgmt [0x12FF0000]), (255), by unfold State.mbxHas; decide⟩,
   ⟨(st [(R.GRNG_STATUS_RUN, 1), (R.GRNG_CTRL_MGMT_CMD, 1), (R.GRNG_STATUS_TRIAL, 1)]), (255), ([0x12FF0000]), by unfold State.mbxHas; decide⟩,
   ⟨(st [(R.GRNG_STATUS_TRIAL, 0)]), by decide⟩,
   ⟨(st [(R.GRNG_STATUS_TRIAL, 1)]), by decide⟩,
   ⟨(st [(R.GRNG_STATUS_RUN, 1), (R.GRNG_CTRL_MGMT_CMD, 1)]), (.mgmt [0x13FF0003, 256, 0, 0]), (255), (256), (0), (0), by unfold State.mbxHas; decide⟩,
   ⟨({ st [(R.GRNG_STATUS_RUN, 1), (R.GRNG_CTRL_MGMT_CMD, 1)] with grng := { GrngSt.reset with nor := FMap.setRun 0 [] (libEntry 255) (leBytes 4 0x2A0000 ++ leBytes 4 8 ++ leBytes 4 0 ++ leBytes 4 (crc32c (List.replicate 8 0))) } }), ((({ st [(R.GRNG_STATUS_RUN, 1), (R.GRNG_CTRL_MGMT_CMD, 1)] with grng := { GrngSt.reset with nor := FMap.setRun 0 [] (libEntry 255) (leBytes 4 0x2A0000 ++ leBytes 4 8 ++ leBytes 4 0 ++ leBytes 4 (crc32c (List.replicate 8 0))) } }).writeShared 0 granBase (List.replicate 8 0) 0).2), (.mgmt [0x13FF0003, 255, 0x10000000, 0]), (255), (255), (granBase), (0), (8), (List.replicate 8 0), ⟨by unfold State.mbxHas; decide, by decide, by decide +kernel, by decide, by decide, by decide +kernel, by decide +kernel, by decide +kernel, by decide +kernel⟩⟩,
   ⟨({ st [(R.GRNG_STATUS_RUN, 1), (R.GRNG_CTRL_MGMT_CMD, 1)] with grng := { GrngSt.reset with nor := FMap.setRun 0 [] (libEntry 255) (leBytes 4 0x2A0000 ++ leBytes 4 8) } }), (.mgmt [0x13FF0003, 255, 0x10000000, 0]), (255), (255), (granBase), (0), (8), (List.replicate 8 0), ⟨by unfold State.mbxHas; decide, by decide, by decide +kernel, by decide, by decide, by decide +kernel, by decide +kernel⟩⟩,
   ⟨({ st [(R.GRNG_STATUS_RUN, 1), (R.GRNG_CTRL_MGMT_CMD, 1)] with marv := { MarvSt.reset with upd := some (granBase, 8, 0) }, grng := { GrngSt.reset with nor := FMap.setRun 0 [] (libEntry 255) (leBytes 4 0x2A0000 ++ leBytes 4 8 ++ leBytes 4 0 ++ leBytes 4 (crc32c (List.replicate 8 0))) } }), (.mgmt [0x13FF0003, 255, 0x10000000, 0]), (255), (255), (granBase), (0), (8), (List.replicate 8 0), ⟨by unfold State.mbxHas; decide, by decide, by decide +kernel, by decide, by decide, by decide +kernel, by decide +kernel, by decide +kernel⟩⟩,
   ⟨(st [(R.GRNG_STATUS_RUN, 1), (R.GRNG_CTRL_MGMT_CMD, 1)]), (.mgmt [0x14FF0001, 7]), (255), (7), by unfold State.mbxHas; decide⟩,
   ⟨(st [(R.GRNG_STATUS_RUN, 1), (R.GRNG_CTRL_MGMT_CMD, 1)]), (.mgmt [0x15FF0001, 8]), (255), (8), by unfold State.mbxHas; decide⟩,
   ⟨({ st [(R.GRNG_STATUS_RUN, 1), (R.GRNG_CTRL_MGMT_CMD, 1)] with grng := { GrngSt.reset with nor := FMap.setRun 0 [] 0x270000 (cfgImage 1 []) } }), (.mgmt [0x15FF0001, 7]), (255), (7), ([]), ⟨by unfold State.mbxHas; decide, by decide +kernel⟩⟩,
   ⟨(st [(R.GRNG_STATUS_RUN, 1), (R.GRNG_CTRL_MGMT_CMD, 1)]), ([0x20FF0000]), (255), ([]), by unfold State.mbxHas; decide⟩,
   ⟨(st [(R.GRNG_STATUS_RUN, 1), (R.GRNG_CTRL_MGMT_CMD, 1)]), ([0x21FF0000]), (255), ([]), by unfold State.mbxHas; decide⟩,
   ⟨(st [(R.GRNG_STATUS_RUN, 1), (R.GRNG_CTRL_MGMT_CMD, 1)]), ([0x23FF0000]), (255), ([]), by unfold State.mbxHas; decide⟩,
   ⟨(st [(R.GRNG_STATUS_RUN, 1), (R.GRNG_CTRL_MGMT_CMD, 1), (R.PCIE_MBX_H2G 0, 0x20FF0001), (R.PCIE_MBX_H2G 1, 0x1), (R.LCS_KEYVALID, 1)]), (255), (1), by unfold State.mbxHas; decide⟩,
   ⟨(st [(R.GRNG_STATUS_RUN, 1), (R.GRNG_CTRL_MGMT_CMD, 1), (R.PCIE_MBX_H2G 0, 0x20FF0001), (R.PCIE_MBX_H2G 1, 0x5)]), (255), (5), by unfold State.mbxHas; decide⟩,
   ⟨(st [(R.GRNG_STATUS_RUN, 1), (R.GRNG_CTRL_MGMT_CMD, 1), (R.PCIE_MBX_H2G 0, 0x21FF0011), (R.PCIE_MBX_H2G 1, 0x3)]), (255), (3), (List.replicate 16 0), by unfold State.mbxHas; decide⟩,
   ⟨(st [(R.GRNG_STATUS_RUN, 1), (R.GRNG_CTRL_MGMT_CMD, 1)]), (.mgmt [0x22FF0001, 7]), (255), (7), by unfold State.mbxHas; decide⟩,
   ⟨(st [(R.GRNG_STATUS_RUN, 1), (R.GRNG_CTRL_MGMT_CMD, 1)]), (.mgmt [0x22FF0001, 1]), (255), (1), by unfold State.mbxHas; decide⟩,
   ⟨(st [(R.GRNG_STATUS_RUN, 1), (R.GRNG_CTRL_MGMT_CMD, 1), (R.PCIE_MBX_H2G 0, 0x23FF0001), (R.PCIE_MBX_H2G 1, 0x1)]), (255), (1), by unfold State.mbxHas; decide⟩,
   ⟨(st [(R.LCS_STATE_STATE, 4), (R.GRNG_CTRL_MGMT_CMD, 1)]), (.mgmt [0x23FF003F]), (255), (63), by decide⟩,
   ⟨(st [(R.GRNG_STATUS_RUN, 1), (R.GRNG_CTRL_MGMT_CMD, 1)]), (.mgmt [0x30FF0000]), (255), ([]), by unfold State.mbxHas; decide⟩,
   ⟨(st [(R.GRNG_STATUS_RUN, 1), (R.GRNG_CTRL_MGMT_CMD, 1)]), (.mgmt [0x31FF0000]), (255), ([]), by unfold State.mbxHas; decide⟩⟩

/-- States and operands that meet the hypotheses of every clause of GrangeCommands. -/
theorem witness_GrangeCommands :
    (∃ (s : State) (v : Word), (v.toNat % 65536 ≠ 0xC35A ∨ s.bit R.GRNG_WDOG_EN = false)) ∧
    (∃ (s : State) (v : Word), (v.toNat % 65536 = 0xC35A) ∧ (s.bit R.GRNG_WDOG_EN = true) ∧ (s.fld R.GRNG_WDOG_TIMEOUT < 65536)) ∧
    (∃ (s : State), (s.bit R.GRNG_WDOG_EN = false ∨ s.grng.waitHost = true)) ∧
    (∃ (s : State), (s.bit R.GRNG_WDOG_EN = true) ∧ (s.grng.waitHost = false) ∧ (s.holdsClaim = true) ∧ (s.bit R.GRNG_WDOG_ACTION = false)) ∧
    (∃ (s : State), (s.bit R.GRNG_WDOG_EN = true) ∧ (s.grng.waitHost = false) ∧ (s.holdsClaim = false) ∧ (s.bit R.GRNG_STATUS_TRIAL = false) ∧ (s.bit R.GRNG_WDOG_ACTION = false)) ∧
    (∃ (s : State), (s.bit R.GRNG_WDOG_EN = true) ∧ (s.grng.waitHost = false) ∧ (s.bit R.GRNG_WDOG_ACTION = true) ∧ (s.holdsClaim = false) ∧ (s.bit R.GRNG_STATUS_TRIAL = false)) ∧
    (∃ (s : State), (s.fld R.LCS_STATE_STATE = 4) ∧ (s.grng.staging = none) ∧ (s.grng.owed = [])) ∧
    (∃ (s : State) (k : Nat) (p : List Byte), ((s.fwSlot k).ok = true) ∧ (s.pkgVerifies (s.fwSlot k).bytes = true) ∧ (p = ((s.fwSlot k).bytes.drop 64).take (pkgLength (s.fwSlot k).bytes))) ∧
    (∃ (s : State) (n : Fin 20) (v : Int), (8 ≤ n.val) ∧ (s.sens = []) ∧ (s.fld (R.SENS_S_STATUS_REJ_CNT n.val) = 0) ∧ (v < 0 ∨ 1200 < v)) ∧
    (∃ (s : State) (n : Fin 8) (v : Int), (s.sens = []) ∧ (-6000 ≤ v) ∧ (v ≤ 16000) ∧ (v < s.fld R.SENS_T_LIM_HIGH) ∧ (v < s.fld R.SENS_T_LIM_CRIT) ∧ (s.fld (R.SENS_S_STATUS_FAILED n.val) = 0) ∧ (s.fld (R.SENS_S_STATUS_HIGH n.val) = 0) ∧ (s.fld (R.SENS_S_STATUS_LOW n.val) = 0)) ∧
    (∃ (s : State), (s.grng.logBuf = [])) ∧
    (∃ (s : State) (r : LogRec) (rest : List LogRec), (s.grng.logBuf = r :: rest) ∧ (s.grng.dropped = 0) ∧ (s.fld R.GRNG_LOG_HEAD < 0xFFFFFFFF)) :=
  ⟨⟨(State.reset), (0), by decide⟩,
   ⟨(st [(R.GRNG_WDOG_EN, 1), (R.GRNG_WDOG_TIMEOUT, 65535)]), (0xC35A), by decide⟩,
   ⟨(st [(R.GRNG_WDOG_EN, 0)]), by decide⟩,
   ⟨({ st [(R.GRNG_WDOG_EN, 1), (R.PAIR_STATUS_CLAIM_HELD, 1), (R.GRNG_WDOG_ACTION, 0)] with grng := { GrngSt.reset with waitHost := false } }), by decide⟩,
   ⟨({ st [(R.GRNG_WDOG_EN, 1), (R.PAIR_STATUS_CLAIM_HELD, 0), (R.GRNG_STATUS_TRIAL, 0), (R.GRNG_WDOG_ACTION, 0)] with grng := { GrngSt.reset with waitHost := false } }), by decide⟩,
   ⟨({ st [(R.GRNG_WDOG_EN, 1), (R.GRNG_WDOG_ACTION, 1), (R.PAIR_STATUS_CLAIM_HELD, 0), (R.GRNG_STATUS_TRIAL, 0)] with grng := { GrngSt.reset with waitHost := false } }), by decide⟩,
   ⟨({ st [(R.LCS_STATE_STATE, 4)] with grng := { GrngSt.reset with staging := none, owed := [] } }), by decide⟩,
   ⟨({ st [(R.LCS_SIGREQ_FW, 0)] with grng := { GrngSt.reset with slots := [(1, ⟨true, leBytes 4 0x56594657 ++ List.replicate 124 0⟩)] } }), (1), ([]), ⟨by decide, by decide +kernel, by decide +kernel⟩⟩,
   ⟨(State.reset), (8), (1201), by decide⟩,
   ⟨(st [((R.SENS_S_STATUS_FAILED (0 : Fin 8).val), 0), ((R.SENS_S_STATUS_HIGH (0 : Fin 8).val), 0), ((R.SENS_S_STATUS_LOW (0 : Fin 8).val), 0)]), (0), (-6000), by decide⟩,
   ⟨({ State.reset with grng := { GrngSt.reset with logBuf := [] } }), by decide⟩,
   ⟨({ State.reset with grng := { GrngSt.reset with logBuf := ⟨1, 0, 0, 0, []⟩ :: [], dropped := 0 } }), (⟨1, 0, 0, 0, []⟩), ([]), by decide⟩⟩

/-- States and operands that meet the hypotheses of every clause of PowerCommands. -/
theorem witness_PowerCommands :
    (∃ (s : State) (m : Nat), (s.fld R.PWR_VIN_CFG_THRESH < m)) ∧
    (∃ (s : State) (m : Nat), (s.fld R.PWR_VIN_CFG_THRESH < m) ∧ (s.bit R.PWR_STATUS_STANDBY = false)) ∧
    (∃ (s : State) (m : Nat), (m < s.fld R.PWR_VIN_CFG_THRESH - s.fld R.PWR_VIN_CFG_HYST)) ∧
    (∃ (s : State) (m : Nat), (s.fld R.PWR_VIN_CFG_THRESH - s.fld R.PWR_VIN_CFG_HYST ≤ m) ∧ (m ≤ s.fld R.PWR_VIN_CFG_THRESH)) ∧
    (∃ (s : State), (s.fld R.PWR_CTRL_FORCE = 0) ∧ (s.fld R.PWR_STATUS_FEED = 0) ∧ (s.fld R.PWR_STATUS_MAIN_OK = 0) ∧ (s.fld R.PWR_STATUS_BACK_OK = 1)) ∧
    (∃ (s : State), (s.bit R.PWR_STATUS_MAIN_OK = true ∨ s.bit R.PWR_STATUS_BACK_OK = false ∨ s.fld R.PWR_STATUS_FEED ≠ 0)) ∧
    (∃ (s : State), (s.fld R.PWR_CTRL_FORCE = 0) ∧ (s.fld R.PWR_STATUS_FEED = 1) ∧ (s.fld R.PWR_STATUS_MAIN_OK = 1)) ∧
    (∃ (s : State), (s.bit R.PWR_STATUS_MAIN_OK = false ∨ s.fld R.PWR_STATUS_FEED ≠ 1)) ∧
    (∃ (s : State), (s.pwr.incoming = none)) ∧
    (∃ (s : State) (t : Fin 2), (s.pwr.incoming = some t.val) ∧ (s.pwr.forceNext = false)) ∧
    (∃ (s : State), (s.pwr.incoming = none) ∧ (s.fld R.PWR_STATUS_FEED = 1)) ∧
    (∃ (s : State), (s.pwr.incoming.isSome = true)) ∧
    (∃ (s : State) (b : Bool), (s.bit R.PWR_STATUS_AON_SRC = b)) ∧
    (∃ (s : State) (b : Bool), (s.bit R.PWR_STATUS_AON_SRC ≠ b)) ∧
    (∃ (s : State) (v : Word), (s.bit R.PWR_CTRL_AUTO = true) ∧ (s.writeUnsafe true 0x40010008 v.toNat = none)) ∧
    (∃ (s : State) (v : Word), (s.bit R.PWR_CTRL_AUTO = false) ∧ (s.domReqUnsafe v.toNat = true)) ∧
    (∃ (s : State) (v : Word) (d : Fin 12), (s.bit R.PWR_CTRL_AUTO = false) ∧ (s.domReqUnsafe v.toNat = false) ∧ (d.val ≠ 0) ∧ (d.val ≠ 7) ∧ (d.val ≠ 8) ∧ (bitOf v.toNat d.val = false) ∧ (s.domOn d.val = true) ∧ (bitOf s.domHeld d.val = true)) ∧
    (∃ (s : State) (d : Fin 12), (d.val ≠ 7) ∧ (d.val ≠ 8) ∧ (bitOf s.domWanted d.val = true) ∧ (s.domOn d.val = false) ∧ (s.bit R.PWR_STATUS_STANDBY = false)) ∧
    (∃ (s : State) (d : Fin 12), (s.domOn d.val = true ∨ bitOf s.domWanted d.val = false)) ∧
    (∃ (s : State), (s.pwr.vout = none)) ∧
    (∃ (s : State), (s.pwr.vout = none)) ∧
    (∃ (s : State), (s.pwr.vout.isSome = true)) ∧
    (∃ (s : State) (t : Nat) (m : Nat) (up : Bool), (s.pwr.vout = some (t, up)) ∧ (s.bit R.PWR_STATUS_PMB_BUSY = true) ∧ (m < 65536)) ∧
    (∃ (s : State), (s.bit R.TICK_CTRL_RUN = true ∨ s.bit R.PAIR_CTRL_EN = true)) ∧
    (∃ (s : State), (s.bit R.TICK_CTRL_RUN = false) ∧ (s.bit R.PAIR_CTRL_EN = false) ∧ (s.bit R.PWR_STATUS_STANDBY = false) ∧ (∀ n : Fin 4, s.bit (R.NET_STATUS_LINK n.val) = false)) ∧
    (∃ (s : State), (s.bit R.TICK_CTRL_RUN = false) ∧ (s.bit R.PAIR_CTRL_EN = false) ∧ (s.bit R.PWR_STATUS_STANDBY = false)) ∧
    (∃ (s : State), (s.bit R.PWR_STATUS_STANDBY = false)) ∧
    (∃ (s : State) (k : Fin 6), (s.bit R.PWR_STATUS_STANDBY = true) ∧ (k.val = 5 ∨ bitOf (s.fld R.PWR_WAKE_EN) k.val = true) ∧ (s.pwr.savedA < 8) ∧ (s.pwr.savedB < 8)) ∧
    (∃ (s : State), (s.fld R.PWR_WAKE_TIMER = 0)) ∧
    (∃ (s : State), (s.fld R.PWR_WAKE_TIMER ≠ 0) ∧ (s.bit R.PWR_STATUS_STANDBY = true) ∧ (bitOf (s.fld R.PWR_WAKE_EN) 4 = true)) :=
  ⟨⟨(st [(R.PWR_VIN_CFG_THRESH, 10), (R.PWR_VIN_CFG_HYST, 2)]), (11), by decide⟩,
   ⟨(st [(R.PWR_VIN_CFG_THRESH, 10), (R.PWR_VIN_CFG_HYST, 2)]), (11), by decide⟩,
   ⟨(st [(R.PWR_VIN_CFG_THRESH, 10), (R.PWR_VIN_CFG_HYST, 2)]), (7), by decide⟩,
   ⟨(st [(R.PWR_VIN_CFG_THRESH, 10), (R.PWR_VIN_CFG_HYST, 2)]), (8), by decide⟩,
   ⟨(st [(R.PWR_CTRL_FORCE, 0), (R.PWR_STATUS_FEED, 0), (R.PWR_STATUS_MAIN_OK, 0), (R.PWR_STATUS_BACK_OK, 1)]), by decide⟩,
   ⟨(st [(R.PWR_STATUS_MAIN_OK, 1)]), by decide⟩,
   ⟨(st [(R.PWR_CTRL_FORCE, 0), (R.PWR_STATUS_FEED, 1), (R.PWR_STATUS_MAIN_OK, 1)]), by decide⟩,
   ⟨(st [(R.PWR_STATUS_MAIN_OK, 0)]), by decide⟩,
   ⟨({ State.reset with pwr := { PwrSt.reset with incoming := none } }), by decide⟩,
   ⟨({ State.reset with pwr := { PwrSt.reset with incoming := some 1 } }), (1), by decide⟩,
   ⟨({ st [(R.PWR_STATUS_FEED, 1)] with pwr := { PwrSt.reset with incoming := none } }), by decide⟩,
   ⟨({ State.reset with pwr := { PwrSt.reset with incoming := some 1 } }), by decide⟩,
   ⟨(State.reset), (false), by decide⟩,
   ⟨(State.reset), (true), by decide⟩,
   ⟨(st [(R.PWR_CTRL_AUTO, 1)]), (0), by decide⟩,
   ⟨(st [(R.PWR_CTRL_AUTO, 0), (R.TICK_CTRL_RUN, 1)]), (0), by decide⟩,
   ⟨(running { img0 with coreMask := 1 } (st [(R.PWR_CTRL_AUTO, 0), (R.PWR_DOM_STATUS_ON, 7)])), (0), (2), by decide⟩,
   ⟨(st [(R.PWR_CTRL_AUTO, 0), (R.PWR_DOM_REQ, 2048)]), (11), by decide⟩,
   ⟨(State.reset), (0), by decide⟩,
   ⟨({ State.reset with pwr := { PwrSt.reset with vout := none } }), by decide⟩,
   ⟨({ State.reset with pwr := { PwrSt.reset with vout := none } }), by decide⟩,
   ⟨({ State.reset with pwr := { PwrSt.reset with vout := some (0, true) } }), by decide⟩,
   ⟨({ st [(R.PWR_STATUS_PMB_BUSY, 1)] with pwr := { PwrSt.reset with vout := some (0, true) } }), (0), (65535), (true), by decide⟩,
   ⟨(st [(R.TICK_CTRL_RUN, 1)]), by decide⟩,
   ⟨(st [(R.TICK_CTRL_RUN, 0), (R.PAIR_CTRL_EN, 0), (R.PWR_STATUS_STANDBY, 0)]), by decide⟩,
   ⟨(st [(R.TICK_CTRL_RUN, 0), (R.PAIR_CTRL_EN, 0), (R.PWR_STATUS_STANDBY, 0)]), by decide⟩,
   ⟨(st [(R.PWR_STATUS_STANDBY, 0)]), by decide⟩,
   ⟨(st [(R.PWR_STATUS_STANDBY, 1)]), (5), by decide⟩,
   ⟨(st [(R.PWR_WAKE_TIMER, 0)]), by decide⟩,
   ⟨(st [(R.PWR_WAKE_TIMER, 1), (R.PWR_STATUS_STANDBY, 1), (R.PWR_WAKE_EN, 16)]), by decide⟩⟩

/-- States and operands that meet the hypotheses of every clause of ResetsAndBoot. -/
theorem witness_ResetsAndBoot :
    (∃ (v : Word), (v.toNat % 65536 ≠ 0xA5C3)) ∧
    (∃ (v : Word), (v.toNat % 65536 = 0xA5C3)) ∧
    (∃ (s : State), (s.bit R.RST_CTRL = true)) ∧
    (∃ (s : State), (s.bit R.RST_CTRL = false)) ∧
    (∃ (b : Fin 128), (resets b.val = false)) ∧
    (∃ (b : Fin 128), (resets b.val = true)) ∧
    (∃ (s : State), (s.grng.booted = false)) ∧
    (∃ (s : State), (s.grng.booted = true)) ∧
    (∃ (s : State), (s.grng.booted = false) ∧ (s.fld R.LCS_STATE_STATE = 4) ∧ (s.bit R.LCS_STATE_PENDING = false)) :=
  ⟨⟨(0), by decide⟩,
   ⟨(0xA5C3), by decide⟩,
   ⟨(st [(R.RST_CTRL, 1)]), by decide⟩,
   ⟨(st [(R.RST_CTRL, 0)]), by decide⟩,
   ⟨(0), by decide⟩,
   ⟨(46), by decide⟩,
   ⟨({ State.reset with grng := { GrngSt.reset with booted := false } }), by decide⟩,
   ⟨({ State.reset with grng := { GrngSt.reset with booted := true } }), by decide⟩,
   ⟨({ st [(R.LCS_STATE_STATE, 4), (R.LCS_STATE_PENDING, 0)] with grng := { GrngSt.reset with booted := false } }), by decide⟩⟩

/-- States and operands that meet the hypotheses of every clause of IatorInstructionsComplete. -/
theorem witness_IatorInstructionsComplete :
    (∃ (s : State) (n : Fin 64) (x : _) (y : _), (s.iatorReady n.val (.nop x y))) ∧
    (∃ (s : State) (n : Fin 64) (x : _) (y : _), (s.iatorReady n.val (.tend x y))) ∧
    (∃ (s : State) (n : Fin 64) (x : _) (y : _), (s.iatorReady n.val (.rts x y))) ∧
    (∃ (s : State) (n : Fin 64) (c : _) (a : _), (s.iatorReady n.val (.doI c a))) ∧
    (∃ (s : State) (n : Fin 64) (r : _) (b : _) (a : _), (s.iatorReady n.val (.dor r b a))) ∧
    (∃ (s : State) (n : Fin 64) (t : _), (s.iatorReady n.val (.bra t))) ∧
    (∃ (s : State) (n : Fin 64) (c : _) (l : _) (t : _), (s.iatorReady n.val (.bcc c l t))) ∧
    (∃ (s : State) (n : Fin 64) (t : _), (s.iatorReady n.val (.jsr t))) ∧
    (∃ (s : State) (n : Fin 64) (d : _) (v : _), (s.iatorReady n.val (.ldi d v))) ∧
    (∃ (s : State) (n : Fin 64) (m : _) (r : _) (d : _) (a : _) (b : _) (x : _) (y : _), (s.iatorReady n.val (.mul false m r d a b x y))) ∧
    (∃ (s : State) (n : Fin 64) (m : _) (r : _) (d : _) (a : _) (b : _) (x : _) (y : _), (s.iatorReady n.val (.mul true m r d a b x y))) ∧
    (∃ (s : State) (n : Fin 64) (r : _) (d : _) (x : _) (y : _), (s.iatorReady n.val (.two .add r d x y))) ∧
    (∃ (s : State) (n : Fin 64) (r : _) (d : _) (x : _) (y : _), (s.iatorReady n.val (.two .sub r d x y))) ∧
    (∃ (s : State) (n : Fin 64) (r : _) (d : _) (x : _) (y : _), (s.iatorReady n.val (.two .tfr r d x y))) ∧
    (∃ (s : State) (n : Fin 64) (r : _) (d : _) (x : _) (y : _), (s.iatorReady n.val (.two .cmp r d x y))) ∧
    (∃ (s : State) (n : Fin 64) (r : _) (d : _) (x : _) (y : _), (s.iatorReady n.val (.two .max r d x y))) ∧
    (∃ (s : State) (n : Fin 64) (r : _) (d : _) (x : _) (y : _), (s.iatorReady n.val (.two .min r d x y))) ∧
    (∃ (s : State) (n : Fin 64) (r : _) (d : _) (x : _) (y : _), (s.iatorReady n.val (.two .maxa r d x y))) ∧
    (∃ (s : State) (n : Fin 64) (d : _) (c : _) (x : _) (y : _), (s.iatorReady n.val (.one .clr d c x y))) ∧
    (∃ (s : State) (n : Fin 64) (d : _) (c : _) (x : _) (y : _), (s.iatorReady n.val (.one .rnd d c x y))) ∧
    (∃ (s : State) (n : Fin 64) (d : _) (c : _) (x : _) (y : _), (s.iatorReady n.val (.one .neg d c x y))) ∧
    (∃ (s : State) (n : Fin 64) (d : _) (c : _) (x : _) (y : _), (s.iatorReady n.val (.one .abs d c x y))) ∧
    (∃ (s : State) (n : Fin 64) (d : _) (c : _) (x : _) (y : _), (s.iatorReady n.val (.one .asl d c x y))) ∧
    (∃ (s : State) (n : Fin 64) (d : _) (c : _) (x : _) (y : _), (s.iatorReady n.val (.one .asr d c x y))) ∧
    (∃ (s : State) (n : Fin 64) (d : _) (c : _) (x : _) (y : _), (s.iatorReady n.val (.one .fold d c x y))) ∧
    (∃ (s : State) (n : Fin 64) (d : _) (c : _) (x : _) (y : _), (s.iatorReady n.val (.one .sat d c x y))) ∧
    (∃ (s : State) (n : Fin 64) (b : _) (f : _) (r : _) (g : _) (p : _) (x : _) (y : _), (s.iatorReady n.val (.gran .gld b f r g p x y))) ∧
    (∃ (s : State) (n : Fin 64) (b : _) (f : _) (r : _) (g : _) (p : _) (x : _) (y : _), (s.iatorReady n.val (.gran .gst b f r g p x y))) ∧
    (∃ (s : State) (n : Fin 64) (b : _) (f : _) (r : _) (g : _) (p : _) (x : _) (y : _), (s.iatorReady n.val (.gran .gadd b f r g p x y))) ∧
    (∃ (s : State) (n : Fin 64) (b : _) (f : _) (r : _) (g : _) (p : _) (x : _) (y : _), (s.iatorReady n.val (.gran .gswp b f r g p x y))) ∧
    (∃ (s : State) (n : Fin 64) (b : _) (f : _) (r : _) (h : _) (x : _) (y : _), (s.iatorReady n.val (.hop false b f r h x y))) ∧
    (∃ (s : State) (n : Fin 64) (b : _) (f : _) (r : _) (h : _) (x : _) (y : _), (s.iatorReady n.val (.hop true b f r h x y))) ∧
    (∃ (s : State) (n : Fin 64), (s.coreRuns n.val = false ∨ s.fetchIop n.val = none)) ∧
    (∃ (s : State) (n : Fin 64) (x : Move) (y : Move), (s.coreRuns n.val = true) ∧ (s.fetchIop n.val = some (.nop x y))) ∧
    (∃ (s : State) (n : Fin 64) (x : Move) (y : Move), (s.coreRuns n.val = true) ∧ (s.fetchIop n.val = some (.nop x y)) ∧ ((s.core n.val).waits (.nop x y) = false) ∧ (s.touchesUnbound n.val (s.core n.val) (.nop x y) (Config.freeNat s.free) (Config.freeNat (s.free + 1)) = true)) :=
  ⟨⟨(iatSt 63 (.nop .none .none) (Core.zero)), (63), (.none), (.none), by unfold State.iatorReady; decide⟩,
   ⟨(iatSt 63 (.tend .none .none) (Core.zero)), (63), (.none), (.none), by unfold State.iatorReady; decide⟩,
   ⟨(iatSt 63 (.rts .none .none) (Core.zero)), (63), (.none), (.none), by unfold State.iatorReady; decide⟩,
   ⟨(iatSt 63 (.doI (1) (9)) (Core.zero)), (63), (1), (9), by unfold State.iatorReady; decide⟩,
   ⟨(iatSt 63 (.dor (.f 1) (1) (9)) (Core.zero)), (63), (.f 1), (1), (9), by unfold State.iatorReady; decide⟩,
   ⟨(iatSt 63 (.bra (0x3FFF)) (Core.zero)), (63), (0x3FFF), by unfold State.iatorReady; decide⟩,
   ⟨(iatSt 63 (.bcc (11) (1) (0x3FFF)) (Core.zero)), (63), (11), (1), (0x3FFF), by unfold State.iatorReady; decide⟩,
   ⟨(iatSt 63 (.jsr (0x3FFF)) (Core.zero)), (63), (0x3FFF), by unfold State.iatorReady; decide⟩,
   ⟨(iatSt 63 (.ldi (.f 1) (0x800000)) (Core.zero)), (63), (.f 1), (0x800000), by unfold State.iatorReady; decide⟩,
   ⟨(iatSt 63 (.mul false (true) (true) (3) (2) (1) .none .none) (Core.zero)), (63), (true), (true), (3), (2), (1), (.none), (.none), by unfold State.iatorReady; decide⟩,
   ⟨(iatSt 63 (.mul true (true) (true) (3) (2) (1) .none .none) (Core.zero)), (63), (true), (true), (3), (2), (1), (.none), (.none), by unfold State.iatorReady; decide⟩,
   ⟨(iatSt 63 (.two .add (.acc 1) (2) .none .none) (Core.zero)), (63), (.acc 1), (2), (.none), (.none), by unfold State.iatorReady; decide⟩,
   ⟨(iatSt 63 (.two .sub (.acc 1) (2) .none .none) (Core.zero)), (63), (.acc 1), (2), (.none), (.none), by unfold State.iatorReady; decide⟩,
   ⟨(iatSt 63 (.two .tfr (.acc 1) (2) .none .none) (Core.zero)), (63), (.acc 1), (2), (.none), (.none), by unfold State.iatorReady; decide⟩,
   ⟨(iatSt 63 (.two .cmp (.acc 1) (2) .none .none) (Core.zero)), (63), (.acc 1), (2), (.none), (.none), by unfold State.iatorReady; decide⟩,
   ⟨(iatSt 63 (.two .max (.acc 1) (2) .none .none) (Core.zero)), (63), (.acc 1), (2), (.none), (.none), by unfold State.iatorReady; decide⟩,
   ⟨(iatSt 63 (.two .min (.acc 1) (2) .none .none) (Core.zero)), (63), (.acc 1), (2), (.none), (.none), by unfold State.iatorReady; decide⟩,
   ⟨(iatSt 63 (.two .maxa (.acc 1) (2) .none .none) (Core.zero)), (63), (.acc 1), (2), (.none), (.none), by unfold State.iatorReady; decide⟩,
   ⟨(iatSt 63 (.one .clr (3) (0) .none .none) (Core.zero)), (63), (3), (0), (.none), (.none), by unfold State.iatorReady; decide⟩,
   ⟨(iatSt 63 (.one .rnd (3) (0) .none .none) (Core.zero)), (63), (3), (0), (.none), (.none), by unfold State.iatorReady; decide⟩,
   ⟨(iatSt 63 (.one .neg (3) (0) .none .none) (Core.zero)), (63), (3), (0), (.none), (.none), by unfold State.iatorReady; decide⟩,
   ⟨(iatSt 63 (.one .abs (3) (0) .none .none) (Core.zero)), (63), (3), (0), (.none), (.none), by unfold State.iatorReady; decide⟩,
   ⟨(iatSt 63 (.one .asl (3) (5) .none .none) (Core.zero)), (63), (3), (5), (.none), (.none), by unfold State.iatorReady; decide⟩,
   ⟨(iatSt 63 (.one .asr (3) (5) .none .none) (Core.zero)), (63), (3), (5), (.none), (.none), by unfold State.iatorReady; decide⟩,
   ⟨(iatSt 63 (.one .fold (3) (0) .none .none) (Core.zero)), (63), (3), (0), (.none), (.none), by unfold State.iatorReady; decide⟩,
   ⟨(iatSt 63 (.one .sat (3) (0) .none .none) (Core.zero)), (63), (3), (0), (.none), (.none), by unfold State.iatorReady; decide⟩,
   ⟨(iatSt 63 (.gran .gld (false) (.lane0) (.acc 3) (3) (true) .none .none) (Core.zero)), (63), (false), (.lane0), (.acc 3), (3), (true), (.none), (.none), by unfold State.iatorReady; decide⟩,
   ⟨(iatSt 63 (.gran .gst (false) (.lane0) (.acc 3) (3) (true) .none .none) (Core.zero)), (63), (false), (.lane0), (.acc 3), (3), (true), (.none), (.none), by unfold State.iatorReady; decide⟩,
   ⟨(iatSt 63 (.gran .gadd (false) (.lane0) (.acc 3) (3) (true) .none .none) (Core.zero)), (63), (false), (.lane0), (.acc 3), (3), (true), (.none), (.none), by unfold State.iatorReady; decide⟩,
   ⟨(iatSt 63 (.gran .gswp (false) (.lane0) (.acc 3) (3) (true) .none .none) (Core.zero)), (63), (false), (.lane0), (.acc 3), (3), (true), (.none), (.none), by unfold State.iatorReady; decide⟩,
   ⟨(iatSt 63 (.hop false (false) (.lane0) (3) (63) .none .none) (Core.zero)), (63), (false), (.lane0), (3), (63), (.none), (.none), by unfold State.iatorReady; decide⟩,
   ⟨(iatSt 63 (.hop true (false) (.lane0) (3) (63) .none .none) (Core.zero)), (63), (false), (.lane0), (3), (63), (.none), (.none), by unfold State.iatorReady; decide⟩,
   ⟨(State.reset), (63), by decide⟩,
   ⟨(iatSt 63 (.nop .none .none) (Core.zero)), (63), (.none), (.none), by decide⟩,
   ⟨({ iatSt 63 (.nop (.read .lane0 0 .indirect (.f 0)) .none) Core.zero with bind := { BindSt.reset with gather := [⟨0, 0x3F000000, 128, 0⟩] } }), (63), (.read .lane0 0 .indirect (.f 0)), (.none), by decide⟩⟩

/-- States and operands that meet the hypotheses of every clause of IatorResults. -/
theorem witness_IatorResults :
    (∃ (s : State) (n : Fin 64) (g : _) (d : _) (a : _) (b : _), ((s.core n.val).loops = []) ∧ ((s.core n.val).buf = none) ∧ (s.iatorReady n.val (.mul false g false d a b .none .none))) ∧
    (∃ (s : State) (n : Fin 64) (g : _) (d : _) (a : _) (b : _), ((s.core n.val).loops = []) ∧ ((s.core n.val).buf = none) ∧ (s.iatorReady n.val (.mul true g false d a b .none .none))) ∧
    (∃ (s : State) (n : Fin 64) (g : _) (d : _) (a : _) (b : _), ((s.core n.val).loops = []) ∧ ((s.core n.val).buf = none) ∧ (s.iatorReady n.val (.mul true g true d a b .none .none))) ∧
    (∃ (s : State) (n : Fin 64) (r : _) (d : _), ((s.core n.val).loops = []) ∧ ((s.core n.val).buf = none) ∧ (s.iatorReady n.val (.two .add r d .none .none))) ∧
    (∃ (s : State) (n : Fin 64) (r : _) (d : _), ((s.core n.val).loops = []) ∧ ((s.core n.val).buf = none) ∧ (s.iatorReady n.val (.two .sub r d .none .none))) ∧
    (∃ (s : State) (n : Fin 64) (r : _) (d : _), ((s.core n.val).loops = []) ∧ ((s.core n.val).buf = none) ∧ (s.iatorReady n.val (.two .tfr r d .none .none))) ∧
    (∃ (s : State) (n : Fin 64) (r : _) (d : _), ((s.core n.val).loops = []) ∧ ((s.core n.val).buf = none) ∧ (s.iatorReady n.val (.two .max r d .none .none))) ∧
    (∃ (s : State) (n : Fin 64) (r : _) (d : _), ((s.core n.val).loops = []) ∧ ((s.core n.val).buf = none) ∧ (s.iatorReady n.val (.two .min r d .none .none))) ∧
    (∃ (s : State) (n : Fin 64) (d : _), ((s.core n.val).loops = []) ∧ ((s.core n.val).buf = none) ∧ (s.iatorReady n.val (.one .clr d 0 .none .none))) ∧
    (∃ (s : State) (n : Fin 64) (d : _), ((s.core n.val).loops = []) ∧ ((s.core n.val).buf = none) ∧ (s.iatorReady n.val (.one .rnd d 0 .none .none))) ∧
    (∃ (s : State) (n : Fin 64) (d : _), ((s.core n.val).loops = []) ∧ ((s.core n.val).buf = none) ∧ (s.iatorReady n.val (.one .neg d 0 .none .none))) ∧
    (∃ (s : State) (n : Fin 64) (d : _), ((s.core n.val).loops = []) ∧ ((s.core n.val).buf = none) ∧ (s.iatorReady n.val (.one .abs d 0 .none .none))) ∧
    (∃ (s : State) (n : Fin 64) (d : _) (c : _), ((s.core n.val).loops = []) ∧ ((s.core n.val).buf = none) ∧ (s.iatorReady n.val (.one .asl d c .none .none))) ∧
    (∃ (s : State) (n : Fin 64) (d : _) (c : _), ((s.core n.val).loops = []) ∧ ((s.core n.val).buf = none) ∧ (s.iatorReady n.val (.one .asr d c .none .none))) ∧
    (∃ (s : State) (n : Fin 64) (d : _), ((s.core n.val).loops = []) ∧ ((s.core n.val).buf = none) ∧ (s.iatorReady n.val (.one .fold d 0 .none .none))) ∧
    (∃ (s : State) (n : Fin 64), ((s.core n.val).loops = []) ∧ ((s.core n.val).buf = none) ∧ (s.iatorReady n.val (.nop .none .none))) ∧
    (∃ (s : State) (n : Fin 64) (d : _), ((s.core n.val).loops = []) ∧ ((s.core n.val).buf = none) ∧ (s.iatorReady n.val (.one .sat d 0 .none .none))) ∧
    (∃ (s : State) (n : Fin 64) (r : _) (d : _), ((s.core n.val).loops = []) ∧ ((s.core n.val).buf = none) ∧ (s.iatorReady n.val (.two .maxa r d .none .none))) ∧
    (∃ (s : State) (n : Fin 64) (r : _) (d : _), ((s.core n.val).loops = []) ∧ ((s.core n.val).buf = none) ∧ (s.iatorReady n.val (.two .cmp r d .none .none))) ∧
    (∃ (s : State) (n : Fin 64) (d : Fin 4) (v : BitVec 24), ((s.core n.val).loops = []) ∧ ((s.core n.val).buf = none) ∧ (s.iatorReady n.val (.ldi (.f d) v))) ∧
    (∃ (s : State) (n : Fin 64) (d : Fin 8) (v : BitVec 24), ((s.core n.val).loops = []) ∧ ((s.core n.val).buf = none) ∧ (s.iatorReady n.val (.ldi (.pt d) v))) ∧
    (∃ (s : State) (n : Fin 64) (t : _), (s.iatorReady n.val (.bra t))) ∧
    (∃ (s : State) (n : Fin 64) (c : _) (l : _) (t : _), (s.iatorReady n.val (.bcc c l t)) ∧ (taken c.val l.val (s.core n.val).csr = true)) ∧
    (∃ (s : State) (n : Fin 64) (c : _) (l : _) (t : _), (s.iatorReady n.val (.bcc c l t)) ∧ (taken c.val l.val (s.core n.val).csr = false) ∧ ((s.core n.val).loops = [])) ∧
    (∃ (s : State) (n : Fin 64) (t : _), (s.iatorReady n.val (.jsr t))) ∧
    (∃ (s : State) (n : Fin 64) (a : _) (r : _), (s.iatorReady n.val (.rts .none .none)) ∧ ((s.core n.val).calls = a :: r)) ∧
    (∃ (s : State) (n : Fin 64) (c : BitVec 16) (la : _), (s.iatorReady n.val (.doI c la)) ∧ (c ≠ 0)) ∧
    (∃ (s : State) (n : Fin 64) (i : Fin 4) (b : BitVec 16) (la : _), (s.iatorReady n.val (.dor (.f i) b la)) ∧ (0 < ((s.core n.val).f 0 i.val).toNat) ∧ (b ≠ 0)) ∧
    (∃ (s : State) (n : Fin 64) (la : _), (s.iatorReady n.val (.doI 0 la)) ∧ ((s.core n.val).loops = [])) ∧
    (∃ (s : State) (n : Fin 64) (l : _) (r : _), (s.iatorReady n.val (.nop .none .none)) ∧ ((s.core n.val).loops = l :: r) ∧ (l.la = (s.core n.val).pc) ∧ (1 < l.lc.toNat)) ∧
    (∃ (s : State) (n : Fin 64), (s.iatorReady n.val (.tend .none .none))) :=
  ⟨⟨(iatSt 63 (.mul false (true) false (3) (2) (1) .none .none) (Core.zero)), (63), (true), (3), (2), (1), by unfold State.iatorReady; decide⟩,
   ⟨(iatSt 63 (.mul true (true) false (3) (2) (1) .none .none) (Core.zero)), (63), (true), (3), (2), (1), by unfold State.iatorReady; decide⟩,
   ⟨(iatSt 63 (.mul true (true) true (3) (2) (1) .none .none) (Core.zero)), (63), (true), (3), (2), (1), by unfold State.iatorReady; decide⟩,
   ⟨(iatSt 63 (.two .add (.acc 1) (2) .none .none) (Core.zero)), (63), (.acc 1), (2), by unfold State.iatorReady; decide⟩,
   ⟨(iatSt 63 (.two .sub (.acc 1) (2) .none .none) (Core.zero)), (63), (.acc 1), (2), by unfold State.iatorReady; decide⟩,
   ⟨(iatSt 63 (.two .tfr (.acc 1) (2) .none .none) (Core.zero)), (63), (.acc 1), (2), by unfold State.iatorReady; decide⟩,
   ⟨(iatSt 63 (.two .max (.acc 1) (2) .none .none) (Core.zero)), (63), (.acc 1), (2), by unfold State.iatorReady; decide⟩,
   ⟨(iatSt 63 (.two .min (.acc 1) (2) .none .none) (Core.zero)), (63), (.acc 1), (2), by unfold State.iatorReady; decide⟩,
   ⟨(iatSt 63 (.one .clr (3) 0 .none .none) (Core.zero)), (63), (3), by unfold State.iatorReady; decide⟩,
   ⟨(iatSt 63 (.one .rnd (3) 0 .none .none) (Core.zero)), (63), (3), by unfold State.iatorReady; decide⟩,
   ⟨(iatSt 63 (.one .neg (3) 0 .none .none) (Core.zero)), (63), (3), by unfold State.iatorReady; decide⟩,
   ⟨(iatSt 63 (.one .abs (3) 0 .none .none) (Core.zero)), (63), (3), by unfold State.iatorReady; decide⟩,
   ⟨(iatSt 63 (.one .asl (3) (5) .none .none) (Core.zero)), (63), (3), (5), by unfold State.iatorReady; decide⟩,
   ⟨(iatSt 63 (.one .asr (3) (5) .none .none) (Core.zero)), (63), (3), (5), by unfold State.iatorReady; decide⟩,
   ⟨(iatSt 63 (.one .fold (3) 0 .none .none) (Core.zero)), (63), (3), by unfold State.iatorReady; decide⟩,
   ⟨(iatSt 63 (.nop .none .none) (Core.zero)), (63), by unfold State.iatorReady; decide⟩,
   ⟨(iatSt 63 (.one .sat (3) 0 .none .none) (Core.zero)), (63), (3), by unfold State.iatorReady; decide⟩,
   ⟨(iatSt 63 (.two .maxa (.acc 1) (2) .none .none) (Core.zero)), (63), (.acc 1), (2), by unfold State.iatorReady; decide⟩,
   ⟨(iatSt 63 (.two .cmp (.acc 1) (2) .none .none) (Core.zero)), (63), (.acc 1), (2), by unfold State.iatorReady; decide⟩,
   ⟨(iatSt 63 (.ldi (.f (1)) (0x800000)) (Core.zero)), (63), (1), (0x800000), by unfold State.iatorReady; decide⟩,
   ⟨(iatSt 63 (.ldi (.pt (1)) (0x800000)) (Core.zero)), (63), (1), (0x800000), by unfold State.iatorReady; decide⟩,
   ⟨(iatSt 63 (.bra (0x3FFF)) (Core.zero)), (63), (0x3FFF), by unfold State.iatorReady; decide⟩,
   ⟨(iatSt 63 (.bcc (11) (1) (0x3FFF)) (Core.zero)), (63), (11), (1), (0x3FFF), by unfold State.iatorReady; decide⟩,
   ⟨(iatSt 63 (.bcc (0) (1) (0x3FFF)) (Core.zero)), (63), (0), (1), (0x3FFF), by unfold State.iatorReady; decide⟩,
   ⟨(iatSt 63 (.jsr (0x3FFF)) (Core.zero)), (63), (0x3FFF), by unfold State.iatorReady; decide⟩,
   ⟨(iatSt 63 (.rts .none .none) ({ Core.zero with calls := [5] })), (63), (5), ([]), by unfold State.iatorReady; decide⟩,
   ⟨(iatSt 63 (.doI (1) (9)) (Core.zero)), (63), (1), (9), by unfold State.iatorReady; decide⟩,
   ⟨(iatSt 63 (.dor (.f 1) (1) (9)) ({ Core.zero with lane0 := { Lane.zero with f := [(1, 3)] } })), (63), (1), (1), (9), by unfold State.iatorReady; decide⟩,
   ⟨(iatSt 63 (.doI 0 (9)) (Core.zero)), (63), (9), by unfold State.iatorReady; decide⟩,
   ⟨(iatSt 63 (.nop .none .none) ({ Core.zero with loops := [⟨0, 0, 2⟩] })), (63), (⟨0, 0, 2⟩), ([]), by unfold State.iatorReady; decide⟩,
   ⟨(iatSt 63 (.tend .none .none) (Core.zero)), (63), by unfold State.iatorReady; decide⟩⟩

/-- States and operands that meet the hypotheses of every clause of LongOperations. -/
theorem witness_LongOperations :
    (∃ (s : State) (n : Fin 64) (g : Fin 4) (r : Fin 4) (p : Bool), (s.iatorReady n.val (.gran .gld true .lane0 (.acc r) g p .none .none)) ∧ ((s.core n.val).loops = [])) ∧
    (∃ (s : State) (n : Fin 64) (f : Fin 4) (h : BitVec 6), (s.iatorReady n.val (.hop true false .lane0 f h .none .none)) ∧ ((s.core n.val).loops = [])) ∧
    (∃ (s : State) (n : Fin 64) (i : Nat), ((s.core n.val).long[i]? = none)) ∧
    (∃ (s : State) (n : Fin 64) (i : Nat) (l : LongOp), ((s.core n.val).long[i]? = some l) ∧ (((s.core n.val).long.take i).any (fun m => m.meets l) = false)) ∧
    (∃ (s : State) (n : Fin 64) (a : LongOp) (b : LongOp), ((s.core n.val).long = [a, b]) ∧ (a.meets b = true)) ∧
    (∃ (s : State) (n : Fin 64) (r : Nat) (a : Nat) (v0 : Word) (v1 : Word), ((s.core n.val).long = [⟨.gld, true, 2, r, a, v0, v1⟩]) ∧ (4 ≤ r) ∧ (s.inRanges n.val a = true) ∧ (s.granGood 0 (granBase + 4 * a))) ∧
    (∃ (s : State) (n : Fin 64) (r : Nat) (a : Nat) (v0 : Word) (v1 : Word), ((s.core n.val).long = [⟨.gst, true, 2, r, a, v0, v1⟩]) ∧ (s.inRanges n.val a = true) ∧ (s.granGood 0 (granBase + 4 * a))) ∧
    (∃ (s : State) (n : Fin 64) (r : Nat) (a : Nat) (v0 : Word) (v1 : Word), ((s.core n.val).long = [⟨.gadd, true, 2, r, a, v0, v1⟩]) ∧ (4 ≤ r) ∧ (s.inRanges n.val a = true) ∧ (s.granGood 0 (granBase + 4 * a))) ∧
    (∃ (s : State) (n : Fin 64) (r : Nat) (a : Nat) (v0 : Word) (v1 : Word), ((s.core n.val).long = [⟨.gswp, true, 2, r, a, v0, v1⟩]) ∧ (4 ≤ r) ∧ (s.inRanges n.val a = true) ∧ (s.granGood 0 (granBase + 4 * a))) ∧
    (∃ (s : State) (n : Fin 64) (r : Nat) (a : Nat) (v0 : Word) (v1 : Word), ((s.core n.val).long = [⟨.gld, true, 2, r, a, v0, v1⟩]) ∧ (4 ≤ r) ∧ (s.inRanges n.val a = false)) ∧
    (∃ (s : State) (n : Fin 64) (r : Nat) (h : Nat) (v0 : Word) (v1 : Word), (h < 64) ∧ ((s.core n.val).long = [⟨.hpush, true, 2, r, h, v0, v1⟩]) ∧ (s.hopEn h = true) ∧ ((s.hop h).entries.length < s.fld (R.HOP_Q_CFG_DEPTH h)) ∧ (s.bit (R.HOP_Q_CFG_CLK h) = false)) ∧
    (∃ (s : State) (n : Fin 64) (r : Nat) (h : Nat) (e : Nat) (es : List Nat) (v0 : Word) (v1 : Word), (h < 64) ∧ (4 ≤ r) ∧ ((s.core n.val).long = [⟨.hpop, true, 2, r, h, v0, v1⟩]) ∧ (s.hopEn h = true) ∧ (s.bit (R.HOP_Q_CFG_CLK h) = false) ∧ ((s.hop h).entries = e :: es)) ∧
    (∃ (s : State) (n : Fin 64), ((s.core n.val).tend = false ∨ (s.core n.val).done = true ∨ (s.core n.val).long ≠ [])) ∧
    (∃ (s : State) (n : Fin 64), ((s.core n.val).tend = true) ∧ ((s.core n.val).done = false) ∧ ((s.core n.val).long = [])) :=
  ⟨⟨(iatSt 63 (.gran .gld true .lane0 (.acc 1) 3 true .none .none) (Core.zero)), (63), (3), (1), (true), by unfold State.iatorReady; decide⟩,
   ⟨(iatSt 63 (.hop true false .lane0 1 63 .none .none) (Core.zero)), (63), (1), (63), by unfold State.iatorReady; decide⟩,
   ⟨(State.reset), (0), (0), by decide⟩,
   ⟨(State.reset.setCore 63 { Core.zero with long := [⟨.gld, true, 2, 4, 9, 0, 0⟩, ⟨.gst, true, 2, 4, 8, 0, 0⟩] }), (63), (1), (⟨.gst, true, 2, 4, 8, 0, 0⟩), by decide⟩,
   ⟨(State.reset.setCore 63 { Core.zero with long := [⟨.gld, true, 2, 4, 9, 0, 0⟩, ⟨.gst, true, 2, 4, 9, 0, 0⟩] }), (63), (⟨.gld, true, 2, 4, 9, 0, 0⟩), (⟨.gst, true, 2, 4, 9, 0, 0⟩), by decide⟩,
   ⟨((running { img0 with cores := [(63, { CoreDecl.none with ranges := [(9, 1)] })] } State.reset).setCore 63 { Core.zero with long := [⟨.gld, true, 2, 4, 9, 0, 0⟩] }), (63), (4), (9), (0), (0), by unfold State.granGood; decide⟩,
   ⟨((running { img0 with cores := [(63, { CoreDecl.none with ranges := [(9, 1)] })] } State.reset).setCore 63 { Core.zero with long := [⟨.gst, true, 2, 4, 9, 0, 0⟩] }), (63), (4), (9), (0), (0), by unfold State.granGood; decide⟩,
   ⟨((running { img0 with cores := [(63, { CoreDecl.none with ranges := [(9, 1)] })] } State.reset).setCore 63 { Core.zero with long := [⟨.gadd, true, 2, 4, 9, 0, 0⟩] }), (63), (4), (9), (0), (0), by unfold State.granGood; decide⟩,
   ⟨((running { img0 with cores := [(63, { CoreDecl.none with ranges := [(9, 1)] })] } State.reset).setCore 63 { Core.zero with long := [⟨.gswp, true, 2, 4, 9, 0, 0⟩] }), (63), (4), (9), (0), (0), by unfold State.granGood; decide⟩,
   ⟨((State.reset).setCore 63 { Core.zero with long := [⟨.gld, true, 2, 4, 9, 0, 0⟩] }), (63), (4), (9), (0), (0), by decide⟩,
   ⟨(({ st [(R.HOP_Q_CFG_EN 9, 1), (R.HOP_Q_CFG_DEPTH 9, 2)] with hops := [(9, { Hop.empty with entries := [7] })] }).setCore 63 { Core.zero with long := [⟨.hpush, true, 2, 4, 9, 0, 0⟩] }), (63), (4), (9), (0), (0), by decide⟩,
   ⟨(({ st [(R.HOP_Q_CFG_EN 9, 1), (R.HOP_Q_CFG_DEPTH 9, 2)] with hops := [(9, { Hop.empty with entries := [7] })] }).setCore 63 { Core.zero with long := [⟨.hpop, true, 2, 4, 9, 0, 0⟩] }), (63), (4), (9), (7), ([]), (0), (0), by decide⟩,
   ⟨(State.reset), (0), by decide⟩,
   ⟨(State.reset.setCore 63 { Core.zero with tend := true }), (63), by decide⟩⟩

/-- States and operands that meet the hypotheses of every clause of IdentityRegisters. -/
theorem witness_IdentityRegisters :
    (∃ (s : State) (m : Fin 11), (m.val ≤ 1) ∧ (s.busFull m.val = false)) :=
  ⟨(State.reset), (0), by decide⟩

/-- States and operands that meet the hypotheses of every clause of RegisterCommands. -/
theorem witness_RegisterCommands :
    (∃ (a : Nat), (a / 0x10000 = 0x4016 ∨ a / 0x10000 = 0x4019) ∧ (a % 4 = 0)) ∧
    (∃ (s : State) (a : Nat), (0x40000000 ≤ a) ∧ (a + 4 ≤ 0x401F0000) ∧ (a % 4 ≠ 0) ∧ (s.domBlocks a = none)) ∧
    (∃ (s : State) (a : Nat) (d : Nat), (0x40000000 ≤ a) ∧ (a + 4 ≤ 0x401F0000) ∧ (s.domBlocks a = some d)) ∧
    (∃ (s : State) (m : Fin 11), (s.busFull m.val = true)) ∧
    (∃ (s : State) (m : Fin 11) (q : BusReq), (s.busFull m.val = false) ∧ (s.target m.val q.addr q.len ≠ .default)) ∧
    (∃ (s : State) (m : Fin 11) (q : BusReq), (s.busFull m.val = false) ∧ (q.len = ((q.data.map List.length).getD q.len)) ∧ (s.target m.val q.addr q.len = .default)) ∧
    (∃ (s : State) (m : Fin 11) (o : Nat), (s.busFull m.val = false) ∧ (o % 8 ≤ 4) ∧ (o + 4 ≤ 0x2000000) ∧ (s.granGood (if granPortOf m.val < 4 then 0 else 1) (granBase + o))) ∧
    (∃ (s : State) (m : Fin 11) (o : Nat) (l : List Byte), (m.val ≠ 1) ∧ (s.busFull m.val = false) ∧ (o % 8 = 0) ∧ (o + 8 ≤ 0x2000000) ∧ (l.length = 8) ∧ (s.halfState (granHalf (granBase + o)) = 0)) ∧
    (∃ (s : State) (i : Nat) (m : Nat) (a : Nat) (w : Bool), (m < 16) ∧ (s.mem14.inflight[i]? = some (m, a, w))) ∧
    (∃ (s : State) (i : Nat), (s.mem14.inflight[i]? = none)) :=
  ⟨⟨(0x40160000), by decide⟩,
   ⟨(State.reset), (0x401EFFF9), by decide⟩,
   ⟨(State.reset), (0x40060000), (6), by decide⟩,
   ⟨({ State.reset with mem14 := { MemSt.reset with inflight := List.replicate 32 (10, 0, false) } }), (10), by decide⟩,
   ⟨(State.reset), (0), (⟨granBase, 4, none⟩), by decide⟩,
   ⟨(State.reset), (10), (⟨0, 4, none⟩), by decide⟩,
   ⟨(State.reset), (0), (0), by unfold State.granGood; decide⟩,
   ⟨(State.reset), (0), (0x1FFFFF8), (List.replicate 8 0), by decide⟩,
   ⟨({ State.reset with mem14 := { MemSt.reset with inflight := [(10, 0, false)] } }), (0), (10), (0), (false), by decide⟩,
   ⟨(State.reset), (0), by decide⟩⟩

/-- States and operands that meet the hypotheses of every clause of StepRunsTheFrontCommand. -/
theorem witness_StepRunsTheFrontCommand :
    (∃ (s : State) (c : Instr) (r : List Instr), (s.pending = c :: r)) ∧
    (∃ (s : State), (s.pending = [])) :=
  ⟨⟨({ State.reset with pending := [.runSet] }), (.runSet), ([]), by decide⟩,
   ⟨(State.reset), by decide⟩⟩

/-- States and operands that meet the hypotheses of every clause of EveryCommandAnswers. -/
theorem witness_EveryCommandAnswers :
    (∃ (u : State), (u.fcu.todo = [])) ∧
    (∃ (u : State), (u.fcu.todo = []) ∧ (u.msixLevel = u.pcie.level)) :=
  ⟨⟨(State.reset), by decide⟩,
   ⟨(State.reset), by decide⟩⟩

/-- States and operands that meet the hypotheses of every clause of MemoryStaysCanonical. -/
theorem witness_MemoryStaysCanonical :
    (∃ (s : State) (t : State), (FMap.wf 0 s.mem = true) ∧ (step s = .next t)) :=
  ⟨(State.reset), (State.reset), ⟨by decide, rfl⟩⟩

/-- States and operands that meet the hypotheses of every clause of InstructionWordsRoundTrip. -/
theorem witness_InstructionWordsRoundTrip :
    (∃ (i : Iop), (i.ok = true)) ∧
    (∃ (w : IWord) (i : Iop), (decodeIop w = some i)) :=
  ⟨⟨(.mul true true true 3 2 1 (.read .pair 3 .postOf (.acc 3)) (.write .lane1 2 .postDec (.rnd 1))), by decide⟩,
   ⟨(encodeIop (.bra 0x3FFF)), (.bra 0x3FFF), by decide⟩⟩

end Sys2Proof.Tests
end

/-!
PROOFS. The identity registers (R9, Table 0-7): the words of the SYS block that the engine hard-wires, and a bus transaction that reads one.
-/

namespace Sys2Proof

open Machine

/-! The SYS block answers always, and no read of it is a host error -/

/-- SYS is in no switched domain, so a domain that is off never keeps an access from it (R424). -/
theorem domOfAddr_sys (a : Nat) (h : a / 0x10000 = 0x4000) : domOfAddr a = none := by
  have hlo : 0x40000000 ≤ a := by omega
  have hhi : a < 0x40010000 := by omega
  unfold domOfAddr
  rw [if_neg (by omega), if_neg (by unfold marvBase; omega), if_pos (by omega), h]
  rfl

theorem domBlocks_sys (s : State) (a : Nat) (h : a / 0x10000 = 0x4000) : s.domBlocks a = none := by
  unfold State.domBlocks
  rw [domOfAddr_sys a h]

/-- The reads that the spec lists as host errors are of hopper registers, above the SYS block. -/
theorem readUnsafe_sys (s : State) (a : Nat) (h : a / 0x10000 = 0x4000) : s.readUnsafe a = none := by
  have below : ¬ 0x40091000 ≤ a := by omega
  simp [State.readUnsafe, below]

/-! The words of Table 0-7: a read of one leaves the state as it was -/

theorem regRead_sysId (s : State) : s.regRead 0x40000000 = (0x56591024, s) := rfl

theorem regRead_sysStep (s : State) : s.regRead 0x40000004 = (Config.stepBase * 256 + Config.stepMetal, s) := rfl

theorem regRead_sysFeature (s : State) : s.regRead 0x40000008 = (if s.part = .ai then 1 else 0, s) := by
  have amp : s.regRead 0x40000008 = (if s.hasAmp then 1 else 0, s) := rfl
  rw [amp]
  simp [State.hasAmp]

/-- The word of SYS.STEP is that of step A0 or of step B1 (Table 18-10). -/
theorem stepWord_cases : Config.stepBase * 256 + Config.stepMetal = 0x0100 ∨ Config.stepBase * 256 + Config.stepMetal = 0x0201 := by
  unfold Config.stepBase Config.stepMetal
  cases Config.stepB1
  · exact Or.inl rfl
  · exact Or.inr rfl

/-! One read over the bus -/

/-- The Grange and the host port read a word of SYS at once: where the register read changes nothing, the transaction changes only its answer
and the parked master. -/
theorem runs_sysRead (s : State) (m : Fin 11) (hm : m.val ≤ 1) (hfree : s.busFull m.val = false) (a v : Nat)
    (hsys : a / 0x10000 = 0x4000) (hword : a % 4 = 0) (hread : (s.park .regs m.val).regRead a = (v, s.park .regs m.val)) :
    Runs (.busTransaction m ⟨a, 4, none⟩ 0 true) s (fun u => u.mem14.respBus = ⟨.ok, v⟩ ∧ u.regs = s.regs ∧ u.mem = s.mem) := by
  have hlo : 0x40000000 ≤ a := by omega
  have hhi : a + 4 ≤ 0x401F0000 := by omega
  have allowed : s.accessUnsafe m.val a 4 none = none := by
    rw [access_read_regs s m.val a hm hlo hhi hword, domBlocks_sys s a hsys]
    exact readUnsafe_sys s a hsys
  have issued : s.busIssue m.val ⟨a, 4, none⟩ 0 true = (s.park .regs m.val).respond .ok v := by
    calc s.busIssue m.val ⟨a, 4, none⟩ 0 true
      _ = s.busDo m.val a 4 none 0 := by simp [State.busIssue, hfree]
      _ = (s.park .regs m.val).respond .ok v := by
        rw [read_regs s m.val a hm hlo hhi (domBlocks_sys s a hsys), hread]
  refine runs_busTransaction ?_ ?_
  · simpa [hfree] using allowed
  · rw [issued]
    exact ⟨rfl, rfl, rfl⟩

/-- Settles O54: each word is read by `runs_sysRead`, and `stepWord_cases` gives the two steps. -/
theorem identityRegisters : Obligations.IdentityRegisters := by
  unfold Obligations.IdentityRegisters
  intro s m hm hfree
  refine ⟨?id, ?step, ?feature⟩
  case id => exact runs_sysRead s m hm hfree _ _ (by decide) (by decide) (regRead_sysId _)
  case step =>
    obtain ⟨u, hrun, hresp, hregs, hmem⟩ := runs_sysRead s m hm hfree _ _ (by decide) (by decide) (regRead_sysStep _)
    exact ⟨u, hrun, hresp, by rw [hresp]; exact stepWord_cases, hregs, hmem⟩
  case feature => exact runs_sysRead s m hm hfree _ _ (by decide) (by decide) (regRead_sysFeature _)

end Sys2Proof

/-!
PROOFS. The fault collector (R379–R384, R390, R391): what one message records, field by field, and what it asks for. `State.fcuInj` is read as three steps
one after the other, each with its own lemmas: the record of every message, the FIRST record, and the reaction.
-/

namespace Sys2Proof

open Machine

/-! Severities (Table 15-1) and set bits -/

/-- A severity that the table gives fits the two bits of SEVERITY (R379). -/
theorem severityOf_lt_four {src kind : Nat} (h : severityOf src kind ≠ 4) : severityOf src kind < 4 := by
  have le_four : severityOf src kind ≤ 4 := by
    unfold severityOf
    repeat' refine ite_cases (P := (· ≤ 4)) _ _ _ (fun _ => ?_) (fun _ => ?_)
    all_goals decide
  omega

theorem bitOf_setIrq (s : State) (f : Fld) (k : Nat) (h : k < f.hi + 1 - f.lo) : bitOf ((s.setIrq f k).fld f) k = true :=
  decide_eq_true (bit_of_irq s f k h)

/-! The frame `Kept`, followed through the operations that write a field -/

theorem Kept.trans {s t u : State} {fs gs : List Fld} (a : Kept s t fs) (b : Kept t u gs) : Kept s u (fs ++ gs) := fun f hf => by
  rw [List.map_append, List.mem_append, not_or] at hf
  exact (b f hf.2).trans (a f hf.1)

theorem Kept.mono {s t : State} {fs gs : List Fld} (a : Kept s t fs) (h : ∀ f ∈ fs, f ∈ gs) : Kept s t gs := fun f hf =>
  a f fun hm => hf (List.map_subset Fld.key h hm)

theorem kept_refl (s : State) (fs : List Fld) : Kept s s fs := fun _ _ => rfl

theorem Kept.ite {s t u : State} {fs : List Fld} (c : Prop) [Decidable c] (a : Kept s t fs) (b : Kept s u fs) : Kept s (if c then t else u) fs :=
  ite_cases (P := fun x => Kept s x fs) c t u (fun _ => a) (fun _ => b)

theorem kept_setFld (s : State) (f : Fld) (v : Nat) : Kept s (s.setFld f v) [f] := fun g hg =>
  State.fld_setFld_ne s f g v fun e => hg (by simp [e])

theorem kept_setIrq (s : State) (f : Fld) (k : Nat) : Kept s (s.setIrq f k) [f] := kept_setFld s f _

theorem kept_count (s : State) (f : Fld) (n : Nat) : Kept s (s.count f n) [f] := fun g hg =>
  State.fld_count_ne s f g n fun e => hg (by simp [e])

/-! The Grange's log (R394, R404) -/

theorem kept_logOffer (s : State) (t : Nat) (p : List Byte) : Kept s (s.logOffer t p) [R.GRNG_LOG_DROP] := by
  unfold State.logOffer
  split
  · exact fun _ _ => rfl
  · exact kept_count { s with grng := { s.grng with dropped := s.grng.dropped + 1 } } R.GRNG_LOG_DROP 1

theorem logOffer_fcu (s : State) (t : Nat) (p : List Byte) : (s.logOffer t p).fcu = s.fcu := by
  unfold State.logOffer
  split
  · rfl
  · rw [State.count_fcu]

theorem logOffer_logBuf (s : State) (t : Nat) (p : List Byte) (room : s.grng.logBuf.length < 256) :
    ∃ r : LogRec, (s.logOffer t p).grng.logBuf = s.grng.logBuf ++ [r] ∧ r.type = t ∧ r.pay = p := by
  unfold State.logOffer
  rw [if_pos room]
  exact ⟨_, rfl, rfl, rfl⟩

/-! The LAST record (R383) -/

/-- The fields of `FCU.LAST_LO` and `FCU.LAST_HI`. -/
def lastFields : List Fld := [R.FCU_LAST_LO, R.FCU_LAST_HI_ADDR_HI, R.FCU_LAST_HI_SOURCE, R.FCU_LAST_HI_KIND, R.FCU_LAST_HI_SEV, R.FCU_LAST_HI_INJ,
  R.FCU_LAST_HI_VALID]

/-- LAST holds a message. -/
structure LastHolds (u : State) (src kind sev a : Nat) : Prop where
  lo     : u.fld R.FCU_LAST_LO = a % 0x100000000
  addrHi : u.fld R.FCU_LAST_HI_ADDR_HI = a / 0x100000000
  source : u.fld R.FCU_LAST_HI_SOURCE = src
  kind   : u.fld R.FCU_LAST_HI_KIND = kind
  sev    : u.fld R.FCU_LAST_HI_SEV = sev
  valid  : u.fld R.FCU_LAST_HI_VALID = 1

theorem kept_putLast (s : State) (src kind sev a : Nat) (inj : Bool) : Kept s (s.putLast src kind sev a inj) lastFields :=
  (kept_setFld _ _ _).trans (kept_setFld _ _ _) |>.trans (kept_setFld _ _ _) |>.trans (kept_setFld _ _ _) |>.trans (kept_setFld _ _ _) |>.trans (kept_setFld _ _ _)
    |>.trans (kept_setFld _ _ _)

/-- A message whose fields have their widths (R379) is held whole. -/
theorem putLast_holds (s : State) (src kind sev a : Nat) (inj : Bool) (hsrc : src < 128) (hkind : kind < 32) (hsev : sev < 4)
    (ha : a < 0x1000000000) : LastHolds (s.putLast src kind sev a inj) src kind sev a := by
  unfold State.putLast State.setBit
  constructor <;> simp (disch := decide) only [State.fld_setFld_ne, State.fld_setFld_same]
  case lo => exact Nat.mod_mod _ _
  case addrHi => exact Nat.mod_eq_of_lt (show a / 0x100000000 < 16 by omega)
  case source => exact Nat.mod_eq_of_lt hsrc
  case kind => exact Nat.mod_eq_of_lt hkind
  case sev => exact Nat.mod_eq_of_lt hsev
  case valid => rfl

/-- LAST is written unless the command has recorded a message there that the tie rule ranks lower. -/
def Machine.State.offerLast (s : State) (src kind sev a : Nat) (inj : Bool) : State :=
  if s.fcu.lastNew && (decide (s.fld R.FCU_LAST_HI_SEV < sev) ||
      (decide (s.fld R.FCU_LAST_HI_SEV = sev) && decide (src < s.fld R.FCU_LAST_HI_SOURCE)))
  then s else s.putLast src kind sev a inj

theorem kept_offerLast (s : State) (src kind sev a : Nat) (inj : Bool) : Kept s (s.offerLast src kind sev a inj) lastFields :=
  Kept.ite _ (kept_refl _ _) (kept_putLast s src kind sev a inj)

theorem offerLast_fcu (s : State) (src kind sev a : Nat) (inj : Bool) : (s.offerLast src kind sev a inj).fcu = s.fcu := by
  unfold State.offerLast
  split <;> rfl

theorem offerLast_grng (s : State) (src kind sev a : Nat) (inj : Bool) : (s.offerLast src kind sev a inj).grng = s.grng := by
  unfold State.offerLast
  split <;> rfl

/-- The first message of a command is written: the tie rule is between those of one command. -/
theorem offerLast_new (s : State) (src kind sev a : Nat) (inj : Bool) (new : s.fcu.lastNew = false) :
    s.offerLast src kind sev a inj = s.putLast src kind sev a inj := by
  simp [State.offerLast, new]

/-- What writes no field of LAST leaves the message there. -/
theorem LastHolds.of_kept {s u : State} {fs : List Fld} {src kind sev a : Nat} (h : LastHolds s src kind sev a) (k : Kept s u fs)
    (apart : ∀ f ∈ lastFields, f.key ∉ fs.map Fld.key) : LastHolds u src kind sev a := by
  have same : ∀ f ∈ lastFields, u.fld f = s.fld f := fun f hf => k f (apart f hf)
  obtain ⟨hlo, haddr, hsource, hkind, hsev, hvalid⟩ := h
  constructor
  case lo => rw [same _ (by simp [lastFields]), hlo]
  case addrHi => rw [same _ (by simp [lastFields]), haddr]
  case source => rw [same _ (by simp [lastFields]), hsource]
  case kind => rw [same _ (by simp [lastFields]), hkind]
  case sev => rw [same _ (by simp [lastFields]), hsev]
  case valid => rw [same _ (by simp [lastFields]), hvalid]

/-! The FIRST record (R383) -/

/-- The fields of `FCU.FIRST_LO`, `FCU.FIRST_HI`, `FCU.FIRST_TICK_LO` and `FCU.FIRST_TICK_HI`. -/
def firstFields : List Fld := [R.FCU_FIRST_LO, R.FCU_FIRST_HI_ADDR_HI, R.FCU_FIRST_HI_SOURCE, R.FCU_FIRST_HI_KIND, R.FCU_FIRST_HI_SEV,
  R.FCU_FIRST_HI_INJ, R.FCU_FIRST_HI_VALID, R.FCU_FIRST_TICK_LO, R.FCU_FIRST_TICK_HI]

/-- FIRST holds a message that came in tick `num`. -/
structure FirstHolds (u : State) (src kind a num : Nat) : Prop where
  lo     : u.fld R.FCU_FIRST_LO = a % 0x100000000
  source : u.fld R.FCU_FIRST_HI_SOURCE = src
  kind   : u.fld R.FCU_FIRST_HI_KIND = kind
  valid  : u.fld R.FCU_FIRST_HI_VALID = 1
  tickLo : u.fld R.FCU_FIRST_TICK_LO = num % 0x100000000
  tickHi : u.fld R.FCU_FIRST_TICK_HI = num / 0x100000000 % 0x100000000

theorem kept_putFirst (s : State) (src kind sev a : Nat) (inj : Bool) : Kept s (s.putFirst src kind sev a inj) firstFields :=
  (kept_setFld _ _ _).trans (kept_setFld _ _ _) |>.trans (kept_setFld _ _ _) |>.trans (kept_setFld _ _ _) |>.trans (kept_setFld _ _ _) |>.trans (kept_setFld _ _ _)
    |>.trans (kept_setFld _ _ _) |>.trans (kept_setFld _ _ _) |>.trans (kept_setFld _ _ _)

theorem putFirst_holds (s : State) (src kind sev a : Nat) (inj : Bool) (hsrc : src < 128) (hkind : kind < 32) :
    FirstHolds (s.putFirst src kind sev a inj) src kind a s.tick.num := by
  unfold State.putFirst State.setBit State.setReg64
  constructor <;> simp (disch := decide) only [State.fld_setFld_ne, State.fld_setFld_same]
  case lo => exact Nat.mod_mod _ _
  case source => exact Nat.mod_eq_of_lt hsrc
  case kind => exact Nat.mod_eq_of_lt hkind
  case valid => rfl
  case tickLo => exact Nat.mod_mod _ _
  case tickHi => rfl

theorem FirstHolds.of_kept {s u : State} {fs : List Fld} {src kind a num : Nat} (h : FirstHolds s src kind a num) (k : Kept s u fs)
    (apart : ∀ f ∈ firstFields, f.key ∉ fs.map Fld.key) : FirstHolds u src kind a num := by
  have same : ∀ f ∈ firstFields, u.fld f = s.fld f := fun f hf => k f (apart f hf)
  obtain ⟨hlo, hsource, hkind, hvalid, htickLo, htickHi⟩ := h
  constructor
  case lo => rw [same _ (by simp [firstFields]), hlo]
  case source => rw [same _ (by simp [firstFields]), hsource]
  case kind => rw [same _ (by simp [firstFields]), hkind]
  case valid => rw [same _ (by simp [firstFields]), hvalid]
  case tickLo => rw [same _ (by simp [firstFields]), htickLo]
  case tickHi => rw [same _ (by simp [firstFields]), htickHi]

/-- The two words of the tick number together. -/
theorem FirstHolds.tick {u : State} {src kind a num : Nat} (h : FirstHolds u src kind a num) :
    u.reg64 R.FCU_FIRST_TICK_LO R.FCU_FIRST_TICK_HI = num % 0x10000000000000000 := by
  unfold State.reg64
  rw [h.tickLo, h.tickHi]
  omega

/-! What every message records: STICKY, SRC_INFO, LAST and the log (R382, R383, R394) -/

/-- `FCU.STICKY0`–`FCU.STICKY3`. -/
def stickyFields : List Fld := [R.FCU_STICKY 0, R.FCU_STICKY 1, R.FCU_STICKY 2, R.FCU_STICKY 3]

theorem stickyOf_mem {src : Nat} (h : src < 128) : stickyOf src ∈ stickyFields := by
  have quarter : src / 32 = 0 ∨ src / 32 = 1 ∨ src / 32 = 2 ∨ src / 32 = 3 := by omega
  unfold stickyOf
  rcases quarter with e | e | e | e <;> simp [e, stickyFields]

/-- The fields that the record of a message may change. -/
def recordFields : List Fld := stickyFields ++ [R.FCU_MSG_CNT] ++ lastFields ++ [R.GRNG_LOG_DROP]

/-- The sticky bit, the counter and SRC_INFO: what a message records before LAST and the log. -/
def Machine.State.noteSource (s : State) (src kind sev : Nat) : State :=
  let t := (s.setIrq (stickyOf src) (src % 32)).count R.FCU_MSG_CNT 1
  { t with fcu := { t.fcu with kind := FMap.set 0 t.fcu.kind src kind, sev := FMap.set 0 t.fcu.sev src sev,
                               count := FMap.set 0 t.fcu.count src (Nat.min (FMap.get 0 t.fcu.count src + 1) 0xFFFF) } }

theorem noteSource_fcu (s : State) (src kind sev : Nat) : (s.noteSource src kind sev).fcu =
    { s.fcu with kind := FMap.set 0 s.fcu.kind src kind, sev := FMap.set 0 s.fcu.sev src sev,
                 count := FMap.set 0 s.fcu.count src (Nat.min (FMap.get 0 s.fcu.count src + 1) 0xFFFF) } := by
  simp [State.noteSource]

theorem noteSource_grng (s : State) (src kind sev : Nat) : (s.noteSource src kind sev).grng = s.grng := by
  simp [State.noteSource]

theorem kept_noteSource (s : State) {src : Nat} (kind sev : Nat) (h : src < 128) :
    Kept s (s.noteSource src kind sev) (stickyFields ++ [R.FCU_MSG_CNT]) := by
  have sticky : Kept s (s.setIrq (stickyOf src) (src % 32)) stickyFields := (kept_setIrq _ _ _).mono (by simpa using stickyOf_mem h)
  exact sticky.trans (kept_count _ _ _)

theorem noteSource_sticky (s : State) {src : Nat} (kind sev : Nat) (h : src < 128) :
    bitOf ((s.noteSource src kind sev).fld (stickyOf src)) (src % 32) = true := by
  have counted : (stickyOf src).key ∉ [R.FCU_MSG_CNT].map Fld.key :=
    (by decide : ∀ f ∈ stickyFields, f.key ∉ [R.FCU_MSG_CNT].map Fld.key) _ (stickyOf_mem h)
  have same : (s.noteSource src kind sev).fld (stickyOf src) = (s.setIrq (stickyOf src) (src % 32)).fld (stickyOf src) :=
    kept_count _ R.FCU_MSG_CNT 1 _ counted
  rw [same]
  exact bitOf_setIrq s _ _ (Nat.mod_lt _ (by decide))

/-- LAST was recorded by the command in progress. -/
def Machine.State.markLast (s : State) : State := { s with fcu := { s.fcu with lastNew := true } }

theorem kept_markLast (s : State) : Kept s s.markLast [] := fun _ _ => rfl

/-- The steps of the record of a message. -/
theorem fcuRecord_eq (s : State) (src kind sev a : Nat) (inj : Bool) : s.fcuRecord src kind sev a inj =
    ((s.noteSource src kind sev).offerLast src kind sev a inj).markLast.logOffer 1
      (leBytes 4 (a % 0x100000000) ++ leBytes 4 (faultWord src kind sev a inj)) := rfl

theorem fcuRecord_fcu (s : State) (src kind sev a : Nat) (inj : Bool) : (s.fcuRecord src kind sev a inj).fcu =
    { s.fcu with kind := FMap.set 0 s.fcu.kind src kind, sev := FMap.set 0 s.fcu.sev src sev,
                 count := FMap.set 0 s.fcu.count src (Nat.min (FMap.get 0 s.fcu.count src + 1) 0xFFFF), lastNew := true } := by
  rw [fcuRecord_eq, logOffer_fcu, State.markLast, offerLast_fcu, noteSource_fcu]

theorem kept_fcuRecord (s : State) {src : Nat} (kind sev a : Nat) (inj : Bool) (h : src < 128) :
    Kept s (s.fcuRecord src kind sev a inj) recordFields := by
  have noted : Kept s (s.noteSource src kind sev) (stickyFields ++ [R.FCU_MSG_CNT]) := kept_noteSource s kind sev h
  rw [fcuRecord_eq]
  exact ((noted.trans (kept_offerLast _ _ _ _ _ _)).trans (kept_markLast _)).trans (kept_logOffer _ _ _) |>.mono (by simp [recordFields])

theorem fcuRecord_lastHolds (s : State) {src kind sev a : Nat} (inj : Bool) (hsrc : src < 128) (hkind : kind < 32) (hsev : sev < 4)
    (ha : a < 0x1000000000) (new : s.fcu.lastNew = false) : LastHolds (s.fcuRecord src kind sev a inj) src kind sev a := by
  have noted : (s.noteSource src kind sev).fcu.lastNew = false := by rw [noteSource_fcu, new]
  rw [fcuRecord_eq, offerLast_new _ _ _ _ _ _ noted]
  exact ((putLast_holds _ src kind sev a inj hsrc hkind hsev ha).of_kept (kept_markLast _) (by simp)).of_kept (kept_logOffer _ _ _) (by decide)

/-- The sticky bit is set, whatever else the command has reported (R382). -/
theorem fcuRecord_sticky (s : State) {src : Nat} (kind sev a : Nat) (inj : Bool) (h : src < 128) :
    bitOf ((s.fcuRecord src kind sev a inj).fld (stickyOf src)) (src % 32) = true := by
  have after : Kept (s.noteSource src kind sev) (s.fcuRecord src kind sev a inj) (lastFields ++ [] ++ [R.GRNG_LOG_DROP]) := by
    rw [fcuRecord_eq]
    exact ((kept_offerLast _ _ _ _ _ _).trans (kept_markLast _)).trans (kept_logOffer _ _ _)
  have apart : ∀ f ∈ stickyFields, f.key ∉ (lastFields ++ [] ++ [R.GRNG_LOG_DROP]).map Fld.key := by decide
  rw [after _ (apart _ (stickyOf_mem h))]
  exact noteSource_sticky s kind sev h

theorem fcuRecord_logBuf (s : State) (src kind sev a : Nat) (inj : Bool) (room : s.grng.logBuf.length < 256) :
    ∃ r : LogRec, (s.fcuRecord src kind sev a inj).grng.logBuf = s.grng.logBuf ++ [r] ∧ r.type = 1 ∧
      r.pay = leBytes 4 (a % 0x100000000) ++ leBytes 4 (faultWord src kind sev a inj) := by
  have same : ((s.noteSource src kind sev).offerLast src kind sev a inj).markLast.grng = s.grng := by
    rw [State.markLast, offerLast_grng, noteSource_grng]
  rw [fcuRecord_eq, ← same]
  exact logOffer_logBuf _ _ _ (by rw [same]; exact room)

/-! The FIRST record is taken, or left (R383) -/

/-- FIRST was recorded by the command in progress. -/
def Machine.State.markFirst (s : State) : State := { s with fcu := { s.fcu with firstNew := true } }

theorem kept_markFirst (s : State) : Kept s s.markFirst [] := fun _ _ => rfl

/-- A message that is not shadowed takes FIRST where `takesFirst` says so. -/
def Machine.State.offerFirst (s : State) (src kind sev a : Nat) (inj : Bool) : State :=
  if s.takesFirst src sev then (s.putFirst src kind sev a inj).markFirst else s

theorem kept_offerFirst (s : State) (src kind sev a : Nat) (inj : Bool) : Kept s (s.offerFirst src kind sev a inj) firstFields :=
  Kept.ite _ ((kept_putFirst s src kind sev a inj).trans (kept_markFirst _)) (kept_refl _ _)

theorem offerFirst_fcu (s : State) (src kind sev a : Nat) (inj : Bool) :
    ∃ b, (s.offerFirst src kind sev a inj).fcu = { s.fcu with firstNew := b } := by
  unfold State.offerFirst
  split
  · exact ⟨true, rfl⟩
  · exact ⟨s.fcu.firstNew, rfl⟩

theorem offerFirst_empty (s : State) {src kind : Nat} (sev a : Nat) (inj : Bool) (hsrc : src < 128) (hkind : kind < 32)
    (empty : s.fld R.FCU_FIRST_HI_VALID = 0) : FirstHolds (s.offerFirst src kind sev a inj) src kind a s.tick.num := by
  have takes : s.takesFirst src sev = true := by simp [State.takesFirst, State.bit, empty]
  unfold State.offerFirst
  rw [if_pos takes]
  exact (putFirst_holds s src kind sev a inj hsrc hkind).of_kept (kept_markFirst _) (by simp)

/-- A record of an earlier command stays. -/
theorem offerFirst_full (s : State) (src kind sev a : Nat) (inj : Bool) (full : s.fld R.FCU_FIRST_HI_VALID = 1) (old : s.fcu.firstNew = false) :
    s.offerFirst src kind sev a inj = s := by
  have leaves : ¬ s.takesFirst src sev = true := by simp [State.takesFirst, State.bit, full, old]
  exact if_neg leaves

/-! What a message asks for (R384, R391) -/

/-- The reaction of a pair is what the collector's own table says. -/
theorem reactionOf_congr {s u : State} (src kind : Nat) (h : u.fcu.react = s.fcu.react) : u.reactionOf src kind = s.reactionOf src kind := by
  unfold State.reactionOf
  rw [h]

/-- A reaction waits for the end of the command (R384). -/
def Machine.State.queueReaction (s : State) (r : React) : State := { s with fcu := { s.fcu with todo := s.fcu.todo ++ [r] } }

/-- An ERR_N pulse starts, and with AUTO_HOLD sets HOLD (R391). -/
def Machine.State.pulseErr (s : State) : State :=
  let t := { s with fcu := { s.fcu with pulse := true } }
  if t.bit R.FCU_CTRL then t.setFld R.FCU_ERR_HOLD 1 else t

theorem kept_queueReaction (s : State) (r : React) : Kept s (s.queueReaction r) [] := fun _ _ => rfl

theorem kept_pulseErr (s : State) : Kept s s.pulseErr [R.FCU_ERR_HOLD] := by
  unfold State.pulseErr
  extract_lets _ t
  have started : Kept s t [R.FCU_ERR_HOLD] := fun _ _ => rfl
  exact Kept.ite _ (kept_setFld t R.FCU_ERR_HOLD 1) started

theorem pulseErr_fcu (s : State) : s.pulseErr.fcu = { s.fcu with pulse := true } := by
  unfold State.pulseErr
  extract_lets
  split <;> rfl

/-- What a message whose reaction is r asks for: the interrupt, the reaction itself beyond that, and from MAJOR on the pulse. -/
def Machine.State.askReaction (s : State) (r src kind a : Nat) : State :=
  let t := if r = 0 then s else s.setIrq R.FCU_IRQ_STATUS 0
  let u := if 2 ≤ r then t.queueReaction ⟨r, src, a⟩ else t
  if r ≠ 0 ∧ 2 ≤ severityOf src kind then u.pulseErr else u

theorem kept_askReaction (s : State) (r src kind a : Nat) : Kept s (s.askReaction r src kind a) [R.FCU_IRQ_STATUS, R.FCU_ERR_HOLD] := by
  unfold State.askReaction
  extract_lets t u
  have irq : Kept s t [R.FCU_IRQ_STATUS] := Kept.ite _ (kept_refl _ _) (kept_setIrq _ _ _)
  have queue : Kept t u [] := Kept.ite _ (kept_queueReaction _ _) (kept_refl _ _)
  split
  · exact (irq.trans queue).trans (kept_pulseErr u)
  · exact (irq.trans queue).mono (by simp)

theorem askReaction_none (s : State) (src kind a : Nat) : s.askReaction 0 src kind a = s := by
  simp [State.askReaction]

theorem askReaction_fcu (s : State) (r src kind a : Nat) : (s.askReaction r src kind a).fcu =
    { s.fcu with todo := if 2 ≤ r then s.fcu.todo ++ [⟨r, src, a⟩] else s.fcu.todo,
                 pulse := if r ≠ 0 ∧ 2 ≤ severityOf src kind then true else s.fcu.pulse } := by
  unfold State.askReaction
  extract_lets t u
  have irq : t.fcu = s.fcu := ite_cases (P := fun x : State => x.fcu = s.fcu) _ _ _ (fun _ => rfl) (fun _ => State.setIrq_fcu _ _ _)
  have queue : u.fcu = { s.fcu with todo := if 2 ≤ r then s.fcu.todo ++ [⟨r, src, a⟩] else s.fcu.todo } := by
    by_cases waits : 2 ≤ r
    · rw [show u = t.queueReaction ⟨r, src, a⟩ from if_pos waits, if_pos waits, State.queueReaction, irq]
    · rw [show u = t from if_neg waits, if_neg waits, irq]
  split
  · rw [pulseErr_fcu, queue]
  · rw [queue]

theorem askReaction_irq (s : State) {r : Nat} (src kind a : Nat) (asked : r ≠ 0) :
    (s.askReaction r src kind a).fld R.FCU_IRQ_STATUS % 2 = 1 := by
  unfold State.askReaction
  rw [if_neg asked]
  extract_lets t u
  have irq : t.fld R.FCU_IRQ_STATUS % 2 = 1 := by
    simpa only [Nat.pow_zero, Nat.div_one] using bit_of_irq s R.FCU_IRQ_STATUS 0 (by decide)
  have queue : Kept t u [] := Kept.ite _ (kept_queueReaction _ _) (kept_refl _ _)
  have queued : u.fld R.FCU_IRQ_STATUS % 2 = 1 := by rw [queue _ (by simp)]; exact irq
  split
  · rw [kept_pulseErr u _ (by decide)]
    exact queued
  · exact queued

/-! The three outcomes of a message (R384, R390) -/

theorem fcu'_unlisted (s : State) {src kind : Nat} (a : Nat) (h : severityOf src kind = 4) : s.fcu' src kind a = s := if_pos h

theorem fcu'_shadowed (s : State) {src kind : Nat} (a : Nat) (h : severityOf src kind < 3) (covered : s.shadowed src = true) :
    s.fcu' src kind a =
      ((s.fcuRecord src 31 (severityOf src kind) a false).count R.FCU_SHADOW_CNT 1).setIrq R.FCU_IRQ_STATUS 2 := by
  have listed : severityOf src kind ≠ 4 := by omega
  have shadow : (s.shadowed src && decide (severityOf src kind ≠ 3)) = true := by simp [covered]; omega
  unfold State.fcu' State.fcuInj
  extract_lets
  rw [if_neg listed, if_pos shadow]

theorem fcu'_reported (s : State) {src kind : Nat} (a : Nat) (h : severityOf src kind ≠ 4)
    (heard : s.shadowed src = false ∨ severityOf src kind = 3) : s.fcu' src kind a =
      ((s.fcuRecord src kind (severityOf src kind) a false).offerFirst src kind (severityOf src kind) a false).askReaction
        (s.reactionOf src kind) src kind a := by
  have unshadowed : ¬ (s.shadowed src && decide (severityOf src kind ≠ 3)) = true := by
    rcases heard with e | e <;> simp [e]
  have table : ((s.fcuRecord src kind (severityOf src kind) a false).offerFirst src kind (severityOf src kind) a false).reactionOf src kind =
      s.reactionOf src kind := by
    obtain ⟨b, first⟩ := offerFirst_fcu (s.fcuRecord src kind (severityOf src kind) a false) src kind (severityOf src kind) a false
    exact reactionOf_congr src kind (by rw [first, fcuRecord_fcu])
  rw [← table]
  unfold State.fcu' State.fcuInj
  extract_lets
  rw [if_neg h, if_neg unshadowed]
  rfl

/-! A message that is shadowed (R390) -/

section Shadowed

variable {s : State} {src kind : Nat} (a : Nat) (minor : severityOf src kind < 3) (covered : s.shadowed src = true)
include minor covered

theorem shadowed_kept : Kept (s.fcuRecord src 31 (severityOf src kind) a false) (s.fcu' src kind a) [R.FCU_SHADOW_CNT, R.FCU_IRQ_STATUS] := by
  rw [fcu'_shadowed s a minor covered]
  exact (kept_count _ _ _).trans (kept_setIrq _ _ _)

theorem shadowed_fcu : (s.fcu' src kind a).fcu = (s.fcuRecord src 31 (severityOf src kind) a false).fcu := by
  rw [fcu'_shadowed s a minor covered, State.setIrq_fcu, State.count_fcu]

theorem shadowed_last (hsrc : src < 128) (ha : a < 0x1000000000) (new : s.fcu.lastNew = false) :
    LastHolds (s.fcu' src kind a) src 31 (severityOf src kind) a :=
  (fcuRecord_lastHolds s false hsrc (by decide) (by omega) ha new).of_kept (shadowed_kept a minor covered) (by decide)

theorem shadowed_keepsFirst (hsrc : src < 128) : ∀ f ∈ firstFields, (s.fcu' src kind a).fld f = s.fld f := by
  have kept := (kept_fcuRecord s 31 (severityOf src kind) a false hsrc).trans (shadowed_kept a minor covered)
  have apart : ∀ f ∈ firstFields, f.key ∉ (recordFields ++ [R.FCU_SHADOW_CNT, R.FCU_IRQ_STATUS]).map Fld.key := by decide
  exact fun f hf => kept f (apart f hf)

theorem shadowed_counted (hsrc : src < 128) (room : s.fld R.FCU_SHADOW_CNT < 0xFFFFFFFF) :
    (s.fcu' src kind a).fld R.FCU_SHADOW_CNT = s.fld R.FCU_SHADOW_CNT + 1 := by
  have before : (s.fcuRecord src 31 (severityOf src kind) a false).fld R.FCU_SHADOW_CNT = s.fld R.FCU_SHADOW_CNT :=
    kept_fcuRecord s 31 (severityOf src kind) a false hsrc _ (by decide)
  have fits : s.fld R.FCU_SHADOW_CNT + 1 < R.FCU_SHADOW_CNT.size := by
    show s.fld R.FCU_SHADOW_CNT + 1 < 0x100000000
    omega
  rw [fcu'_shadowed s a minor covered, State.fld_setIrq_ne _ _ _ _ (by decide), State.fld_count_same _ _ _ (by rw [before]; exact fits), before]

theorem shadowed_irq : (s.fcu' src kind a).fld R.FCU_IRQ_STATUS / 4 % 2 = 1 := by
  rw [fcu'_shadowed s a minor covered]
  exact bit_of_irq _ R.FCU_IRQ_STATUS 2 (by decide)

theorem shadowed_logBuf (room : s.grng.logBuf.length < 256) :
    ∃ r : LogRec, (s.fcu' src kind a).grng.logBuf = s.grng.logBuf ++ [r] ∧ r.type = 1 ∧
      r.pay = leBytes 4 (a % 0x100000000) ++ leBytes 4 (faultWord src 31 (severityOf src kind) a false) := by
  rw [fcu'_shadowed s a minor covered, State.setIrq_grng, State.count_grng]
  exact fcuRecord_logBuf s src 31 (severityOf src kind) a false room

end Shadowed

/-! A message that is not shadowed (R383, R384, R391) -/

section Reported

variable {s : State} {src kind : Nat} (a : Nat) (listed : severityOf src kind ≠ 4)
  (heard : s.shadowed src = false ∨ severityOf src kind = 3)
include listed heard

theorem reported_kept : Kept (s.fcuRecord src kind (severityOf src kind) a false) (s.fcu' src kind a)
    (firstFields ++ [R.FCU_IRQ_STATUS, R.FCU_ERR_HOLD]) := by
  rw [fcu'_reported s a listed heard]
  exact (kept_offerFirst _ _ _ _ _ _).trans (kept_askReaction _ _ _ _ _)

theorem reported_fcu : ∃ b, (s.fcu' src kind a).fcu =
    { s.fcu with
      kind := FMap.set 0 s.fcu.kind src kind, sev := FMap.set 0 s.fcu.sev src (severityOf src kind)
      count := FMap.set 0 s.fcu.count src (Nat.min (FMap.get 0 s.fcu.count src + 1) 0xFFFF), lastNew := true, firstNew := b
      todo := if 2 ≤ s.reactionOf src kind then s.fcu.todo ++ [⟨s.reactionOf src kind, src, a⟩] else s.fcu.todo
      pulse := if s.reactionOf src kind ≠ 0 ∧ 2 ≤ severityOf src kind then true else s.fcu.pulse } := by
  obtain ⟨b, first⟩ := offerFirst_fcu (s.fcuRecord src kind (severityOf src kind) a false) src kind (severityOf src kind) a false
  exact ⟨b, by rw [fcu'_reported s a listed heard, askReaction_fcu, first, fcuRecord_fcu]⟩

theorem reported_last (hkind : kind < 32) (ha : a < 0x1000000000) (new : s.fcu.lastNew = false) :
    LastHolds (s.fcu' src kind a) src kind (severityOf src kind) a :=
  (fcuRecord_lastHolds s false (FaultStep.source_lt src kind listed) hkind (severityOf_lt_four listed) ha new).of_kept
    (reported_kept a listed heard) (by decide)

theorem reported_takesFirst (hkind : kind < 32) (empty : s.fld R.FCU_FIRST_HI_VALID = 0) :
    FirstHolds (s.fcu' src kind a) src kind a s.tick.num := by
  have hsrc : src < 128 := FaultStep.source_lt src kind listed
  have still : (s.fcuRecord src kind (severityOf src kind) a false).fld R.FCU_FIRST_HI_VALID = 0 := by
    rw [kept_fcuRecord s kind (severityOf src kind) a false hsrc _ (by decide), empty]
  have now : (s.fcuRecord src kind (severityOf src kind) a false).tick = s.tick := by
    rw [(FaultStep.record s src kind (severityOf src kind) a false hsrc).rest]
  rw [fcu'_reported s a listed heard, ← now]
  exact (offerFirst_empty _ (severityOf src kind) a false hsrc hkind still).of_kept (kept_askReaction _ _ _ _ _) (by decide)

theorem reported_keepsFirst (full : s.fld R.FCU_FIRST_HI_VALID = 1) (old : s.fcu.firstNew = false) :
    ∀ f ∈ firstFields, (s.fcu' src kind a).fld f = s.fld f := by
  have recorded := kept_fcuRecord s kind (severityOf src kind) a false (FaultStep.source_lt src kind listed)
  have still : (s.fcuRecord src kind (severityOf src kind) a false).fld R.FCU_FIRST_HI_VALID = 1 := by
    rw [recorded _ (by decide), full]
  have kept : Kept s (s.fcu' src kind a) (recordFields ++ [R.FCU_IRQ_STATUS, R.FCU_ERR_HOLD]) := by
    rw [fcu'_reported s a listed heard, offerFirst_full _ _ _ _ _ _ still (by rw [fcuRecord_fcu]; exact old)]
    exact recorded.trans (kept_askReaction _ _ _ _ _)
  have apart : ∀ f ∈ firstFields, f.key ∉ (recordFields ++ [R.FCU_IRQ_STATUS, R.FCU_ERR_HOLD]).map Fld.key := by decide
  exact fun f hf => kept f (apart f hf)

theorem reported_asksNothing (quiet : s.reactionOf src kind = 0) : (s.fcu' src kind a).fld R.FCU_IRQ_STATUS = s.fld R.FCU_IRQ_STATUS := by
  have recorded := kept_fcuRecord s kind (severityOf src kind) a false (FaultStep.source_lt src kind listed)
  rw [fcu'_reported s a listed heard, quiet, askReaction_none, kept_offerFirst _ _ _ _ _ _ _ (by decide), recorded _ (by decide)]

theorem reported_irq (asked : s.reactionOf src kind ≠ 0) : (s.fcu' src kind a).fld R.FCU_IRQ_STATUS % 2 = 1 := by
  rw [fcu'_reported s a listed heard]
  exact askReaction_irq _ src kind a asked

end Reported

/-- Every message that Table 15-1 lists sets its sticky bit, shadowed or not (R382). -/
theorem fcu'_sticky (s : State) {src kind : Nat} (a : Nat) (listed : severityOf src kind ≠ 4) :
    bitOf ((s.fcu' src kind a).fld (R.FCU_STICKY (src / 32))) (src % 32) = true := by
  have hsrc : src < 128 := FaultStep.source_lt src kind listed
  have hsev : severityOf src kind < 4 := severityOf_lt_four listed
  by_cases shadow : severityOf src kind < 3 ∧ s.shadowed src = true
  case pos =>
    obtain ⟨minor, covered⟩ := shadow
    have apart : ∀ f ∈ stickyFields, f.key ∉ [R.FCU_SHADOW_CNT, R.FCU_IRQ_STATUS].map Fld.key := by decide
    have same := shadowed_kept a minor covered _ (apart _ (stickyOf_mem hsrc))
    exact same ▸ fcuRecord_sticky s 31 (severityOf src kind) a false hsrc
  case neg =>
    have heard : s.shadowed src = false ∨ severityOf src kind = 3 := by
      by_cases fatal : severityOf src kind = 3
      · exact Or.inr fatal
      · exact Or.inl (Bool.eq_false_iff.mpr fun covered => shadow ⟨by omega, covered⟩)
    have apart : ∀ f ∈ stickyFields, f.key ∉ (firstFields ++ [R.FCU_IRQ_STATUS, R.FCU_ERR_HOLD]).map Fld.key := by decide
    have same := reported_kept a listed heard _ (apart _ (stickyOf_mem hsrc))
    exact same ▸ fcuRecord_sticky s kind (severityOf src kind) a false hsrc

/-! The commands -/

theorem runs_faultMessage {s : State} {src : Fin 128} {kind : Fin 32} {a : Nat} {P : State → Prop} (p : P (s.fcu' src.val kind.val a)) :
    Runs (.faultMessage src kind a) s P := runs_of rfl p

/-- `FCU.SRC_INFO` reads the record of the selected source; its count starts again (R382). -/
theorem regRead_srcInfo (s : State) : s.regRead 0x401A005C =
    (FMap.get 0 s.fcu.count (s.fld R.FCU_SRC_SEL) * 0x10000 + FMap.get 0 s.fcu.sev (s.fld R.FCU_SRC_SEL) * 0x4000 +
      FMap.get 0 s.fcu.kind (s.fld R.FCU_SRC_SEL) * 16,
     { s with fcu := { s.fcu with count := FMap.set 0 s.fcu.count (s.fld R.FCU_SRC_SEL) 0 } }) := rfl

theorem runs_readSrcInfo (s : State) (g : Bool) : Runs (.readClear g 0x401A005C) s (fun u =>
    u.mem14.respBus = ⟨.ok, FMap.get 0 s.fcu.count (s.fld R.FCU_SRC_SEL) * 0x10000 +
      FMap.get 0 s.fcu.sev (s.fld R.FCU_SRC_SEL) * 0x4000 + FMap.get 0 s.fcu.kind (s.fld R.FCU_SRC_SEL) * 16⟩ ∧ u.regs = s.regs ∧ u.mem = s.mem) := by
  refine runs_readClear (by decide) (by decide) (by decide) ?_ ?_ ?_
  · simp [State.domBlocks, show domOfAddr 0x401A005C = none by decide]
  · simp [State.readUnsafe]
  · rw [regRead_srcInfo]
    exact ⟨rfl, rfl, rfl⟩

/-- Settles O44: the record of every message is `fcuRecord`'s; what follows it is `reported_…` for one that is heard, `shadowed_…` for one that is not. -/
theorem faultMessages : Obligations.FaultMessages := by
  unfold Obligations.FaultMessages
  refine ⟨?unlisted, ?sticky, ?srcInfo, ?reported, ?shadowed⟩
  case unlisted => exact fun s src kind a unlisted => runs_faultMessage (fcu'_unlisted s a unlisted)
  case sticky => exact fun s src kind a listed => runs_faultMessage (fcu'_sticky s a listed)
  case srcInfo => exact runs_readSrcInfo
  case reported =>
    intro s src kind a ha listed heard lastOld firstOld
    refine runs_faultMessage ?_
    obtain ⟨lo, addrHi, source, kindLast, sev, valid⟩ := reported_last a listed heard kind.isLt ha lastOld
    obtain ⟨b, fcu⟩ := reported_fcu a listed heard
    refine ⟨fcu'_sticky s a listed, lo, addrHi, source, kindLast, sev, valid, ?lastKind, ?lastSev, ?count, ?firstEmpty, ?firstFull, ?nothing, ?asks,
      ?waits, (KeptF.refl s []).fcu' _ _ _, State.fcu'_mem .., State.fcu'_cores .., State.fcu'_tick ..⟩
    case lastKind => rw [fcu, FMap.get_set_same]
    case lastSev => rw [fcu, FMap.get_set_same]
    case count => rw [fcu, FMap.get_set_same]
    case firstEmpty =>
      intro empty
      have first := reported_takesFirst a listed heard kind.isLt empty
      exact ⟨first.lo, first.source, first.kind, first.valid, first.tick⟩
    case firstFull =>
      intro full f hf
      have among : f ∈ firstFields := (by decide : ∀ f ∈ [R.FCU_FIRST_LO, R.FCU_FIRST_HI_ADDR_HI, R.FCU_FIRST_HI_SOURCE, R.FCU_FIRST_HI_KIND,
        R.FCU_FIRST_HI_SEV, R.FCU_FIRST_HI_VALID, R.FCU_FIRST_TICK_LO, R.FCU_FIRST_TICK_HI], f ∈ firstFields) f hf
      exact reported_keepsFirst a listed heard full firstOld f among
    case nothing =>
      intro quiet
      exact ⟨by simp [fcu, quiet], by simp [fcu, quiet], reported_asksNothing a listed heard quiet⟩
    case asks =>
      intro asked
      exact ⟨reported_irq a listed heard asked, fun major => by simp [fcu, asked, major]⟩
    case waits =>
      intro waits
      simp [fcu, waits]
  case shadowed =>
    intro s src kind a ha minor covered lastOld room
    refine runs_faultMessage ?_
    obtain ⟨lo, addrHi, source, kindLast, sev, valid⟩ := shadowed_last a minor covered src.isLt ha lastOld
    have fcu := (shadowed_fcu a minor covered).trans (fcuRecord_fcu ..)
    have first := shadowed_keepsFirst a minor covered src.isLt
    refine ⟨fcu'_sticky s a (by omega), source, kindLast, ?lastKind, shadowed_counted a minor covered src.isLt room, shadowed_irq a minor covered,
      ?todo, ?pulse, first _ (by decide), first _ (by decide), sev, lo, ?lastSev, shadowed_logBuf a minor covered, (KeptF.refl s []).fcu' _ _ _,
      State.fcu'_mem ..⟩
    case lastKind => rw [fcu, FMap.get_set_same]
    case todo => rw [fcu]
    case pulse => rw [fcu]
    case lastSev => rw [fcu, FMap.get_set_same]

end Sys2Proof
